-- ==== Sys2Proof/Word.lean ====
section
/-! DEFINITION. Word.lean: the words of the host link and of the slot record, and the unit numbers of the
part (section 5.4 of 00_scope.md). Bit vectors stand only where the manual has bits or a count that wraps. -/

namespace Sys2Proof

/-- One byte of the host link, of a camera port or of the robot bus. -/
abbrev Byte := BitVec 8

/-- A 16-bit value: a ticket, a TAG, an event's detail word, a grant number; it wraps modulo 65,536. -/
abbrev Half := BitVec 16

/-- A 32-bit value: machine seconds, uptime, a badge; it wraps modulo 2^32. -/
abbrev Long := BitVec 32

/-- A set of defect classes 0..15, class n in place n (section 5.3 of 00_scope.md, R19). -/
abbrev ClassSet := BitVec 16

/-- A set of zones 0..3, zone n in place n. -/
abbrev ZoneSet := BitVec 4

/-- Cameras 0 to 5. -/
abbrev CameraId := Fin 6

/-- Gate A is 0 and gate B is 1. -/
abbrev GateId := Fin 2

/-- Robots 0 to 7. -/
abbrev RobotId := Fin 8

/-- Power groups 0 to 3, and the zones they serve. -/
abbrev GroupId := Fin 4

/-- Doors: the guard doors of zones 0 to 3, and 4 for the cabinet door DOORC. -/
abbrev DoorId := Fin 5

/-- Places 0 to 7 of the grant table. -/
abbrev PlaceId := Fin 8

/-- Counters 0 to 27 of the counter table. -/
abbrev CounterId := Fin 28

/-- The largest value of a saturating 32-bit count. -/
abbrev maxLong : Nat := 4294967295

/-- The largest value of a saturating 16-bit count and of a detail word. -/
abbrev maxHalf : Nat := 65535

end Sys2Proof
end

