-- ==== Sys2Proof/Syntax.lean ====
section
/-! DEFINITION. Syntax.lean: the commands of the part, one constructor per row of spec/opcode_table.json. A unit
number of a field input is a Fin (no other pin exists); a field of a host request is the unsigned number its bytes
form (R187), so an out-of-range request field can be written down and is judged by the rule that owns it. A host
request carries its TAG, which the reply echoes (R180). -/

namespace Sys2Proof

/-- The commands. The docstring of each names the rule of its row. -/
inductive Instr where
  /-- POWER_ON_RESET (R5): `powerUp` tells power-up from a low level on RESETn (R151); `baudHigh` is the BAUD strap (R175). -/
  | powerOnReset (powerUp baudHigh : Bool)
  /-- MS_TICK (R151). -/
  | msTick
  /-- SECONDS_ROLLOVER (R152): the tick that finds the millisecond count at 999. -/
  | secondsRollover
  /-- ENC_COUNTED_EDGE (R1): `infActive` is the level of INF when the edge is taken (R14). -/
  | encCountedEdge (infActive : Bool)
  /-- VERDICT_DEADLINE (R42) of one camera. -/
  | verdictDeadline (camera : CameraId)
  /-- CONFIRM_EXPIRY (R55) of one gate. -/
  | confirmExpiry (gate : GateId)
  /-- FILL_EXIT_LIMIT (R76) of one robot's job. -/
  | fillExitLimit (robot : RobotId)
  /-- FILL_APPROACH_LIMIT (R75) of one robot's job. -/
  | fillApproachLimit (robot : RobotId)
  /-- TRIGGER_PULSE_END (R37): the 50 µs of one camera's trigger pulse have passed. -/
  | triggerPulseEnd (camera : CameraId)
  /-- GATE_PULSE_END (R51). -/
  | gatePulseEnd (gate : GateId)
  /-- STRAY_EDGE (R3). -/
  | strayEdge
  /-- RUN_RISE (R3). -/
  | runRise
  /-- RUN_FALL (R4). -/
  | runFall
  /-- VERDICT (R40): a complete VERDICT record of a camera. -/
  | verdict (camera : CameraId) (trigger : Byte) (classes : ClassSet)
  /-- STATUS_READY (R32): a complete STATUS record with the value READY. -/
  | statusReady (camera : CameraId)
  /-- STATUS_NOT_READY (R33): a complete STATUS record with the value NOT_READY. -/
  | statusNotReady (camera : CameraId)
  /-- STATUS_UNKNOWN_VALUE (R31): a complete STATUS record with any other value. -/
  | statusUnknownValue (camera : CameraId) (value : Byte)
  /-- CAMERA_KIND_BYTE (R29): a byte completed with CKNDn low. -/
  | cameraKindByte (camera : CameraId) (value : Byte)
  /-- STRAY_PARAMETER (R30): a byte completed with CKNDn high while the receiver is IDLE. -/
  | strayParameter (camera : CameraId) (value : Byte)
  /-- CAMERA_LOST (R34). -/
  | cameraLost (camera : CameraId)
  /-- GATE_CONFIRM (R53): a rising edge on GCNFA or GCNFB. -/
  | gateConfirm (gate : GateId)
  /-- BUS_TRANSACTION_START (R84). -/
  | busTransactionStart
  /-- BROADCAST_HOLD_SENT (R83). -/
  | broadcastHoldSent
  /-- COMMAND_TRANSACTION_DONE (R87): `acked` when the robot acknowledged every byte sent to it. -/
  | commandTransactionDone (acked : Bool)
  /-- POLL_DONE (R86): `acked` as above, and the two bytes the robot returned. -/
  | pollDone (acked : Bool) (statusByte codeByte : Byte)
  /-- POLL_TIMER (R86) of one robot. -/
  | pollTimer (robot : RobotId)
  /-- CLOCK_HOLD_TIMEOUT (R82): the robot has held RBCLK low for one more full millisecond. -/
  | clockHoldTimeout (robot : RobotId)
  /-- FLOW_PULSE (R96): a pulse on FLWn. -/
  | flowPulse (robot : RobotId)
  /-- SETTLE_END (R77). -/
  | settleEnd (robot : RobotId)
  /-- NO_FLOW (R80). -/
  | noFlow (robot : RobotId)
  /-- VALVE_CHECK_EXPIRY (R79). -/
  | valveCheckExpiry (robot : RobotId)
  /-- VALVE_FEEDBACK_CHANGE (R79): VFBn now shows the valve open or closed. -/
  | valveFeedbackChange (robot : RobotId) (showsOpen : Bool)
  /-- VALVE_TIME_SECOND (R158). -/
  | valveTimeSecond (robot : RobotId)
  /-- MAIN_SWITCH_CONTACT_CHANGE (R108): the levels of the two contacts after the change. -/
  | mainSwitchContactChange (msaClosed msbClosed : Bool)
  /-- SWITCH_DISCREPANCY (R109). -/
  | switchDiscrepancy
  /-- MIRROR_CONTACT_CHANGE (R117): KFn now reports the contactor closed or open. -/
  | mirrorContactChange (group : GroupId) (contactorClosed : Bool)
  /-- PULLIN_TIMEOUT (R117). -/
  | pullinTimeout (group : GroupId)
  /-- FALL_OUT (R118). -/
  | fallOut (group : GroupId)
  /-- DROPOUT_TIMEOUT (R120). -/
  | dropoutTimeout (group : GroupId)
  /-- WELD_DETECTED (R121). -/
  | weldDetected (group : GroupId)
  /-- DOOR_CHANGE (R127): the door now stands open or closed. -/
  | doorChange (door : DoorId) (isOpen : Bool)
  /-- DRAIN_END (R133) of the grant in one place. -/
  | drainEnd (place : PlaceId)
  /-- DRAIN_LIMIT (R134). -/
  | drainLimit (place : PlaceId)
  /-- ISOLATION_COMPLETE (R135). -/
  | isolationComplete (place : PlaceId)
  /-- GRANT_EXPIRY (R138). -/
  | grantExpiry (place : PlaceId)
  /-- FRAME_CHECKED (R178): the byte that completes the frame being assembled. -/
  | frameChecked (value : Byte)
  /-- LENGTH_ABANDON (R176): an out-of-range LEN byte. -/
  | lengthAbandon (value : Byte)
  /-- GAP_TIMEOUT (R177). -/
  | gapTimeout
  /-- REQUEST_TAKEN (R180). -/
  | requestTaken
  /-- IDENT (R183). -/
  | ident (tag : Half)
  /-- STATUS (R184). -/
  | status (tag : Half)
  /-- RESTART (R185). -/
  | restart (tag : Half)
  /-- TRACK_CONFIG (R8). -/
  | trackConfig (tag : Half) (pitch : Half) (length : Byte) (infeedStart infeedEnd : Half)
  /-- CAMERA_CONFIG (R24). -/
  | cameraConfig (tag : Half) (camera enabled position : Byte) (phase classMask : Half) (required deadline : Byte)
  /-- GATE_CONFIG (R45). -/
  | gateConfig (tag : Half) (gate enabled position : Byte) (phase : Half) (width : Byte) (classMask : Half) (window : Byte)
  /-- FILLER_CONFIG (R71). -/
  | fillerConfig (tag : Half) (entry exit approach : Byte)
  /-- TRACK_READ (R21). -/
  | trackRead (tag : Half) (position : Byte)
  /-- TRACK_TALLY (R20). -/
  | trackTally (tag : Half) (clear : Byte)
  /-- TRACK_FLUSH (R22). -/
  | trackFlush (tag : Half)
  /-- ROBOT_CONFIG (R62). -/
  | robotConfig (tag : Half) (robot zone address : Byte)
  /-- RECIPE_LOAD (R91): the nine recipe values in the order of section 11.1. -/
  | recipeLoad (tag : Half) (robot : Byte) (target : Half) (kFactor : Long) (underTol overTol minOpen afterflowMax : Half) (shift : Byte) (settle initial : Half)
  /-- ROBOT_MODE (R64). -/
  | robotMode (tag : Half) (robot mode : Byte)
  /-- ROBOT_READ (R89). -/
  | robotRead (tag : Half) (robot : Byte)
  /-- GROUP_CLOSE (R116). -/
  | groupClose (tag : Half) (group : Byte)
  /-- GROUP_OPEN (R119). -/
  | groupOpen (tag : Half) (group : Byte)
  /-- POWER_READ (R126). -/
  | powerRead (tag : Half)
  /-- FAULT_CLEAR naming a gate (R56). -/
  | faultClearGate (tag : Half) (number : Byte)
  /-- FAULT_CLEAR naming a robot (R65). -/
  | faultClearRobot (tag : Half) (number : Byte)
  /-- FAULT_CLEAR naming the switch (R112); the number is 0 (R182). -/
  | faultClearSwitch (tag : Half) (number : Byte)
  /-- FAULT_CLEAR naming a group (R122). -/
  | faultClearGroup (tag : Half) (number : Byte)
  /-- FAULT_CLEAR naming a zone (R148). -/
  | faultClearZone (tag : Half) (number : Byte)
  /-- FAULT_CLEAR naming the cabinet (R148); the number is 0 (R182). -/
  | faultClearCabinet (tag : Half) (number : Byte)
  /-- LINE_RELEASE (R59). -/
  | lineRelease (tag : Half)
  /-- GRANT_REQUEST (R131). -/
  | grantRequest (tag : Half) (kind zones : Byte) (badge : Long) (duration : Half)
  /-- GRANT_END (R140). -/
  | grantEnd (tag : Half) (number : Half)
  /-- GRANT_EXTEND (R142). -/
  | grantExtend (tag : Half) (number minutes : Half)
  /-- GRANT_READ (R150). -/
  | grantRead (tag : Half) (place : Byte)
  /-- TIME_SET (R154). -/
  | timeSet (tag : Half) (seconds : Long)
  /-- TIME_READ (R156). -/
  | timeRead (tag : Half)
  /-- COUNTER_LOAD (R163). -/
  | counterLoad (tag : Half) (counter : Byte) (total : Long)
  /-- COUNTER_LIMITS (R160). -/
  | counterLimits (tag : Half) (counter : Byte) (warn due : Long) (margin zone : Byte)
  /-- COUNTER_RESET (R164). -/
  | counterReset (tag : Half) (counter : Byte)
  /-- COUNTER_READ (R167). -/
  | counterRead (tag : Half) (counter : Byte)
  /-- EVENT_READ (R172). -/
  | eventRead (tag : Half) (count : Byte)
  /-- CAMERA_CLOCK_EDGE (R27): a CCLKn rising edge taken with CSELn low, and the levels of CDATn and CKNDn. -/
  | cameraClockEdge (camera : CameraId) (data kindHigh : Bool)
  /-- CAMERA_SELECT_RISE (R28). -/
  | cameraSelectRise (camera : CameraId)
  /-- CAMERA_PARAMETER_BYTE (R29): a byte completed with CKNDn high. -/
  | cameraParameterByte (camera : CameraId) (value : Byte)
  /-- RXD_BYTE_TAKEN (R176). -/
  | rxdByteTaken (value : Byte)
  /-- REPLY_SENT (R180). -/
  | replySent
  /-- ROBOT_CLOCK_RELEASE (R82). -/
  | robotClockRelease (robot : RobotId)
  deriving DecidableEq, Repr

end Sys2Proof
end

