-- ==== Sys2Proof/Decode.lean ====
section
/-! DEFINITION. Decode.lean: commands spelled as words. No row of spec/opcode_table.json gives bits, so no word spells
a command. The frames of the host link, whose bytes the manual lays out, are read in Machine/Link.lean (R176 to R187). -/

namespace Sys2Proof

/-- The command that the low `nbits` bits of `w` spell by the table's bits: none, since no row gives bits. -/
def decodeTableWord (_nbits _w : Nat) : Option Instr := none

end Sys2Proof
end

