-- ==== Sys2Proof/Config.lean ====
section
/-! DEFINITION. Config.lean: what an implementation of the part fixes and the manual leaves open. -/

namespace Sys2Proof.Config

/-- The seed of the design revision. R183 says only that the revision is a number 1..255: nothing constrains
this constant (notes/assumptions/1.md). -/
opaque revisionSeed : Nat

/-- The design revision that IDENT returns (R183), kept within the 1..255 the rule gives it. -/
def revision : Byte := BitVec.ofNat 8 (1 + revisionSeed % 255)

/-- The event queue holds at most 64 records (R169). -/
abbrev queueCapacity : Nat := 64

/-- A camera's outstanding list and its late list hold at most 16 entries each (R38, R41). -/
abbrev listCapacity : Nat := 16

/-- The flow counter stays at this value once it has reached it (R96). -/
abbrev flowCapacity : Nat := 1048575

end Sys2Proof.Config
end

