-- ==== Sys2Proof/Machine/State.lean ====
section
/-! DEFINITION. State.lean: everything the manual gives the part as state, as plain data, block by block, and the
state after a power-on reset. Outputs the manual derives from other state (LSTOP, ATN, KCn, DRELn, the lockout counts,
LOCKED) are functions in Flags.lean. -/

namespace Sys2Proof.Machine

/-- Why the part would stop. No rule of the manual stops the part, so no command raises a fault: the type has no value,
which is safe (nothing can be claimed of a stop). -/
inductive Fault where
  deriving DecidableEq, Repr

/-- Why a command has no meaning in the model. -/
inductive Refusal where
  /-- Raised by exec alone, for a command the model gives no meaning yet; safe, since nothing follows from a stop. -/
  | notModelled (mnemonic : String)
  deriving DecidableEq, Repr

/-- The levels of the field inputs, as last reported. Resets read them and do not change them (R5, R113, R125, R149). -/
structure Pins where
  /-- RUN is high: the run window is open (R4). -/
  run : Bool
  /-- MSA reads closed (6.1). -/
  msa : Bool
  /-- MSB reads closed (6.1). -/
  msb : Bool
  /-- KFn reports the contactor closed (6.2). -/
  mirror : Vector Bool 4
  /-- DOOR0 to DOOR3 and DOORC stand open (R127). -/
  doors : Vector Bool 5
  /-- VFBn shows the valve open (R79). -/
  feedback : Vector Bool 8
  /-- CSELn is high: the camera has not selected its port (R27, R28). -/
  deselected : Vector Bool 6
  deriving DecidableEq, Repr

/-- The Pitch Unit (1.1). -/
structure PitchUnit where
  /-- The active pitch length P. -/
  length : Nat
  /-- The pitch counter, 0..P−1. -/
  counter : Nat
  /-- The stray flag (R3). -/
  stray : Bool
  /-- The infeed flag (R14). -/
  infeed : Bool
  /-- The active start of the infeed window. -/
  windowStart : Nat
  /-- The active end of the infeed window. -/
  windowEnd : Nat
  deriving DecidableEq, Repr

/-- Occupancy of a slot (1.3.2). -/
inductive Occupancy where
  | empty | occupied | removed
  deriving DecidableEq, Repr

/-- Fill outcome of a slot (1.3.2). -/
inductive FillOutcome where
  | none | pending | ok | under | over | aborted | timeout | skipped
  deriving DecidableEq, Repr

/-- State of a verdict entry (2.4): the camera classes are present with PASS and DEFECT alone. -/
inductive Verdict where
  | awaited
  | pass (classes : ClassSet)
  | defect (classes : ClassSet)
  | missing
  deriving DecidableEq, Repr

/-- One entry of a slot's verdict list (2.4). -/
structure VerdictEntry where
  camera : CameraId
  verdict : Verdict
  deriving DecidableEq, Repr

/-- Reject state of a slot (1.3.2). -/
inductive RejectState where
  | none | fired | confirmed | unconfirmed
  deriving DecidableEq, Repr

/-- The fill volume in tenths, 0..65,535, and the settle cut flag, which is present whenever the volume is (R17). -/
structure FillVolume where
  tenths : Nat
  cut : Bool
  deriving DecidableEq, Repr

/-- A slot record (1.3.2). -/
structure Slot where
  ticket : Half
  occupancy : Occupancy
  fill : FillOutcome
  robot : Option RobotId
  volume : Option FillVolume
  verdicts : List VerdictEntry
  defects : ClassSet
  /-- NONE is `none`; REJECT is `some` of the deciding gate, which is present exactly with REJECT (R17). -/
  decision : Option GateId
  reject : RejectState
  deriving DecidableEq, Repr

/-- The creation values of R16 for a slot that is EMPTY. -/
def Slot.fresh (ticket : Half) : Slot :=
  { ticket, occupancy := .empty, fill := .none, robot := none, volume := none, verdicts := [], defects := 0,
    decision := none, reject := .none }

/-- The seven tallies (R20), each 0..4,294,967,295. -/
structure Tallies where
  created : Nat
  createdOccupied : Nat
  accepted : Nat
  passedDefects : Nat
  rejectedConfirmed : Nat
  escapes : Nat
  fillsSkipped : Nat
  deriving DecidableEq, Repr

/-- The Container Track (1.3). -/
structure Track where
  ring : Vector Slot 128
  head : Fin 128
  nextTicket : Half
  /-- The active track length L, 16..128. -/
  length : Nat
  tallies : Tallies
  deriving DecidableEq, Repr

/-- The settings of one camera (R24). -/
structure CameraSettings where
  enabled : Bool
  position : Nat
  phase : Nat
  mask : ClassSet
  required : Bool
  deadline : Nat
  deriving DecidableEq, Repr

/-- The staged running settings of one camera, each present or absent (R7). -/
structure CameraStaged where
  phase : Option Nat
  mask : Option ClassSet
  required : Option Bool
  deadline : Option Nat
  deriving DecidableEq, Repr

/-- Camera state (2.3). -/
inductive CameraState where
  | off | waiting | ready | notReady | lost
  deriving DecidableEq, Repr

/-- One entry of a camera's outstanding list (R37). -/
structure Outstanding where
  number : Byte
  ticket : Half
  deriving DecidableEq, Repr

/-- The record kinds a port knows (11.4). -/
inductive RecordKind where
  | verdict | status
  deriving DecidableEq, Repr

/-- Receiver state of a camera port, with the record in progress (R29). -/
inductive PortReceiver where
  | idle
  | collecting (kind : RecordKind) (params : List Byte)
  | discarding
  deriving DecidableEq, Repr

/-- One camera port (chapter 2). -/
structure Camera where
  cfg : CameraSettings
  staged : CameraStaged
  state : CameraState
  /-- The number the next trigger will carry. -/
  trigger : Byte
  outstanding : List Outstanding
  late : List Byte
  /-- The silence timer, 0..2,000 ms. -/
  silence : Nat
  receiver : PortReceiver
  /-- The bits of the byte being assembled, first bit first (R27). -/
  bits : List Bool
  strayCount : Nat
  /-- TRGn is active (R37). -/
  pulse : Bool
  deriving DecidableEq, Repr

/-- The settings of one gate (R45). -/
structure GateSettings where
  enabled : Bool
  position : Nat
  phase : Nat
  width : Nat
  mask : ClassSet
  window : Nat
  deriving DecidableEq, Repr

/-- The staged running settings of one gate, each present or absent (R7). -/
structure GateStaged where
  phase : Option Nat
  width : Option Nat
  mask : Option ClassSet
  window : Option Nat
  deriving DecidableEq, Repr

/-- One entry of a gate's confirm list (R52). -/
structure ConfirmEntry where
  ticket : Half
  age : Nat
  deriving DecidableEq, Repr

/-- One reject gate (chapter 3). -/
structure Gate where
  cfg : GateSettings
  staged : GateStaged
  pendingFire : Option Half
  /-- Energised with so many ticks left to its end time, or de-energised (R51). -/
  output : Option Nat
  confirm : List ConfirmEntry
  /-- The consecutive-unconfirmed count, 0..255. -/
  unconfirmed : Nat
  latch : Bool
  deriving DecidableEq, Repr

/-- The stop-cause set (R58): a member is true. -/
structure StopCauses where
  escape : Bool
  gateFault : Bool
  switchOff : Bool
  discrepancy : Bool
  cabinetIntrusion : Bool
  deriving DecidableEq, Repr

/-- The fill section (4.4): fill entry e, fill exit x, approach limit a. -/
structure FillSection where
  entry : Nat
  exit : Nat
  approach : Nat
  deriving DecidableEq, Repr

/-- A recipe (5.1). -/
structure Recipe where
  target : Nat
  kFactor : Nat
  underTol : Nat
  overTol : Nat
  minOpen : Nat
  afterflowMax : Nat
  shift : Nat
  settle : Nat
  initial : Nat
  deriving DecidableEq, Repr

/-- Robot mode (4.2). -/
inductive RobotMode where
  | off | manual | production | service | faulted | lost
  deriving DecidableEq, Repr

/-- What a robot last reported (4.1). -/
inductive RobotStatus where
  | retracted | moving | inPosition | jogging
  | fault (code : Byte)
  deriving DecidableEq, Repr

/-- Why a robot is FAULTED or LOST (4.1). -/
inductive FaultReason where
  | robot (code : Byte)
  | valveOpen | valveClose | valveStuck | bus
  deriving DecidableEq, Repr

/-- State of a fill job (4.5). -/
inductive JobState where
  | approach | filling | settling
  deriving DecidableEq, Repr

/-- The close count and what it was made from (R94, R95): N, â and C. -/
structure CloseCalc where
  targetPulses : Nat
  rounded : Nat
  count : Nat
  deriving DecidableEq, Repr

/-- A fill job (4.5); its flow count is the Dose Unit's flow counter. -/
structure Job where
  ticket : Half
  state : JobState
  opened : Bool
  recipe : Recipe
  /-- Present while the job is in FILLING or SETTLING. -/
  close : Option CloseCalc
  settleTimer : Nat
  noFlowTimer : Nat
  deriving DecidableEq, Repr

/-- One record of the robot table (4.1). -/
structure Robot where
  zone : GroupId
  address : Nat
  mode : RobotMode
  jog : Bool
  resume : Bool
  armed : Bool
  held : Bool
  job : Option Job
  lastStatus : Option RobotStatus
  reason : Option FaultReason
  /-- The consecutive failure count, 0..3 (R87). -/
  failures : Nat
  /-- Milliseconds since the last POLL was raised, 0..4 (R86). -/
  pollTimer : Nat
  deriving DecidableEq, Repr

/-- How a fill that opened its valve ended (R104). -/
inductive Ending where
  | reported | cut | timeout | aborted
  deriving DecidableEq, Repr

/-- The class of a fill (R100). -/
inductive FillClass where
  | ok | under | over
  deriving DecidableEq, Repr

/-- The learning result of a fill (R104). -/
inductive Learning where
  | learned | outlier | notLearned
  deriving DecidableEq, Repr

/-- A Dose Unit's last-fill record (R104). -/
structure LastFill where
  ticket : Half
  ending : Ending
  close : CloseCalc
  flow : Nat
  volume : Nat
  /-- Present for REPORTED and CUT. -/
  fillClass : Option FillClass
  /-- The actual afterflow A, present for REPORTED and CUT. -/
  afterflow : Option Nat
  learning : Learning
  estimateAfter : Nat
  deriving DecidableEq, Repr

/-- One Dose Unit (5.1, 4.6). -/
structure Dose where
  active : Option Recipe
  staged : Option Recipe
  /-- The afterflow estimate E, in sixteenths of a pulse. -/
  estimate : Nat
  flow : Nat
  /-- The counting window is open (R96). -/
  window : Bool
  lastFill : Option LastFill
  /-- VLVn is energised. -/
  valve : Bool
  /-- The running open or close check and its timer (R79); it checks for the level VLVn has. -/
  check : Option Nat
  drip : Nat
  deriving DecidableEq, Repr

/-- The commands of the robot bus (4.7). -/
inductive BusCommand where
  | fillStart (ticket : Half)
  | fillDone | fillAbort | hold | release | jogOn | jogOff | poll
  deriving DecidableEq, Repr

/-- One command queued for a robot. `serial` names the entry; `turn` orders it among the robots (R84): the moment it was
raised, or of its first failure. -/
structure BusEntry where
  serial : Nat
  turn : Nat
  command : BusCommand
  /-- It has failed once (R87). -/
  failed : Bool
  deriving DecidableEq, Repr

/-- One robot's two places in the command queue and the commands waiting for a place (R85). -/
structure RobotQueue where
  places : List BusEntry
  waiting : List BusEntry
  deriving DecidableEq, Repr

/-- A transaction on the bus: the broadcast HOLD, or one addressed to a robot with the phase FILL_START carries (R82, R83). -/
inductive Transaction where
  | broadcastHold
  | addressed (robot : RobotId) (serial : Nat) (command : BusCommand) (phase : Nat)
  deriving DecidableEq, Repr

/-- The Robot Bus Master (4.7). -/
structure Bus where
  queues : Vector RobotQueue 8
  /-- A broadcast HOLD is pending (R83). -/
  broadcast : Bool
  transaction : Option Transaction
  /-- The robot holding RBCLK low past 1 ms (R82). -/
  clockHeldBy : Option RobotId
  lastPolled : RobotId
  /-- The model's own count of raised commands and first failures, which orders them (R84). -/
  moment : Nat
  deriving DecidableEq, Repr

/-- Switch state (6.1). -/
inductive SwitchState where
  | off | on | discrepant
  deriving DecidableEq, Repr

/-- The main switch (6.1). -/
structure MainSwitch where
  state : SwitchState
  /-- The alike timer: running with its value, or stopped. -/
  alike : Option Nat
  /-- The discrepancy latch. -/
  latch : Bool
  deriving DecidableEq, Repr

/-- State of a power group (6.2). -/
inductive GroupState where
  | isOpen | closing | closed | opening | faultPullin | faultWeld
  deriving DecidableEq, Repr

/-- One power group (6.2): the coil follows the state (R114). -/
structure Group where
  state : GroupState
  /-- The supervision timer: running with its value, or stopped. -/
  timer : Option Nat
  deriving DecidableEq, Repr

/-- Grant kind (7.2). -/
inductive GrantKind where
  | zoneEntry | jog | cabinet
  deriving DecidableEq, Repr

/-- State of a live grant (7.3). -/
inductive GrantState where
  | draining | isolating | isOpen | overdue | awaitingClose | isolationFailed
  deriving DecidableEq, Repr

/-- A grant record (7.2). -/
structure Grant where
  number : Half
  kind : GrantKind
  zones : ZoneSet
  badge : Long
  duration : Nat
  drainStart : Long
  expiry : Long
  drainTimer : Nat
  state : GrantState
  doorOpened : Bool
  deriving DecidableEq, Repr

/-- The Access Controller (chapter 7). -/
structure Access where
  grants : Vector (Option Grant) 8
  nextNumber : Half
  zoneLatch : Vector Bool 4
  cabinetLatch : Bool
  deriving DecidableEq, Repr

/-- A share of the coming tick that a command of its own has already taken: a robot's poll timer (POLL_TIMER) or its
valve-open millisecond (VALVE_TIME_SECOND). -/
inductive TickShare where
  | poll (robot : RobotId)
  | valveTime (robot : RobotId)
  deriving DecidableEq, Repr

/-- The Time Base (8.1). -/
structure TimeBase where
  ms : Nat
  seconds : Long
  valid : Bool
  staged : Option Long
  uptime : Long
  /-- The model's own: the shares of the coming tick already taken, which that tick does not take again. -/
  ahead : List TickShare
  deriving DecidableEq, Repr

/-- State of a counter record (8.4). -/
inductive CounterState where
  | unloaded | normal | warn | due | overrun
  deriving DecidableEq, Repr

/-- A record of the counter table (8.3). `zone` is the zone set by COUNTER_LIMITS, which counters 20 to 27 use. -/
structure Counter where
  total : Nat
  remainder : Nat
  warn : Nat
  due : Nat
  margin : Nat
  zone : GroupId
  state : CounterState
  deriving DecidableEq, Repr

/-- Event kinds, in the order of section 9.4. -/
inductive EventKind where
  | strayMotion | phaseClamped | escape | cameraReady | cameraNotReady | cameraLost | brokenRecord | unknownRecord
  | unmatchedVerdict | triggerOverrun | rejectUnconfirmed | unexpectedReject | gateFault | robotMode | robotLost
  | valveFault | noFlow | valveLeak | afterflowOutlier | switchOn | switchOff | switchDiscrepancy | groupState
  | pullinFault | weldFault | grantState | grantOverdue | isolationFailed | intrusion | timeSet | counterState
  | eventsLost | restarted
  deriving DecidableEq, Repr

/-- An event record (R168). -/
structure EventRecord where
  sequence : Half
  seconds : Long
  ms : Nat
  valid : Bool
  kind : EventKind
  unit : Nat
  detail1 : Half
  detail2 : Half
  deriving DecidableEq, Repr

/-- The account of R170 since the last reset; `overflowed` tells that an event has found the lost count at its limit,
where R170 no longer holds the account. -/
structure Account where
  raised : Nat
  delivered : Nat
  countedLost : Nat
  overflowed : Bool
  deriving DecidableEq, Repr

/-- The Event Queue (chapter 9). -/
structure EventQueue where
  queue : List EventRecord
  nextSequence : Half
  lost : Nat
  account : Account
  deriving DecidableEq, Repr

/-- Reply codes (5.9). -/
inductive ReplyCode where
  | ok | unknownKind | badLength | badField | running | state | interlock | full | notFound | unloaded
  deriving DecidableEq, Repr

/-- A checked request frame (10.2). -/
structure Frame where
  kind : Byte
  tag : Half
  fields : List Byte
  deriving DecidableEq, Repr

/-- A reply being sent on TXD (R180). -/
structure Reply where
  kind : Byte
  tag : Half
  code : ReplyCode
  fields : List Byte
  deriving DecidableEq, Repr

/-- Receiver state of the host link, with the frame being assembled (R176). -/
inductive LinkReceiver where
  | hunt
  | length
  | body (len : Byte) (bytes : List Byte)
  deriving DecidableEq, Repr

/-- The Link Controller (chapter 10). -/
structure Link where
  /-- The rate is 460,800 bits per second (R175). -/
  fast : Bool
  receiver : LinkReceiver
  /-- The gap timer: running with its value, or stopped (R177). -/
  gap : Option Nat
  buffer : List Frame
  /-- The transmitter: idle, or sending a reply. -/
  sending : Option Reply
  gapErrors : Nat
  lengthErrors : Nat
  checkErrors : Nat
  overrunErrors : Nat
  deriving DecidableEq, Repr

end Sys2Proof.Machine

namespace Sys2Proof.Machine

/-- The state of the part, and the queue of the commands that wait. -/
structure State where
  pins : Pins
  pitch : PitchUnit
  track : Track
  cameras : Vector Camera 6
  gates : Vector Gate 2
  stops : StopCauses
  fill : FillSection
  robots : Vector Robot 8
  doses : Vector Dose 8
  bus : Bus
  mainSwitch : MainSwitch
  groups : Vector Group 4
  access : Access
  time : TimeBase
  counters : Vector Counter 28
  events : EventQueue
  link : Link
  /-- The commands that wait, first in, first out: the model's own field. -/
  pending : List Instr
  deriving DecidableEq, Repr

/-- Tallies after both resets (R23). -/
def Tallies.zero : Tallies :=
  { created := 0, createdOccupied := 0, accepted := 0, passedDefects := 0, rejectedConfirmed := 0, escapes := 0,
    fillsSkipped := 0 }

/-- The Pitch Unit after both resets (R5). -/
def PitchUnit.reset : PitchUnit :=
  { length := 1024, counter := 0, stray := false, infeed := false, windowStart := 0, windowEnd := 1023 }

/-- The ring index of the slot at position p (R12). -/
def ringIndex (head : Fin 128) (p : Nat) : Fin 128 :=
  ⟨(head.val + (128 - p % 128)) % 128, Nat.mod_lt _ (by decide)⟩

/-- The Container Track after both resets (R23): head 0, and the record at position p carries ticket 65,535 − p. The
record at ring index i stands at position (0 − i) mod 128. -/
def Track.reset : Track :=
  { ring := Vector.ofFn fun i : Fin 128 => Slot.fresh (65535#16 - BitVec.ofNat 16 ((128 - i.val) % 128)),
    head := 0, nextTicket := 0, length := 128, tallies := Tallies.zero }

/-- Nothing staged (R26). -/
def CameraStaged.absent : CameraStaged := { phase := none, mask := none, required := none, deadline := none }

/-- A camera after both resets (R26). -/
def Camera.reset : Camera :=
  { cfg := { enabled := false, position := 1, phase := 0, mask := 0, required := false, deadline := 1 },
    staged := CameraStaged.absent, state := .off, trigger := 0, outstanding := [], late := [], silence := 0,
    receiver := .idle, bits := [], strayCount := 0, pulse := false }

/-- Nothing staged (R47). -/
def GateStaged.absent : GateStaged := { phase := none, width := none, mask := none, window := none }

/-- A gate after both resets (R47). -/
def Gate.reset : Gate :=
  { cfg := { enabled := false, position := 1, phase := 0, width := 20, mask := 0, window := 2 },
    staged := GateStaged.absent, pendingFire := none, output := none, confirm := [], unconfirmed := 0, latch := false }

/-- The stop-cause set after both resets (R60). -/
def StopCauses.reset : StopCauses :=
  { escape := false, gateFault := false, switchOff := true, discrepancy := false, cabinetIntrusion := false }

/-- Robot n after both resets (R63). -/
def Robot.reset (n : RobotId) : Robot :=
  { zone := ⟨n.val / 2, by omega⟩, address := n.val + 1, mode := .off, jog := false, resume := false, armed := false,
    held := true, job := none, lastStatus := none, reason := none, failures := 0, pollTimer := 0 }

/-- A Dose Unit after both resets (R63, R90). -/
def Dose.reset : Dose :=
  { active := none, staged := none, estimate := 0, flow := 0, window := false, lastFill := none, valve := false,
    check := none, drip := 0 }

/-- The Robot Bus Master after both resets (R63). The master releases its lines, and R63 does not speak of a robot that still
holds RBCLK low; that the part forgets the holder and takes the bus as free is a DESIGN CHOICE
(notes/assumptions/46.md). -/
def Bus.reset : Bus :=
  { queues := Vector.replicate 8 { places := [], waiting := [] }, broadcast := false, transaction := none,
    clockHeldBy := none, lastPolled := 7, moment := 0 }

/-- The Access Controller after both resets, before the doors are read (R149). -/
def Access.reset : Access :=
  { grants := Vector.replicate 8 none, nextNumber := 1, zoneLatch := Vector.replicate 4 false, cabinetLatch := false }

/-- A counter record after power-on reset (R166). -/
def Counter.reset : Counter :=
  { total := 0, remainder := 0, warn := 0, due := 0, margin := 0, zone := 0, state := .unloaded }

/-- The account after both resets (R170). -/
def Account.zero : Account := { raised := 0, delivered := 0, countedLost := 0, overflowed := false }

/-- The Event Queue after power-on reset (R174). -/
def EventQueue.reset : EventQueue := { queue := [], nextSequence := 0, lost := 0, account := Account.zero }

/-- The Link Controller after power-on reset (R175), at the rate the BAUD strap chooses. -/
def Link.reset (fast : Bool) : Link :=
  { fast, receiver := .hunt, gap := none, buffer := [], sending := none, gapErrors := 0, lengthErrors := 0,
    checkErrors := 0, overrunErrors := 0 }

/-- The levels of the field inputs of a part that has just been powered up (DESIGN CHOICE, notes/assumptions/2.md): the
conveyor stands, the switch reads the OFF pair, every contactor is reported open, every door closed, every valve closed
and no camera selects its port. -/
def Pins.quiet : Pins :=
  { run := false, msa := false, msb := true, mirror := Vector.replicate 4 false, doors := Vector.replicate 5 false,
    feedback := Vector.replicate 8 false, deselected := Vector.replicate 6 true }

/-- The machine right after power-on reset, by the reset rules of every chapter (R5, R23, R26, R47, R60, R63, R90, R113,
R125, R149, R152, R166, R174, R175). The switch reads the OFF pair, so its state is OFF (R113); uptime, machine seconds
and the millisecond count are 0 (R151 to R153). -/
def State.reset : State :=
  { pins := Pins.quiet, pitch := PitchUnit.reset, track := Track.reset, cameras := Vector.replicate 6 Camera.reset,
    gates := Vector.replicate 2 Gate.reset, stops := StopCauses.reset,
    fill := { entry := 1, exit := 2, approach := 1 },
    robots := Vector.ofFn Robot.reset, doses := Vector.replicate 8 Dose.reset, bus := Bus.reset,
    mainSwitch := { state := .off, alike := none, latch := false },
    groups := Vector.replicate 4 { state := .isOpen, timer := none },
    access := Access.reset,
    time := { ms := 0, seconds := 0, valid := false, staged := none, uptime := 0, ahead := [] },
    counters := Vector.replicate 28 Counter.reset, events := EventQueue.reset, link := Link.reset false,
    pending := [] }

end Sys2Proof.Machine
end

