-- ==== Sys2Proof/Machine/Operands.lean ====
section
/-! DEFINITION. Operands.lean: how request fields are read and reply fields are laid out (chapter 11), the code tables
of 11.3, the frame check of R178, and the bytes of a robot bus transaction (11.5). -/

namespace Sys2Proof.Machine

/-! ## Numbers and bytes -/

/-- A number as one byte. -/
def byte1 (n : Nat) : List Byte := [BitVec.ofNat 8 n]

/-- A number as two bytes, least significant first (5.6). -/
def byte2 (n : Nat) : List Byte := [BitVec.ofNat 8 n, BitVec.ofNat 8 (n / 256)]

/-- A number as four bytes, least significant first (5.6). -/
def byte4 (n : Nat) : List Byte :=
  [BitVec.ofNat 8 n, BitVec.ofNat 8 (n / 256), BitVec.ofNat 8 (n / 65536), BitVec.ofNat 8 (n / 16777216)]

/-- A flag byte: 0 for clear and 1 for set (chapter 11). -/
def flagByte (b : Bool) : List Byte := byte1 b.toNat

/-- The number whose binary digits are the flags, the first flag in bit 0: a set with member n in bit n (chapter 11). -/
def setNumber : List Bool → Nat
  | [] => 0
  | b :: bs => b.toNat + 2 * setNumber bs

/-- Two bytes, least significant first, as a 16-bit value. -/
def half (lo hi : Byte) : Half := hi ++ lo

/-- Four bytes, least significant first, as a 32-bit value. -/
def long (b0 b1 b2 b3 : Byte) : Long := (b3 ++ b2) ++ (b1 ++ b0)

/-- The byte at offset i of a request's fields. -/
def fieldByte (fields : List Byte) (i : Nat) : Byte := fields.getD i 0

/-- The two-byte field at offset i. -/
def fieldHalf (fields : List Byte) (i : Nat) : Half := half (fieldByte fields i) (fieldByte fields (i + 1))

/-- The four-byte field at offset i. -/
def fieldLong (fields : List Byte) (i : Nat) : Long :=
  long (fieldByte fields i) (fieldByte fields (i + 1)) (fieldByte fields (i + 2)) (fieldByte fields (i + 3))

/-- A value held at 65,535 if larger, as a detail word carries it (R168). -/
def detail (n : Nat) : Half := BitVec.ofNat 16 (min n maxHalf)

/-- The lower half of a 32-bit value, as a detail word (R168). -/
def lowerHalf (n : Nat) : Half := BitVec.ofNat 16 n

/-- The upper half of a 32-bit value, as a detail word (R168). -/
def upperHalf (n : Nat) : Half := BitVec.ofNat 16 (n / 65536)

/-- A request's flag byte: 0 or 1, and anything else malformed (R187). -/
def flagField (b : Byte) : Option Bool :=
  if b = 0 then some false else if b = 1 then some true else none

/-- A unit number in the range of its unit, and anything else malformed (R187). -/
def unitField (n : Nat) (b : Byte) : Option (Fin n) :=
  if h : b.toNat < n then some ⟨b.toNat, h⟩ else none

/-! ## Code tables (11.3) -/

def ReplyCode.code : ReplyCode → Nat
  | .ok => 0 | .unknownKind => 1 | .badLength => 2 | .badField => 3 | .running => 4 | .state => 5
  | .interlock => 6 | .full => 7 | .notFound => 8 | .unloaded => 9

def CameraState.code : CameraState → Nat
  | .off => 0 | .waiting => 1 | .ready => 2 | .notReady => 3 | .lost => 4

def PortReceiver.code : PortReceiver → Nat
  | .idle => 0 | .collecting _ _ => 1 | .discarding => 2

def Occupancy.code : Occupancy → Nat
  | .empty => 0 | .occupied => 1 | .removed => 2

def FillOutcome.code : FillOutcome → Nat
  | .none => 0 | .pending => 1 | .ok => 2 | .under => 3 | .over => 4 | .aborted => 5 | .timeout => 6 | .skipped => 7

def Verdict.code : Verdict → Nat
  | .awaited => 0 | .pass _ => 1 | .defect _ => 2 | .missing => 3

/-- The camera classes of a verdict entry, 0 where they are absent (2.4, R188). -/
def Verdict.classes : Verdict → ClassSet
  | .pass c => c | .defect c => c | .awaited => 0 | .missing => 0

def RejectState.code : RejectState → Nat
  | .none => 0 | .fired => 1 | .confirmed => 2 | .unconfirmed => 3

/-- The robot mode code: SERVICE is coded apart according to the jog flag (R69). -/
def RobotMode.code (jog : Bool) : RobotMode → Nat
  | .off => 0 | .manual => 1 | .production => 2 | .service => if jog then 4 else 3 | .faulted => 5 | .lost => 6

def RobotStatus.code : RobotStatus → Nat
  | .retracted => 1 | .moving => 2 | .inPosition => 3 | .jogging => 4 | .fault _ => 5

/-- The fault code beside a status: 0 but with FAULT (R82). -/
def RobotStatus.faultCode : RobotStatus → Nat
  | .fault c => c.toNat | _ => 0

def FaultReason.code : FaultReason → Nat
  | .robot _ => 1 | .valveOpen => 2 | .valveClose => 3 | .valveStuck => 4 | .bus => 5

def JobState.code : JobState → Nat
  | .approach => 1 | .filling => 2 | .settling => 3

def Ending.code : Ending → Nat
  | .reported => 0 | .cut => 1 | .timeout => 2 | .aborted => 3

def FillClass.code : FillClass → Nat
  | .ok => 0 | .under => 1 | .over => 2

def Learning.code : Learning → Nat
  | .learned => 0 | .outlier => 1 | .notLearned => 2

def SwitchState.code : SwitchState → Nat
  | .off => 0 | .on => 1 | .discrepant => 2

def GroupState.code : GroupState → Nat
  | .isOpen => 0 | .closing => 1 | .closed => 2 | .opening => 3 | .faultPullin => 4 | .faultWeld => 5

def GrantKind.code : GrantKind → Nat
  | .zoneEntry => 0 | .jog => 1 | .cabinet => 2

def GrantState.code : GrantState → Nat
  | .draining => 0 | .isolating => 1 | .isOpen => 2 | .overdue => 3 | .awaitingClose => 4 | .isolationFailed => 5

/-- The code of ENDED, which no live grant holds (11.3). -/
abbrev endedCode : Nat := 6

/-- The code of a counter state, which is also its rank (R162). -/
def CounterState.code : CounterState → Nat
  | .unloaded => 0 | .normal => 1 | .warn => 2 | .due => 3 | .overrun => 4

/-- Event kinds take the values 1 to 33 in the order of section 9.4. -/
def EventKind.code : EventKind → Nat
  | .strayMotion => 1 | .phaseClamped => 2 | .escape => 3 | .cameraReady => 4 | .cameraNotReady => 5
  | .cameraLost => 6 | .brokenRecord => 7 | .unknownRecord => 8 | .unmatchedVerdict => 9 | .triggerOverrun => 10
  | .rejectUnconfirmed => 11 | .unexpectedReject => 12 | .gateFault => 13 | .robotMode => 14 | .robotLost => 15
  | .valveFault => 16 | .noFlow => 17 | .valveLeak => 18 | .afterflowOutlier => 19 | .switchOn => 20
  | .switchOff => 21 | .switchDiscrepancy => 22 | .groupState => 23 | .pullinFault => 24 | .weldFault => 25
  | .grantState => 26 | .grantOverdue => 27 | .isolationFailed => 28 | .intrusion => 29 | .timeSet => 30
  | .counterState => 31 | .eventsLost => 32 | .restarted => 33

/-- The kind byte of a camera record (11.4). -/
def RecordKind.code : RecordKind → Byte
  | .verdict => 0x5A | .status => 0x3C

/-- The record a kind byte starts, if it is known (11.4, R29). -/
def recordOfKind (b : Byte) : Option RecordKind :=
  if b = 0x5A then some .verdict else if b = 0x3C then some .status else none

/-- How many parameter bytes a record calls for (R29). -/
def RecordKind.params : RecordKind → Nat
  | .verdict => 3 | .status => 1

/-- The request kinds (11.1). -/
abbrev kindIdent : Byte := 0x01
abbrev kindStatus : Byte := 0x02
abbrev kindRestart : Byte := 0x03
abbrev kindTrackConfig : Byte := 0x10
abbrev kindCameraConfig : Byte := 0x11
abbrev kindGateConfig : Byte := 0x12
abbrev kindFillerConfig : Byte := 0x13
abbrev kindTrackRead : Byte := 0x14
abbrev kindTrackTally : Byte := 0x15
abbrev kindTrackFlush : Byte := 0x16
abbrev kindRobotConfig : Byte := 0x20
abbrev kindRecipeLoad : Byte := 0x21
abbrev kindRobotMode : Byte := 0x22
abbrev kindRobotRead : Byte := 0x23
abbrev kindGroupClose : Byte := 0x30
abbrev kindGroupOpen : Byte := 0x31
abbrev kindPowerRead : Byte := 0x32
abbrev kindFaultClear : Byte := 0x33
abbrev kindLineRelease : Byte := 0x34
abbrev kindGrantRequest : Byte := 0x40
abbrev kindGrantEnd : Byte := 0x41
abbrev kindGrantExtend : Byte := 0x42
abbrev kindGrantRead : Byte := 0x43
abbrev kindTimeSet : Byte := 0x50
abbrev kindTimeRead : Byte := 0x51
abbrev kindCounterLoad : Byte := 0x60
abbrev kindCounterLimits : Byte := 0x61
abbrev kindCounterReset : Byte := 0x62
abbrev kindCounterRead : Byte := 0x63
abbrev kindEventRead : Byte := 0x70

/-- The request kinds with the size of the fields each carries (11.1, R187). -/
def requestSizes : List (Byte × Nat) :=
  [(kindIdent, 0), (kindStatus, 0), (kindRestart, 0), (kindTrackConfig, 7), (kindCameraConfig, 9),
    (kindGateConfig, 9), (kindFillerConfig, 3), (kindTrackRead, 1), (kindTrackTally, 1), (kindTrackFlush, 0),
    (kindRobotConfig, 3), (kindRecipeLoad, 20), (kindRobotMode, 2), (kindRobotRead, 1), (kindGroupClose, 1),
    (kindGroupOpen, 1), (kindPowerRead, 0), (kindFaultClear, 2), (kindLineRelease, 0), (kindGrantRequest, 8),
    (kindGrantEnd, 2), (kindGrantExtend, 4), (kindGrantRead, 1), (kindTimeSet, 4), (kindTimeRead, 0),
    (kindCounterLoad, 5), (kindCounterLimits, 11), (kindCounterReset, 1), (kindCounterRead, 1), (kindEventRead, 1)]

/-- The field size of a request kind, absent for a KIND that names no request (R181). -/
def requestSize (kind : Byte) : Option Nat := requestSizes.lookup kind

/-! ## The frame check (R178) -/

/-- One bit of the check: the polynomial 0x1021, most significant bit first. -/
def checkShift (c : Half) : Half := if c.msb then (c <<< 1) ^^^ 0x1021 else c <<< 1

/-- One byte of the check. -/
def checkByte (c : Half) (b : Byte) : Half :=
  let c := c ^^^ (b ++ (0 : Byte))
  checkShift (checkShift (checkShift (checkShift (checkShift (checkShift (checkShift (checkShift c)))))))

/-- The frame check over a list of bytes, from the initial value 0xFFFF. -/
def frameCheck (bytes : List Byte) : Half := bytes.foldl checkByte 0xFFFF

/-- The two check bytes, high byte first (5.6). -/
def checkBytes (c : Half) : List Byte := [BitVec.ofNat 8 (c.toNat / 256), BitVec.ofNat 8 c.toNat]

/-- The bytes of a reply on TXD, from SYNC to the check (10.2): its LEN is 4 plus the fields (R188). -/
def Reply.bytes (r : Reply) : List Byte :=
  let inner := byte1 (4 + r.fields.length) ++ [r.kind] ++ byte2 r.tag.toNat ++ byte1 r.code.code ++ r.fields
  0xB7 :: inner ++ checkBytes (frameCheck inner)

/-- The bytes of a request frame on RXD (10.2): its LEN is 3 plus the fields (R187). -/
def Frame.bytes (f : Frame) : List Byte :=
  let inner := byte1 (3 + f.fields.length) ++ [f.kind] ++ byte2 f.tag.toNat ++ f.fields
  0xB7 :: inner ++ checkBytes (frameCheck inner)

/-! ## The robot bus (11.5) -/

/-- The command byte of a robot bus command (11.5). -/
def BusCommand.code : BusCommand → Byte
  | .fillStart _ => 0x10 | .fillDone => 0x11 | .fillAbort => 0x12 | .hold => 0x20 | .release => 0x21
  | .jogOn => 0x30 | .jogOff => 0x31 | .poll => 0x40

/-- Whether a command is a POLL (R84). -/
def BusCommand.isPoll : BusCommand → Bool
  | .poll => true | _ => false

/-- The bytes the master sends in a transaction: the address byte, the command byte and FILL_START's ticket and phase,
high byte first (R82, R83, 11.5). -/
def Transaction.bytes (addressOf : RobotId → Nat) : Transaction → List Byte
  | .broadcastHold => [0, 0x20]
  | .addressed r _ (.fillStart t) phase =>
    byte1 (addressOf r) ++ [0x10] ++ (byte2 t.toNat).reverse ++ (byte2 phase).reverse
  | .addressed r _ c _ => byte1 (addressOf r) ++ [c.code]

/-- What the two bytes a robot returns to a POLL mean: a status, or nothing where the POLL fails (R82). -/
def pollStatus (status code : Byte) : Option RobotStatus :=
  if status = 1 then some .retracted
  else if status = 2 then some .moving
  else if status = 3 then some .inPosition
  else if status = 4 then some .jogging
  else if status = 5 ∧ code ≠ 0 then some (.fault code)
  else none

/-! ## Unit lists -/

/-- Every number of a unit, in increasing order. -/
def allUnits (n : Nat) : List (Fin n) := List.finRange n

end Sys2Proof.Machine
end

