-- ==== Sys2Proof/Machine/Flags.lean ====
section
/-! DEFINITION. Flags.lean: what the manual derives from the state: the outputs LSTOP, ATN, KCn and DRELn, the lockout
counts, the LOCKED attribute, a grant's doors, and whether a robot is available. -/

namespace Sys2Proof.Machine

/-- The stop-cause set as the bits of section 11. -/
def StopCauses.flags (c : StopCauses) : List Bool :=
  [c.escape, c.gateFault, c.switchOff, c.discrepancy, c.cabinetIntrusion]

/-- LSTOP is asserted while the set holds at least one cause (R58). -/
def lstop (s : State) : Bool := s.stops.flags.any id

/-- ATN is low while the queue holds at least one record (R173). -/
def atnLow (s : State) : Bool := !s.events.queue.isEmpty

/-- KCn is energised while the group is CLOSING or CLOSED (R114). -/
def GroupState.coil : GroupState → Bool
  | .closing | .closed => true
  | _ => false

/-- The level of KCn. -/
def coil (s : State) (g : GroupId) : Bool := s.groups[g].state.coil

/-- What the two switch contacts read together (6.1). -/
inductive ContactPair where
  | onPair | offPair | alike
  deriving DecidableEq, Repr

/-- The contact pair of two levels (6.1). -/
def contactPair (msa msb : Bool) : ContactPair :=
  if msa = msb then .alike else if msa then .onPair else .offPair

/-- The contact pair as it reads now. -/
def State.pair (s : State) : ContactPair := contactPair s.pins.msa s.pins.msb

/-- The code of a contact pair (11.3). -/
def ContactPair.code : ContactPair → Nat
  | .offPair => 0 | .onPair => 1 | .alike => 2

/-- The grant covers the zone. -/
def Grant.covers (g : Grant) (z : GroupId) : Bool := g.zones.getLsbD z.val

/-- The lockout count of a zone: the number of live grants that cover it (R130). -/
def lockout (s : State) (z : GroupId) : Nat :=
  (allUnits 8).countP fun i => match s.access.grants[i] with
    | some g => g.covers z
    | none => false

/-- Group n is LOCKED while zone n's lockout count is above 0 or its intrusion latch is set (R115). -/
def locked (s : State) (z : GroupId) : Bool := decide (0 < lockout s z) || s.access.zoneLatch[z]

/-- The zone of a zone door; DOORC has none. -/
def doorZone (d : DoorId) : Option GroupId := if h : d.val < 4 then some ⟨d.val, h⟩ else none

/-- The zone's guard door. -/
def zoneDoor (z : GroupId) : DoorId := ⟨z.val, by omega⟩

/-- The cabinet door DOORC. -/
def cabinetDoor : DoorId := 4

/-- The door set of a grant by its kind (R127). -/
def Grant.hasDoor (g : Grant) (d : DoorId) : Bool :=
  match g.kind with
  | .zoneEntry => match doorZone d with
    | some z => g.covers z
    | none => false
  | .cabinet => true
  | .jog => false

/-- The number of doors of the grant's door set that stand open. -/
def openDoors (s : State) (g : Grant) : Nat := (allUnits 5).countP fun d => g.hasDoor d && s.pins.doors[d]

/-- The grant is in OPEN or OVERDUE, where it releases its doors (R128). -/
def Grant.releasing (g : Grant) : Bool := g.state == .isOpen || g.state == .overdue

/-- Some grant in OPEN or OVERDUE holds the door in its door set (R127). -/
def doorReleased (s : State) (d : DoorId) : Bool :=
  (allUnits 8).any fun i => match s.access.grants[i] with
    | some g => g.releasing && g.hasDoor d
    | none => false

/-- The level of DRELn or DRELC (R128). -/
def release (s : State) (d : DoorId) : Bool :=
  doorReleased s d && match doorZone d with
    | some z => !coil s z
    | none => (allUnits 4).all fun z => !coil s z

/-- The number of live grants (R129). -/
def liveGrants (s : State) : Nat := (allUnits 8).countP fun i => s.access.grants[i].isSome

/-- The counter of robot n's fill cycles (8.3). -/
def cycleCounter (r : RobotId) : CounterId := ⟨r.val, by omega⟩

/-- The counter of robot n's valve-open time (8.3). -/
def valveCounter (r : RobotId) : CounterId := ⟨8 + r.val, by omega⟩

/-- The counter of contactor n (8.3). -/
def contactorCounter (g : GroupId) : CounterId := ⟨16 + g.val, by omega⟩

/-- The counter of a gate (8.3). -/
def gateCounter (g : GateId) : CounterId := ⟨20 + g.val, by omega⟩

/-- The counter of a camera (8.3). -/
def cameraCounter (c : CameraId) : CounterId := ⟨22 + c.val, by omega⟩

/-- One of the robot's two counters stands in the state (R64, R70). -/
def robotCounterIs (s : State) (r : RobotId) (st : CounterState) : Bool :=
  s.counters[cycleCounter r].state == st || s.counters[valveCounter r].state == st

/-- Robot n is available (R70). -/
def available (s : State) (r : RobotId) : Bool :=
  let rb := s.robots[r]
  rb.mode == .production && rb.armed && rb.job.isNone && s.groups[rb.zone].state == .closed
    && s.mainSwitch.state == .on && !locked s rb.zone && !robotCounterIs s r .overrun
    && rb.lastStatus == some .retracted

/-- The zone of a counter (8.3): robot counters follow the robot table and contactor counters their group. -/
def counterZone (s : State) (c : CounterId) : GroupId :=
  if h : c.val < 8 then s.robots[(⟨c.val, h⟩ : RobotId)].zone
  else if h : c.val < 16 then s.robots[(⟨c.val - 8, by omega⟩ : RobotId)].zone
  else if h : c.val < 20 then ⟨c.val - 16, by omega⟩
  else s.counters[c].zone

/-- A grant under which a counter of the zone may be reset (R164). -/
def Grant.qualifies (g : Grant) (z : GroupId) : Bool :=
  g.covers z && g.kind != .jog && g.releasing && g.doorOpened

/-- The lowest place whose grant qualifies a reset of the counter, if there is one (R164, R167). -/
def qualifyingPlace (s : State) (c : CounterId) : Option PlaceId :=
  (allUnits 8).find? fun i => match s.access.grants[i] with
    | some g => g.qualifies (counterZone s c)
    | none => false

/-- The overrun threshold of a record, 0 with a due limit of 0 (R160, R167). -/
def Counter.threshold (c : Counter) : Nat :=
  if c.due = 0 then 0 else min (c.due + c.due * c.margin / 100) maxLong

/-- The state that total and limits give a record that is loaded (R161). -/
def Counter.computed (c : Counter) : CounterState :=
  if c.due = 0 then .normal
  else if c.threshold ≤ c.total then .overrun
  else if c.due ≤ c.total then .due
  else if 0 < c.warn ∧ c.warn ≤ c.total then .warn
  else .normal

/-- The receiver, counts and lists of a camera as the STATUS reply shows them: a disabled camera shows OFF with zero
counts (R44). -/
def Camera.summary (c : Camera) : List Byte :=
  if c.cfg.enabled then
    byte1 c.state.code ++ [c.trigger] ++ byte1 c.outstanding.length ++ byte1 c.late.length ++ byte1 c.receiver.code
      ++ byte2 c.strayCount
  else byte1 CameraState.off.code ++ byte1 0 ++ byte1 0 ++ byte1 0 ++ byte1 0 ++ byte2 0

/-- The gate summary of the STATUS reply (R57). -/
def Gate.summary (g : Gate) : List Byte :=
  byte1 (setNumber [g.cfg.enabled, g.latch, g.pendingFire.isSome, g.output.isSome]) ++ byte1 g.unconfirmed
    ++ byte1 g.confirm.length

end Sys2Proof.Machine
end

