-- ==== Sys2Proof/Machine/Ops.lean ====
section
/-! DEFINITION. Ops.lean: the operations every block shares: updates of one unit, acting on units in turn, raising an
event, counting on a counter, reading and writing slots, raising a command on the robot bus, and forming a reply. -/

namespace Sys2Proof.Machine

/-- What a command answers: the next state (no command of the part stops it). -/
abbrev Result : Type := Host.Outcome State Fault Refusal

/-! ## Units -/

/-- Apply an action for each unit of a list, in the list's order. -/
def forEach {α : Type} (units : List α) (act : α → State → State) (s : State) : State :=
  units.foldl (fun t u => act u t) s

/-- Replace one unit's record by a function of it. -/
def updateAt {α : Type} {n : Nat} (v : Vector α n) (i : Fin n) (f : α → α) : Vector α n := v.set i (f v[i])

def State.mapCamera (s : State) (n : CameraId) (f : Camera → Camera) : State :=
  { s with cameras := updateAt s.cameras n f }

def State.mapGate (s : State) (g : GateId) (f : Gate → Gate) : State := { s with gates := updateAt s.gates g f }

def State.mapRobot (s : State) (r : RobotId) (f : Robot → Robot) : State := { s with robots := updateAt s.robots r f }

def State.mapDose (s : State) (r : RobotId) (f : Dose → Dose) : State := { s with doses := updateAt s.doses r f }

def State.mapGroup (s : State) (g : GroupId) (f : Group → Group) : State := { s with groups := updateAt s.groups g f }

def State.mapQueue (s : State) (r : RobotId) (f : RobotQueue → RobotQueue) : State :=
  { s with bus := { s.bus with queues := updateAt s.bus.queues r f } }

def State.mapTallies (s : State) (f : Tallies → Tallies) : State :=
  { s with track := { s.track with tallies := f s.track.tallies } }

/-- Put a grant record into its place, or empty the place. -/
def State.putGrant (s : State) (i : PlaceId) (g : Option Grant) : State :=
  { s with access := { s.access with grants := s.access.grants.set i g } }

/-- One more, staying at the limit once it is reached. -/
def countUpTo (limit n : Nat) : Nat := min (n + 1) limit

/-! ## Events (R168, R169) -/

/-- The record an event enters as, stamped with machine time as it stands (R168). -/
def State.recordOf (s : State) (kind : EventKind) (unit : Nat) (detail1 detail2 : Half) : EventRecord :=
  { sequence := s.events.nextSequence, seconds := s.time.seconds, ms := s.time.ms, valid := s.time.valid,
    kind, unit, detail1, detail2 }

/-- Enter a record at the end of the queue; it takes the next sequence number (R168, R169). -/
def enterRecord (kind : EventKind) (unit : Nat) (detail1 detail2 : Half) (s : State) : State :=
  { s with events :=
      { s.events with
        queue := s.events.queue ++ [s.recordOf kind unit detail1 detail2]
        nextSequence := s.events.nextSequence + 1 } }

/-- Raise an event: it is entered, or turned away and counted lost when the queue is full (R169, R170). -/
def raiseEvent (kind : EventKind) (unit : Nat) (detail1 detail2 : Half) (s : State) : State :=
  let account := { s.events.account with raised := s.events.account.raised + 1 }
  if s.events.queue.length < Config.queueCapacity then
    enterRecord kind unit detail1 detail2 { s with events := { s.events with account := account } }
  else if s.events.lost < maxLong then
    { s with events :=
        { s.events with
          lost := s.events.lost + 1
          account := { account with countedLost := account.countedLost + 1 } } }
  else { s with events := { s.events with account := { account with overflowed := true } } }

/-- A record the account counts among the events: the EVENTS_LOST markers and the RESTARTED record are not (R170). -/
def EventRecord.accounted (e : EventRecord) : Bool := e.kind != .eventsLost && e.kind != .restarted

/-- Remove the oldest record, which is delivered; a removal that finds the lost count above 0 enters an EVENTS_LOST
marker in the place just freed (R170, R171, R172). -/
def removeOldest (s : State) : State :=
  match s.events.queue with
  | [] => s
  | e :: rest =>
    let account := { s.events.account with
      delivered := if e.accounted then s.events.account.delivered + 1 else s.events.account.delivered }
    let freed := { s with events := { s.events with queue := rest, account := account } }
    if s.events.lost = 0 then freed
    else enterRecord .eventsLost 0 (lowerHalf s.events.lost) (upperHalf s.events.lost)
      { freed with events := { freed.events with lost := 0 } }

/-- Remove up to n records (R172). -/
def removeRecords : Nat → State → State
  | 0, s => s
  | n + 1, s => removeRecords n (removeOldest s)

/-! ## Stop causes (R58) -/

def addEscape (s : State) : State := { s with stops := { s.stops with escape := true } }
def addGateFault (s : State) : State := { s with stops := { s.stops with gateFault := true } }
def addSwitchCause (s : State) : State := { s with stops := { s.stops with switchOff := true } }
def addDiscrepancy (s : State) : State := { s with stops := { s.stops with discrepancy := true } }
def addCabinetIntrusion (s : State) : State := { s with stops := { s.stops with cabinetIntrusion := true } }

/-! ## Counters (R159, R161, R162) -/

/-- The record with its state computed afresh; a record that is UNLOADED stays so (R161). -/
def Counter.refresh (c : Counter) : Counter :=
  if c.state = .unloaded then c else { c with state := c.computed }

/-- Store a counter record; a change of state to a higher rank raises COUNTER_STATE (R162). -/
def storeCounter (i : CounterId) (c : Counter) (s : State) : State :=
  let old := s.counters[i].state
  let stored := { s with counters := s.counters.set i c }
  if old.code < c.state.code then
    raiseEvent .counterState i.val (detail c.state.code) (detail old.code) stored
  else stored

/-- One count on the counter's total (R159). -/
def countOn (i : CounterId) (s : State) : State :=
  let c := s.counters[i]
  storeCounter i { c with total := countUpTo maxLong c.total }.refresh s

/-! ## Slots (R12) -/

/-- The slot at position p (R12). -/
def State.slotAt (s : State) (p : Nat) : Slot := s.track.ring[ringIndex s.track.head p]

/-- Replace the slot at position p. -/
def putSlot (p : Nat) (sl : Slot) (s : State) : State :=
  { s with track := { s.track with ring := s.track.ring.set (ringIndex s.track.head p) sl } }

/-- Change the slot at position p by a function of it; the ticket stays (R12). -/
def editSlotAt (p : Nat) (f : Slot → Slot) (s : State) : State :=
  putSlot p { f (s.slotAt p) with ticket := (s.slotAt p).ticket } s

/-- The position of the slot on the track that carries the ticket (R12). -/
def State.positionOf (s : State) (t : Half) : Option Nat :=
  (List.range s.track.length).find? fun p => (s.slotAt p).ticket == t

/-- The slot on the track that carries the ticket (R12). -/
def State.slotOf (s : State) (t : Half) : Option Slot := (s.positionOf t).map s.slotAt

/-- Change the slot that a ticket names; a ticket no slot on the track carries names nothing. -/
def editSlot (t : Half) (f : Slot → Slot) (s : State) : State :=
  match s.positionOf t with
  | some p => editSlotAt p f s
  | none => s

/-- A defect class as a set. -/
def classBit (n : Nat) : ClassSet := 1#16 <<< n

/-- Class 12 UNDERFILL. -/
abbrev underfill : ClassSet := classBit 12
/-- Class 13 OVERFILL. -/
abbrev overfill : ClassSet := classBit 13
/-- Class 14 FILL_FAULT. -/
abbrev fillFault : ClassSet := classBit 14
/-- Class 15 UNVERIFIED. -/
abbrev unverified : ClassSet := classBit 15

/-! ## The command queue of the robot bus (R83, R85, R86) -/

/-- Waiting commands take the places that are free, in the order raised (R85). -/
def RobotQueue.refill (q : RobotQueue) : RobotQueue :=
  let free := 2 - q.places.length
  { places := q.places ++ q.waiting.take free, waiting := q.waiting.drop free }

/-- Both places hold POLL entries. -/
def RobotQueue.allPolls (q : RobotQueue) : Bool := q.places.all fun e => e.command.isPoll

/-- A command other than POLL takes a free place, replaces the older of two POLL entries, or waits (R85). -/
def RobotQueue.enter (q : RobotQueue) (e : BusEntry) : RobotQueue :=
  if q.places.length < 2 then { q with places := q.places ++ [e] }
  else if q.allPolls then { q with places := q.places.drop 1 ++ [e] }
  else { q with waiting := q.waiting ++ [e] }

/-- A POLL takes a free place, replaces the older of two POLL entries, or is not entered (R86). -/
def RobotQueue.enterPoll (q : RobotQueue) (e : BusEntry) : RobotQueue :=
  if q.places.length < 2 then { q with places := q.places ++ [e] }
  else if q.allPolls then { q with places := q.places.drop 1 ++ [e] }
  else q

/-- Keep the entries a predicate admits, and let the waiting ones move up (R85). -/
def RobotQueue.keep (q : RobotQueue) (p : BusEntry → Bool) : RobotQueue :=
  RobotQueue.refill { places := q.places.filter p, waiting := q.waiting.filter p }

/-- Every entry of the robot, in its places and waiting. -/
def RobotQueue.entries (q : RobotQueue) : List BusEntry := q.places ++ q.waiting

/-- Let a moment pass on the bus master's own count of moments (R84). -/
def passMoment (s : State) : State := { s with bus := { s.bus with moment := s.bus.moment + 1 } }

/-- The entry of a command raised now. -/
def State.newEntry (s : State) (c : BusCommand) : BusEntry :=
  { serial := s.bus.moment, turn := s.bus.moment, command := c, failed := false }

/-- Raise a command other than POLL for a robot; while the robot is LOST it is discarded, FILL_ABORT excepted (R85). -/
def raiseCommand (r : RobotId) (c : BusCommand) (s : State) : State :=
  if s.robots[r].mode = .lost ∧ c ≠ .fillAbort then s
  else passMoment (s.mapQueue r fun q => q.enter (s.newEntry c))

/-- Raise a POLL for a robot (R86). -/
def raisePoll (r : RobotId) (s : State) : State :=
  passMoment (s.mapQueue r fun q => q.enterPoll (s.newEntry .poll))

/-- Raise a broadcast HOLD; one already pending takes it in (R83). -/
def raiseBroadcast (s : State) : State := { s with bus := { s.bus with broadcast := true } }

/-- A RELEASE for the robot is queued, or waits for a place. That one still waiting counts as queued for R88 is a DESIGN
CHOICE (notes/assumptions/51.md). -/
def releaseQueued (s : State) (r : RobotId) : Bool :=
  s.bus.queues[r].entries.any fun e => e.command == .release

/-- Raise RELEASE for a held robot that is available, unless one is queued (R88). -/
def judgeRelease (r : RobotId) (s : State) : State :=
  if s.robots[r].held && available s r && !releaseQueued s r then raiseCommand r .release s else s

/-- Judge every robot for RELEASE, in increasing robot number (R88). -/
def judgeReleases (s : State) : State := forEach (allUnits 8) judgeRelease s

/-! ## Replies (R180, R181) -/

/-- Form the reply to a request and let the transmitter send it (R180). For a KIND of 0x80 or above, KIND plus 0x80 does not
fit the one byte of 10.2; that it wraps modulo 256 is a DESIGN CHOICE (notes/assumptions/44.md). -/
def sendReply (kind : Byte) (tag : Half) (code : ReplyCode) (fields : List Byte) (s : State) : State :=
  { s with link := { s.link with sending := some { kind := kind + 0x80, tag, code, fields } } }

/-- Refuse a request: the reply carries the code alone, and nothing else changes (R181, R187). -/
def refuse (kind : Byte) (tag : Half) (code : ReplyCode) (s : State) : State := sendReply kind tag code [] s

/-- Answer a request with OK and the fields its kind lays down (R181). -/
def accept (kind : Byte) (tag : Half) (fields : List Byte) (s : State) : State := sendReply kind tag .ok fields s

end Sys2Proof.Machine
end

