-- ==== Sys2Proof/Machine/Dose.lean ====
section
/-! DEFINITION. Dose.lean: the Dose Units (chapter 5): recipes, the close count, the volume and its class, learning, the
valve and its checks (R79), and the ends of a fill job (R75 to R78). -/

namespace Sys2Proof.Machine

/-! ## Recipes (R91 to R93) -/

/-- The ranges of the recipe table (5.1, R91). -/
def Recipe.inRange (r : Recipe) : Bool :=
  decide (100 ≤ r.target ∧ r.target ≤ 50000) && decide (1000 ≤ r.kFactor ∧ r.kFactor ≤ 100000)
    && decide (r.underTol ≤ 1000) && decide (r.overTol ≤ 1000) && decide (1 ≤ r.minOpen ∧ r.minOpen ≤ 1000)
    && decide (r.afterflowMax ≤ 4095) && decide (r.shift ≤ 4) && decide (10 ≤ r.settle ∧ r.settle ≤ 500)
    && decide (r.initial ≤ r.afterflowMax)

/-- The estimate a recipe starts with or keeps when it replaces another (R93). -/
def estimateAfter (old : Option Recipe) (new : Recipe) (e : Nat) : Nat :=
  match old with
  | none => 16 * new.initial
  | some o =>
    if o.target = new.target ∧ o.kFactor = new.kFactor then min e (16 * new.afterflowMax) else 16 * new.initial

/-- Make a recipe active (R93). -/
def Dose.activate (d : Dose) (r : Recipe) : Dose :=
  { d with active := some r, staged := none, estimate := estimateAfter d.active r d.estimate }

/-- Make the staged recipe, if any, active: the first act of an assignment (R73, R92). -/
def Dose.activateStaged (d : Dose) : Dose :=
  match d.staged with
  | some r => d.activate r
  | none => d

/-- The recipe that stands for an absent one. No run reaches it: a robot enters PRODUCTION with an active recipe
(R64), and a recipe stays active until a reset (R92). -/
def Recipe.blank : Recipe :=
  { target := 0, kFactor := 0, underTol := 0, overTol := 0, minOpen := 0, afterflowMax := 0, shift := 0, settle := 0,
    initial := 0 }

/-! ## Close count, volume and class (R94, R95, R99, R100) -/

/-- The target in pulses N, rounded half up (R94). -/
def targetPulses (r : Recipe) : Nat := (r.target * r.kFactor + 5000) / 10000

/-- The estimate rounded to whole pulses, â (R95). -/
def roundedEstimate (e : Nat) : Nat := (e + 8) / 16

/-- The close count C, with N and â (R95). -/
def closeCalc (r : Recipe) (e : Nat) : CloseCalc :=
  let n := targetPulses r
  let a := roundedEstimate e
  { targetPulses := n, rounded := a,
    count := if n < a + min r.minOpen n then min r.minOpen n else n - a }

/-- One step of restoring division: bring the next bit of the dividend into the partial remainder, subtract the divisor
on trial, and append the quotient digit (R99). -/
def restoringStep (k dividend : Nat) (bit : Nat) (qr : Nat × Nat) : Nat × Nat :=
  let partialRemainder := 2 * qr.2 + (dividend / 2 ^ bit) % 2
  if k ≤ partialRemainder then (2 * qr.1 + 1, partialRemainder - k) else (2 * qr.1, partialRemainder)

/-- Restoring division over the bits below `bits`, from the most significant down: quotient and remainder (R99). -/
def restoringDivide (k dividend : Nat) : Nat → Nat × Nat → Nat × Nat
  | 0, qr => qr
  | bit + 1, qr => restoringDivide k dividend bit (restoringStep k dividend bit qr)

/-- The fill volume V in tenths, from the final count F and the K-factor, on a dividend of 34 bits (R99). -/
def fillVolume (flow k : Nat) : Nat := (restoringDivide k (flow * 10000 + k / 2) 34 (0, 0)).1

/-- The class of a volume, on signed numbers: both band ends are inclusive for OK (R100). -/
def fillClassOf (r : Recipe) (v : Nat) : FillClass :=
  if (v : Int) < (r.target : Int) - (r.underTol : Int) then .under
  else if (r.target : Int) + (r.overTol : Int) < (v : Int) then .over
  else .ok

/-- The defect class a fill class adds (R100). -/
def FillClass.defects : FillClass → ClassSet
  | .ok => 0 | .under => underfill | .over => overfill

/-- The fill outcome a class is written as (R100). -/
def FillClass.outcome : FillClass → FillOutcome
  | .ok => .ok | .under => .under | .over => .over

/-! ## Learning (R101 to R103) -/

/-- The fill is an outlier: its actual afterflow A is more than four times the expected one and 64 pulses (R102). -/
def isOutlier (a e : Nat) : Bool := decide (4 * e + 1024 < 16 * a)

/-- The estimate moved toward 16 × A by the learning shift, truncated toward zero, within 0..16 × Amax (R103). -/
def learnedEstimate (r : Recipe) (a e : Nat) : Nat :=
  let difference : Int := 16 * (a : Int) - (e : Int)
  let step := Int.tdiv difference (2 ^ r.shift)
  min ((e : Int) + step).toNat (16 * r.afterflowMax)

/-! ## The valve (R79) -/

/-- Drive VLVn; a change of level starts the check for the new level (R79). -/
def Dose.drive (d : Dose) (on : Bool) : Dose :=
  if d.valve = on then d else { d with valve := on, check := some 0 }

/-! ## The ends of a job (R75 to R78, R98, R104) -/

/-- A job that opened its valve has a close count; N, â and C of one that did not are shown as 0. -/
def Job.closing (j : Job) : CloseCalc := j.close.getD { targetPulses := 0, rounded := 0, count := 0 }

/-- Remove the robot's job (R77, R78). -/
def dropJob (r : RobotId) (s : State) : State := s.mapRobot r fun rb => { rb with job := none }

/-- Replace the robot's last-fill record with what this job gave, and the estimate as it stands after the job (R104). -/
def recordFill (r : RobotId) (j : Job) (ending : Ending) (flow volume : Nat) (fillClass : Option FillClass)
    (afterflow : Option Nat) (learning : Learning) (s : State) : State :=
  s.mapDose r fun d =>
    let record : LastFill :=
      { ticket := j.ticket, ending, close := j.closing, flow, volume, fillClass, afterflow, learning,
        estimateAfter := d.estimate }
    { d with lastFill := some record }

/-- Write the outcome of a fill that gave a class into its slot (R77, R100). -/
def writeReport (c : FillClass) (v : Nat) (cut : Bool) (sl : Slot) : Slot :=
  { sl with fill := c.outcome, volume := some { tenths := min v maxHalf, cut }, defects := sl.defects ||| c.defects }

/-- Learn from the fill, or raise AFTERFLOW_OUTLIER and keep the estimate (R102, R103). -/
def learn (r : RobotId) (recipe : Recipe) (a : Nat) (s : State) : State :=
  let e := s.doses[r].estimate
  if isOutlier a e then raiseEvent .afterflowOutlier r.val (detail a) (detail e) s
  else s.mapDose r fun d => { d with estimate := learnedEstimate recipe a e }

/-- A job reports, at the end of its settle time or by a cut settle (R76, R77): the window closes, the slot is written,
FILL_DONE is raised, one fill cycle is counted, the estimate is learned from a settle that was not cut, the last-fill
record is replaced, and the job is removed (R101, R104). -/
def reportJob (r : RobotId) (cut : Bool) (s : State) : State :=
  match s.robots[r].job with
  | none => s
  | some j =>
    let flow := s.doses[r].flow
    let v := fillVolume flow j.recipe.kFactor
    let c := fillClassOf j.recipe v
    let a := flow - j.closing.count
    let learning := if cut then Learning.notLearned else if isOutlier a s.doses[r].estimate then .outlier else .learned
    let closed := s.mapDose r fun d => { d with window := false }
    let written := editSlot j.ticket (writeReport c v cut) closed
    let counted := countOn (cycleCounter r) (raiseCommand r .fillDone written)
    let learned := if cut then counted else learn r j.recipe a counted
    let ending := if cut then Ending.cut else .reported
    dropJob r (recordFill r j ending flow v (some c) (some a) learning learned)

/-- Write the outcome of a fill that timed out or was aborted: class 14, and the volume exactly if the valve had opened (R17,
R75, R76, R78). -/
def writeFailure (outcome : FillOutcome) (volume : Option Nat) (sl : Slot) : Slot :=
  { sl with
    fill := outcome
    volume := volume.map fun v => { tenths := min v maxHalf, cut := false }
    defects := sl.defects ||| fillFault }

/-- A job ends without a report, as TIMEOUT or ABORTED (R75, R76, R78): the valve is de-energised, the window closes, the
slot is written, one fill cycle is counted if the valve had opened (R157), FILL_ABORT is raised, the last-fill record is
replaced if the valve had opened (R104), and the job is removed. -/
def failJob (r : RobotId) (outcome : FillOutcome) (ending : Ending) (s : State) : State :=
  match s.robots[r].job with
  | none => s
  | some j =>
    let flow := s.doses[r].flow
    let v := fillVolume flow j.recipe.kFactor
    let shut := s.mapDose r fun d => { d.drive false with window := false }
    let written := editSlot j.ticket (writeFailure outcome (if j.opened then some v else none)) shut
    let counted := if j.opened then countOn (cycleCounter r) written else written
    let told := raiseCommand r .fillAbort counted
    dropJob r (if j.opened then recordFill r j ending flow v none none .notLearned told else told)

/-- An abort of the robot's job, for any cause (R78). -/
def abortJob (r : RobotId) (s : State) : State := failJob r .aborted .aborted s

/-- The job enters FILLING: the close count is computed, the window opens on a flow counter of 0, the valve is energised,
the drip count is 0 and the no-flow timer starts (R74, R81, R95, R96). -/
def startFilling (r : RobotId) (s : State) : State :=
  match s.robots[r].job with
  | some j =>
    if j.state = .approach then
      let closing := closeCalc j.recipe s.doses[r].estimate
      let job := { j with state := .filling, opened := true, close := some closing, noFlowTimer := 0 }
      (s.mapRobot r fun rb => { rb with job := some job }).mapDose r fun d =>
        { d.drive true with flow := 0, window := true, drip := 0 }
    else s
  | none => s

/-- A FLWn pulse taken while the window is open (R96): it counts, restarts the no-flow timer (R80), and the pulse that
reaches the close count closes the valve and moves the job to SETTLING (R74). -/
def countPulse (r : RobotId) (s : State) : State :=
  let flow := countUpTo Config.flowCapacity s.doses[r].flow
  let counted := s.mapDose r fun d => { d with flow }
  match s.robots[r].job with
  | some j =>
    if j.state = .filling then
      if j.closing.count ≤ flow then
        (counted.mapDose r fun d => d.drive false).mapRobot r fun rb =>
          { rb with job := some { j with state := .settling, settleTimer := 0, noFlowTimer := 0 } }
      else counted.mapRobot r fun rb => { rb with job := some { j with noFlowTimer := 0 } }
    else counted
  | none => counted

/-- A FLWn pulse taken while the window is closed is a drip; the 51st since the last fill began raises VALVE_LEAK
(R81). -/
def countDrip (r : RobotId) (s : State) : State :=
  let drip := countUpTo maxHalf s.doses[r].drip
  let counted := s.mapDose r fun d => { d with drip }
  if drip = 51 ∧ s.doses[r].drip = 50 then raiseEvent .valveLeak r.val (detail 51) 0 counted else counted

/-- FLOW_PULSE (R96, R81). -/
def flowPulse (r : RobotId) (s : State) : State :=
  if s.doses[r].window then countPulse r s else countDrip r s

end Sys2Proof.Machine
end

