-- ==== Sys2Proof/Machine/Robots.lean ====
section
/-! DEFINITION. Robots.lean: the robot table (4.1 to 4.3): mode changes, faults, loss, service and intrusion as the filler
sees them, and the supervision of valve and flowmeter (4.6). -/

namespace Sys2Proof.Machine

/-- The robot's mode code, SERVICE coded apart by the jog flag (R69). -/
def Robot.modeCode (rb : Robot) : Nat := rb.mode.code rb.jog

/-- Change a robot's record; a change of its mode, or of its jog flag in SERVICE, raises ROBOT_MODE (R69). -/
def changeRobot (r : RobotId) (f : Robot → Robot) (s : State) : State :=
  let old := s.robots[r].modeCode
  let new := (f s.robots[r]).modeCode
  let changed := s.mapRobot r f
  if old = new then changed else raiseEvent .robotMode r.val (detail new) (detail old) changed

/-! ## Faults and loss (R65, R66) -/

/-- Entry to FAULTED: the job is aborted and the armed, resume and jog flags are cleared (R65). A robot that leaves LOST
this way has its failure count 0 and its held flag set (R66). -/
def enterFaulted (r : RobotId) (why : FaultReason) (s : State) : State :=
  changeRobot r (fun rb =>
    { rb with
      mode := .faulted, armed := false, resume := false, jog := false, reason := some why
      failures := if rb.mode = .lost then 0 else rb.failures
      held := rb.held || rb.mode == .lost }) (abortJob r s)

/-- A robot that becomes LOST loses its queued commands, FILL_ABORT excepted; its POLL entries stay (R85). That commands
still waiting for a place are dropped with them is a DESIGN CHOICE: R85 speaks of the commands that leave the queue
(notes/assumptions/39.md). -/
def dropLostCommands (r : RobotId) (s : State) : State :=
  s.mapQueue r fun q => q.keep fun e => e.command.isPoll || e.command == .fillAbort

/-- Entry to LOST (R66): the job is aborted, ROBOT_LOST is raised with the mode left, the flags are cleared and the fault
reason becomes BUS. -/
def enterLost (r : RobotId) (s : State) : State :=
  let rb := s.robots[r]
  let told := raiseEvent .robotLost r.val (detail rb.modeCode) (detail rb.job.isSome.toNat) (abortJob r s)
  dropLostCommands r
    (changeRobot r (fun rb =>
      { rb with mode := .lost, armed := false, resume := false, jog := false, reason := some .bus }) told)

/-- One failed addressed transaction of the robot (R87); the count stops at 3, and reaching it makes the robot LOST. No
failure is counted for a robot in OFF. -/
def countFailure (r : RobotId) (s : State) : State :=
  let rb := s.robots[r]
  if rb.mode = .off then s
  else
    let counted := s.mapRobot r fun rb => { rb with failures := min (rb.failures + 1) 3 }
    if 3 ≤ rb.failures + 1 ∧ rb.mode ≠ .lost then enterLost r counted else counted

/-- The end of a loss at a successful poll (R66): FAULTED if it reports FAULT, else MANUAL; the held flag is set. -/
def endLoss (r : RobotId) (st : RobotStatus) (s : State) : State :=
  changeRobot r (fun rb =>
    match st with
    | .fault c => { rb with mode := .faulted, reason := some (.robot c), held := true }
    | _ => { rb with mode := .manual, reason := none, held := true }) s

/-- A successful poll is recorded and acted on (R86): the end of a loss (R66), FAULT (R65) or IN_POSITION (R74). -/
def takePoll (r : RobotId) (st : RobotStatus) (s : State) : State :=
  let mode := s.robots[r].mode
  let recorded := s.mapRobot r fun rb => { rb with lastStatus := some st, failures := 0 }
  if mode = .lost then endLoss r st recorded
  else match st with
    | .fault c =>
      if mode = .manual ∨ mode = .production ∨ mode = .service then enterFaulted r (.robot c) recorded else recorded
    | .inPosition => startFilling r recorded
    | _ => recorded

/-! ## Valve and flowmeter supervision (R79, R80) -/

/-- A valve fault of a robot in any mode but OFF and FAULTED (R65, R79). -/
def valveFault (r : RobotId) (why : FaultReason) (s : State) : State :=
  let rb := s.robots[r]
  if rb.mode = .off ∨ rb.mode = .faulted then s
  else enterFaulted r why (raiseEvent .valveFault r.val (detail why.code) (detail rb.modeCode) s)

/-- The valve feedback agrees with VLVn. -/
def valveAgrees (s : State) (r : RobotId) : Bool := s.pins.feedback[r] == s.doses[r].valve

/-- A running check whose timer has reached 50 ms ends; without agreement it is a valve fault (R79). -/
def checkExpiry (r : RobotId) (s : State) : State :=
  match s.doses[r].check with
  | some t =>
    if 50 ≤ t then
      let ended := s.mapDose r fun d => { d with check := none }
      if valveAgrees s r then ended
      else valveFault r (if s.doses[r].valve then .valveOpen else .valveClose) ended
    else s
  | none => s

/-- A disagreement outside the checks is the valve fault VALVE_STUCK (R79). -/
def stuckValve (r : RobotId) (s : State) : State :=
  if s.doses[r].check.isNone && !valveAgrees s r then valveFault r .valveStuck s else s

/-- A change of VFBn (R79): reaching agreement ends a running check, and a disagreement outside the checks is
VALVE_STUCK. -/
def feedbackChange (r : RobotId) (showsOpen : Bool) (s : State) : State :=
  if s.pins.feedback[r] = showsOpen then s
  else
    let read := { s with pins := { s.pins with feedback := s.pins.feedback.set r showsOpen } }
    if s.doses[r].check.isSome then
      if valveAgrees read r then read.mapDose r fun d => { d with check := none } else read
    else stuckValve r read

/-- The no-flow timer of a job in FILLING has reached 200 ms: the job is aborted and NO_FLOW is raised (R80). -/
def noFlowExpiry (r : RobotId) (s : State) : State :=
  match s.robots[r].job with
  | some j =>
    if j.state = .filling ∧ 200 ≤ j.noFlowTimer then
      raiseEvent .noFlow r.val j.ticket (detail s.doses[r].flow) (abortJob r s)
    else s
  | none => s

/-- The settle timer of a job in SETTLING has reached the recipe's settle time: the job reports (R77). -/
def settleExpiry (r : RobotId) (s : State) : State :=
  match s.robots[r].job with
  | some j => if j.state = .settling ∧ j.recipe.settle ≤ j.settleTimer then reportJob r false s else s
  | none => s

/-- The valve-open remainder has reached 1,000 ms: one second is counted on counter 8 + n (R158). -/
def valveSecond (r : RobotId) (s : State) : State :=
  let i := valveCounter r
  let c := s.counters[i]
  if 1000 ≤ c.remainder then
    countOn i { s with counters := s.counters.set i { c with remainder := c.remainder - 1000 } }
  else s

/-! ## Service and intrusion (R67, R68) -/

/-- The robot enters SERVICE at the end of a drain (R67): HOLD is raised for it, and JOG_ON after it for a JOG grant. -/
def enterService (jog : Bool) (r : RobotId) (s : State) : State :=
  let mode := s.robots[r].mode
  if mode = .manual ∨ mode = .production then
    let entered := changeRobot r (fun rb =>
      { rb with mode := .service, resume := mode == .production, armed := false, jog := jog }) s
    let held := raiseCommand r .hold entered
    if jog then raiseCommand r .jogOn held else held
  else s

/-- The robot's service ends (R67, R143). -/
def leaveService (r : RobotId) (s : State) : State :=
  let rb := s.robots[r]
  if rb.mode = .service then
    let left := changeRobot r (fun rb =>
      { rb with mode := if rb.resume then .production else .manual, armed := false, resume := false, jog := false }) s
    if rb.jog then raiseCommand r .jogOff left else left
  else s

/-- The zone's intrusion latch has been set, as one robot of the zone takes it (R68). -/
def intrudeRobot (r : RobotId) (s : State) : State :=
  let rb := s.robots[r]
  let unset := fun rb : Robot => { rb with resume := false, armed := false }
  match rb.mode with
  | .production => changeRobot r (fun rb => { unset rb with mode := .manual }) (abortJob r s)
  | .service =>
    let left := changeRobot r (fun rb => { unset rb with mode := .manual, jog := false }) s
    if rb.jog then raiseCommand r .jogOff left else left
  | _ => s.mapRobot r unset

/-! ## Limits of the fill section and assignment (R70, R73, R75, R76) -/

/-- The exit limit of one robot's job: its slot has left position x (R76). -/
def exitLimit (r : RobotId) (s : State) : State :=
  match s.robots[r].job with
  | some j =>
    if s.positionOf j.ticket = some (s.fill.exit + 1) then
      match j.state with
      | .settling => reportJob r true s
      | _ => failJob r .timeout .timeout s
    else s
  | none => s

/-- The approach limit of one robot's job: its slot has arrived at e + a with the job still in APPROACH (R75). -/
def approachLimit (r : RobotId) (s : State) : State :=
  match s.robots[r].job with
  | some j =>
    if j.state = .approach ∧ s.positionOf j.ticket = some (s.fill.entry + s.fill.approach) then
      failJob r .timeout .timeout s
    else s
  | none => s

/-- Arming of one robot (R70). -/
def armRobot (r : RobotId) (s : State) : State :=
  let rb := s.robots[r]
  if rb.mode = .production ∧ s.groups[rb.zone].state = .closed then s.mapRobot r fun rb => { rb with armed := true }
  else s

/-- Hand a slot to a robot (R73): the staged recipe becomes active first, the slot becomes PENDING with its fill robot and
without a volume (R17), the job is created in APPROACH and FILL_START is raised. -/
def assign (r : RobotId) (t : Half) (s : State) : State :=
  let ready := s.mapDose r Dose.activateStaged
  let recipe := (ready.doses[r].active).getD Recipe.blank
  let job : Job :=
    { ticket := t, state := .approach, opened := false, recipe, close := none, settleTimer := 0, noFlowTimer := 0 }
  let given := ready.mapRobot r fun rb => { rb with job := some job }
  raiseCommand r (.fillStart t) (editSlot t (fun sl => { sl with fill := .pending, robot := some r, volume := none }) given)

/-- The slot that has just arrived at fill entry is assigned to the lowest-numbered available robot, or skipped, without a
fill robot or a volume (R17, R73). -/
def assignEntry (s : State) : State :=
  let sl := s.slotAt s.fill.entry
  if sl.occupancy = .occupied ∧ sl.decision = none then
    match (allUnits 8).find? (available s) with
    | some r => assign r sl.ticket s
    | none =>
      let skipped := editSlot sl.ticket
        (fun sl => { sl with fill := .skipped, robot := none, volume := none, defects := sl.defects ||| fillFault }) s
      skipped.mapTallies fun t => { t with fillsSkipped := countUpTo maxLong t.fillsSkipped }
  else s

end Sys2Proof.Machine
end

