-- ==== Sys2Proof/Machine/Bus.lean ====
section
/-! DEFINITION. Bus.lean: the Robot Bus Master (4.7): the choice of the next transaction, the ends of transactions, the
held clock, and the poll timers. -/

namespace Sys2Proof.Machine

/-! ## The choice of the next transaction (R84) -/

/-- The oldest queued command other than POLL of a robot; a LOST robot is passed over (R84). -/
def commandCandidate (s : State) (r : RobotId) : Option BusEntry :=
  if s.robots[r].mode = .lost then none else s.bus.queues[r].places.find? fun e => !e.command.isPoll

/-- The oldest POLL entry of a robot. -/
def pollCandidate (s : State) (r : RobotId) : Option BusEntry :=
  s.bus.queues[r].places.find? fun e => e.command.isPoll

/-- Of two candidates the one whose turn comes first (R84). -/
def earlier (a b : Option (RobotId × BusEntry)) : Option (RobotId × BusEntry) :=
  match a, b with
  | some x, some y => if y.2.turn < x.2.turn then b else a
  | none, _ => b
  | _, none => a

/-- Among the robots' candidates the command raised earliest (R84). -/
def nextCommand (s : State) : Option (RobotId × BusEntry) :=
  (allUnits 8).foldl (fun best r => earlier best ((commandCandidate s r).map fun e => (r, e))) none

/-- The robots in round-robin order, starting after one of them (R84). -/
def roundRobin (r : RobotId) : List RobotId := (allUnits 8).map fun k => r + 1 + k

/-- The next POLL in round-robin over the robots (R84). -/
def nextPoll (s : State) : Option (RobotId × BusEntry) :=
  (roundRobin s.bus.lastPolled).findSome? fun r => (pollCandidate s r).map fun e => (r, e)

/-- The bus is free: no transaction runs and no robot holds RBCLK (R82, R84). -/
def busFree (s : State) : Bool := s.bus.transaction.isNone && s.bus.clockHeldBy.isNone

/-- Begin an addressed transaction; the phase is the pitch counter as it stands (R82). -/
def beginAddressed (r : RobotId) (e : BusEntry) (s : State) : State :=
  { s with bus :=
      { s.bus with
        transaction := some (.addressed r e.serial e.command s.pitch.counter)
        lastPolled := if e.command.isPoll then r else s.bus.lastPolled } }

/-- BUS_TRANSACTION_START (R84): a pending broadcast, then the queued commands, then the polls in turn. -/
def startTransaction (s : State) : State :=
  if busFree s then
    if s.bus.broadcast then { s with bus := { s.bus with transaction := some .broadcastHold } }
    else match nextCommand s with
      | some (r, e) => beginAddressed r e s
      | none => match nextPoll s with
        | some (r, e) => beginAddressed r e s
        | none => s
  else s

/-! ## The ends of transactions (R82, R83, R86, R87) -/

/-- The bus is free again after a transaction. -/
def endTransaction (s : State) : State := { s with bus := { s.bus with transaction := none } }

/-- Remove an entry from a robot's queue, and let a waiting command take its place (R85). -/
def removeEntry (r : RobotId) (serial : Nat) (s : State) : State :=
  s.mapQueue r fun q => q.keep fun e => e.serial != serial

/-- BROADCAST_HOLD_SENT (R83): every robot that is not OFF has its held flag set. -/
def broadcastSent (s : State) : State :=
  match s.bus.transaction with
  | some .broadcastHold =>
    if s.bus.clockHeldBy.isSome then s
    else
      let ended := { s with bus := { s.bus with transaction := none, broadcast := false } }
      forEach (allUnits 8)
        (fun r t => t.mapRobot r fun rb => { rb with held := rb.held || rb.mode != .off }) ended
  | _ => s

/-- A command's entry has failed for the first time, or again as a FILL_ABORT that stays (R87). -/
def deferEntry (r : RobotId) (serial : Nat) (s : State) : State :=
  let now := s.bus.moment
  passMoment (s.mapQueue r fun q =>
    { q with places := q.places.map fun e => if e.serial = serial then { e with failed := true, turn := now } else e })

/-- A command that fails is retried once and then removed; a FILL_ABORT stays until its robot is OFF (R87). -/
def commandFailed (r : RobotId) (serial : Nat) (s : State) : State :=
  match s.bus.queues[r].places.find? fun e => e.serial == serial with
  | none => s
  | some e =>
    if !e.failed || (e.command == .fillAbort && s.robots[r].mode != .off) then deferEntry r serial s
    else removeEntry r serial s

/-- A command has reached its robot (R87, R88): its entry leaves, the failure count is 0, and HOLD and RELEASE change the
held flag. -/
def commandSucceeded (r : RobotId) (serial : Nat) (c : BusCommand) (s : State) : State :=
  (removeEntry r serial s).mapRobot r fun rb =>
    { rb with
      failures := if rb.mode = .lost then rb.failures else 0
      held := match c with
        | .hold => true
        | .release => false
        | _ => rb.held }

/-- An addressed transaction fails (R82, R87): a failed POLL leaves the queue, a failed command is retried. -/
def transactionFailed (r : RobotId) (serial : Nat) (c : BusCommand) (s : State) : State :=
  countFailure r (if c.isPoll then removeEntry r serial s else commandFailed r serial s)

/-- COMMAND_TRANSACTION_DONE (R87). -/
def commandDone (acked : Bool) (s : State) : State :=
  match s.bus.transaction with
  | some (.addressed r serial c _) =>
    if c.isPoll || s.bus.clockHeldBy.isSome then s
    else if acked then commandSucceeded r serial c (endTransaction s)
    else transactionFailed r serial c (endTransaction s)
  | _ => s

/-- POLL_DONE (R86): a poll of a robot that has become OFF meanwhile is recorded and acted on no further. R85 to R87 do not say
when a POLL entry leaves the queue; that it keeps its place to the end of its transaction, where a newer one may replace it,
is a DESIGN CHOICE (notes/assumptions/49.md). -/
def pollDone (acked : Bool) (statusByte codeByte : Byte) (s : State) : State :=
  match s.bus.transaction with
  | some (.addressed r serial c _) =>
    if !c.isPoll || s.bus.clockHeldBy.isSome then s
    else match (if acked then pollStatus statusByte codeByte else none) with
      | some st => takePoll r st (removeEntry r serial (endTransaction s))
      | none => transactionFailed r serial c (endTransaction s)
  | _ => s

/-! ## The held clock (R82) -/

/-- CLOCK_HOLD_TIMEOUT (R82): the first full millisecond fails the transaction that runs, and each further one counts as
one more failed transaction of the robot that holds the clock. -/
def clockHold (r : RobotId) (s : State) : State :=
  match s.bus.clockHeldBy with
  | some h => if h = r then countFailure r s else s
  | none =>
    let holding := fun t : State => { t with bus := { t.bus with clockHeldBy := some r } }
    match s.bus.transaction with
    | some (.addressed q serial c _) => holding (transactionFailed q serial c (endTransaction s))
    | some .broadcastHold => holding s
    | none => s

/-- ROBOT_CLOCK_RELEASE (R82): the robot that held RBCLK releases it. -/
def clockRelease (r : RobotId) (s : State) : State :=
  if s.bus.clockHeldBy = some r then { s with bus := { s.bus with clockHeldBy := none } } else s

/-! ## Poll timers (R86) -/

/-- The poll timer of a robot that is not OFF has reached 5 ms: a POLL is raised (R86). -/
def pollExpiry (r : RobotId) (s : State) : State :=
  let rb := s.robots[r]
  if rb.mode ≠ .off ∧ 5 ≤ rb.pollTimer then raisePoll r (s.mapRobot r fun rb => { rb with pollTimer := 0 }) else s

end Sys2Proof.Machine
end

