-- ==== Sys2Proof/Machine/Power.lean ====
section
/-! DEFINITION. Power.lean: the power groups (6.2) and the main switch (6.1). What a group's change means for the grants is
in Access.lean. -/

namespace Sys2Proof.Machine

/-! ## Group states (R114, R123) -/

/-- The supervision timer at the entry to a state (R114, R116 to R121), given what KFn reports. -/
def entryTimer (st : GroupState) (reportsClosed : Bool) : Option Nat :=
  match st with
  | .closing | .opening => some 0
  | .closed => if reportsClosed then none else some 0
  | .isOpen | .faultPullin => if reportsClosed then some 0 else none
  | .faultWeld => none

/-- A group enters a state: its timer starts or stops, and GROUP_STATE is raised (R123). -/
def enterGroup (g : GroupId) (st : GroupState) (s : State) : State :=
  let old := s.groups[g].state
  raiseEvent .groupState g.val (detail st.code) (detail old.code)
    (s.mapGroup g fun _ => { state := st, timer := entryTimer st s.pins.mirror[g] })

/-- Robots of the zones a list names are acted on when their groups leave CLOSED, in increasing robot number (R124): jobs
aborted, armed flags cleared. -/
def leaveClosed (zones : List GroupId) (s : State) : State :=
  forEach (allUnits 8)
    (fun r t =>
      if zones.contains t.robots[r].zone then
        (abortJob r t).mapRobot r fun rb => { rb with armed := false }
      else t) s

/-- The number of jobs the robots of a zone hold. -/
def zoneJobs (s : State) (z : GroupId) : Nat :=
  (allUnits 8).countP fun r => s.robots[r].zone == z && s.robots[r].job.isSome

/-- The open of a group's contactor (R119), without what leaving CLOSED means for the robots. -/
def dropCoil (g : GroupId) (s : State) : State :=
  if s.groups[g].state.coil then
    if s.pins.mirror[g] then enterGroup g .opening s else enterGroup g .isOpen s
  else s

/-- An open of a group, by the host or internal (R119, R124). That its GROUP_STATE comes before a COUNTER_STATE of the aborted
jobs is a DESIGN CHOICE, since R169 leaves that order open (notes/assumptions/47.md). -/
def openGroup (g : GroupId) (s : State) : State :=
  if s.groups[g].state = .closed then leaveClosed [g] (dropCoil g s) else dropCoil g s

/-- The coil is energised after an accepted GROUP_CLOSE in OPEN (R116), and a report of closed already standing makes the
group CLOSED at once (R117). That the operation is counted, with its COUNTER_STATE, between the two GROUP_STATE events is a
DESIGN CHOICE, since R169 leaves their order open (notes/assumptions/41.md). -/
def closeGroup (g : GroupId) (s : State) : State :=
  let closing := countOn (contactorCounter g) (enterGroup g .closing s)
  if s.pins.mirror[g] then enterGroup g .closed closing else closing

/-! ## Supervision (R117 to R121) -/

/-- The supervision timer of the group has reached a number of milliseconds in a state. -/
def supervised (s : State) (g : GroupId) (st : GroupState) (limit : Nat) : Bool :=
  s.groups[g].state == st && match s.groups[g].timer with
    | some t => decide (limit ≤ t)
    | none => false

/-- The pull-in has taken 150 ms (R117): FAULT_PULLIN with cause 0. -/
def pullinExpiry (g : GroupId) (s : State) : State :=
  if supervised s g .closing 150 then enterGroup g .faultPullin (raiseEvent .pullinFault g.val 0 0 s) else s

/-- The report of open has stood for more than 30 ms in CLOSED (R118): FAULT_PULLIN with cause 1, and the zone's jobs are
aborted (R124). -/
def fallOutExpiry (g : GroupId) (s : State) : State :=
  if supervised s g .closed 31 then
    leaveClosed [g]
      (enterGroup g .faultPullin (raiseEvent .pullinFault g.val 1 (detail (zoneJobs s g)) s))
  else s

/-- The group's contactor counter total, as WELD_FAULT carries it (R123). -/
def contactorTotal (s : State) (g : GroupId) : Half := detail s.counters[contactorCounter g].total

/-- The drop-out has taken 100 ms (R120): FAULT_WELD with cause 0. -/
def dropoutExpiry (g : GroupId) (s : State) : State :=
  if supervised s g .opening 100 then
    enterGroup g .faultWeld (raiseEvent .weldFault g.val 0 (contactorTotal s g) s)
  else s

/-- A contactor has been reported closed for 100 ms in OPEN or FAULT_PULLIN (R121): FAULT_WELD with cause 1. -/
def weldExpiry (g : GroupId) (s : State) : State :=
  if supervised s g .isOpen 100 || supervised s g .faultPullin 100 then
    enterGroup g .faultWeld (raiseEvent .weldFault g.val 1 (contactorTotal s g) s)
  else s

/-- Start or stop the supervision timer of a group that keeps its state (R118, R121). -/
def setGroupTimer (g : GroupId) (t : Option Nat) (s : State) : State := s.mapGroup g fun gr => { gr with timer := t }

/-- What a change of KFn does to its group (R117, R118, R120, R121). -/
def mirrorChange (g : GroupId) (reportsClosed : Bool) (s : State) : State :=
  if s.pins.mirror[g] = reportsClosed then s
  else
    let read := { s with pins := { s.pins with mirror := s.pins.mirror.set g reportsClosed } }
    match s.groups[g].state, reportsClosed with
    | .closing, true => enterGroup g .closed read
    | .opening, false => enterGroup g .isOpen read
    | .closed, false => setGroupTimer g (some 0) read
    | .closed, true => setGroupTimer g none read
    | .isOpen, true => setGroupTimer g (some 0) read
    | .isOpen, false => setGroupTimer g none read
    | .faultPullin, true => setGroupTimer g (some 0) read
    | .faultPullin, false => setGroupTimer g none read
    | .closing, false => read
    | .opening, true => read
    | .faultWeld, _ => read

/-! ## The main switch (R108 to R111) -/

/-- The groups that are CLOSED. -/
def closedGroups (s : State) : List GroupId := (allUnits 4).filter fun g => s.groups[g].state == .closed

/-- What the switch leaving ON does after its event (R110): every CLOSED or CLOSING group is opened in increasing number,
the jobs of the zones that left CLOSED are aborted in increasing robot number, and a broadcast HOLD is raised. -/
def cutPower (s : State) : State :=
  raiseBroadcast (leaveClosed (closedGroups s) (forEach (allUnits 4) dropCoil s))

/-- Store the switch state and the alike timer. -/
def setSwitch (st : SwitchState) (alike : Option Nat) (s : State) : State :=
  { s with mainSwitch := { s.mainSwitch with state := st, alike := alike } }

/-- The pair reads the ON pair (R108, R111). -/
def switchToOn (s : State) : State :=
  let old := s.mainSwitch.state
  let on := setSwitch .on none s
  if old = .on then on else raiseEvent .switchOn 0 (detail old.code) 0 on

/-- The pair reads the OFF pair (R108, R110, R111). -/
def switchToOff (s : State) : State :=
  let off := setSwitch .off none s
  match s.mainSwitch.state with
  | .off => off
  | .on => cutPower (raiseEvent .switchOff 0 (detail SwitchState.on.code) 0 (addSwitchCause off))
  | .discrepant => raiseEvent .switchOff 0 (detail SwitchState.discrepant.code) 0 off

/-- A change of MSA or MSB (R108): the pair is taken afresh. A pair that becomes ALIKE starts the alike timer, and a change
from one ALIKE reading to the other changes nothing. -/
def contactChange (msaClosed msbClosed : Bool) (s : State) : State :=
  if s.pins.msa = msaClosed ∧ s.pins.msb = msbClosed then s
  else
    let read := { s with pins := { s.pins with msa := msaClosed, msb := msbClosed } }
    match contactPair msaClosed msbClosed with
    | .onPair => switchToOn read
    | .offPair => switchToOff read
    | .alike => if s.pair = .alike then read else setSwitch s.mainSwitch.state (some 0) read

/-- The alike timer has reached 31 ms (R109): DISCREPANT, the latch, the causes and SWITCH_DISCREPANCY, and R110 where the
state left is ON. -/
def discrepancyExpiry (s : State) : State :=
  match s.mainSwitch.alike with
  | some t =>
    if 31 ≤ t then
      let old := s.mainSwitch.state
      let latched := { s with mainSwitch := { state := .discrepant, alike := none, latch := true } }
      let told := raiseEvent .switchDiscrepancy 0 (detail old.code) (detail (s.pins.msa && s.pins.msb).toNat)
        (addSwitchCause (addDiscrepancy latched))
      if old = .on then cutPower told else told
    else s
  | none => s

end Sys2Proof.Machine
end

