-- ==== Sys2Proof/Machine/Access.lean ====
section
/-! DEFINITION. Access.lean: the Access Controller (chapter 7): the life of a grant, doors, and intrusions. -/

namespace Sys2Proof.Machine

/-! ## Grant events (R144) -/

/-- Raise GRANT_STATE: the unit is the place plus eight times the code of the new state, the details are the badge
(R144). -/
def raiseGrantState (i : PlaceId) (badge : Long) (code : Nat) (s : State) : State :=
  raiseEvent .grantState (i.val + 8 * code) (lowerHalf badge.toNat) (upperHalf badge.toNat) s

/-- A grant enters a state, and GRANT_STATE is raised (R144). -/
def enterGrant (i : PlaceId) (g : Grant) (st : GrantState) (s : State) : State :=
  raiseGrantState i g.badge st.code (s.putGrant i (some { g with state := st }))

/-! ## Drain and isolation (R133, R135, R136, R145) -/

/-- The covered zones of a grant, in increasing order. -/
def coveredZones (g : Grant) : List GroupId := (allUnits 4).filter g.covers

/-- No robot of the grant's covered zones holds a job (R133). -/
def drained (s : State) (g : Grant) : Bool :=
  (allUnits 8).all fun r => !(g.covers s.robots[r].zone && s.robots[r].job.isSome)

/-- The robots of the covered zones in MANUAL or PRODUCTION enter SERVICE, in increasing robot number, but for the zones
whose intrusion latch is set (R133). -/
def serveRobots (g : Grant) (s : State) : State :=
  forEach (allUnits 8)
    (fun r t =>
      if g.covers t.robots[r].zone && !t.access.zoneLatch[t.robots[r].zone] then
        enterService (g.kind == .jog) r t
      else t) s

/-- The drain of the grant in a place ends (R133): its robots enter SERVICE, and it enters OPEN for JOG (R145), or
ISOLATING, which opens its covered groups in increasing group number (R135). -/
def endDrain (i : PlaceId) (g : Grant) (s : State) : State :=
  let served := serveRobots g s
  if g.kind = .jog then enterGrant i g .isOpen served
  else forEach (coveredZones g) openGroup (enterGrant i g .isolating served)

/-- Judge the drain of the grant in a place (R133). -/
def judgeDrain (i : PlaceId) (s : State) : State :=
  match s.access.grants[i] with
  | some g => if g.state = .draining ∧ drained s g then endDrain i g s else s
  | none => s

/-- A covered group counts as isolated (R135). -/
def isolated (s : State) (z : GroupId) : Bool :=
  s.groups[z].state == .isOpen || (s.groups[z].state == .faultPullin && !s.pins.mirror[z])

/-- The lowest covered group that is FAULT_WELD. R136 and R144 name "the welded group"; that of several the lowest is named is
a DESIGN CHOICE (notes/assumptions/42.md). -/
def weldedGroup (s : State) (g : Grant) : Option GroupId :=
  (coveredZones g).find? fun z => s.groups[z].state == .faultWeld

/-- Judge the isolation of the grant in a place: a covered weld makes it ISOLATION_FAILED in ISOLATING, OPEN and OVERDUE
(R136), and a grant in ISOLATING enters OPEN when every covered group is isolated (R135). JOG isolates nothing (R145). -/
def judgeIsolation (i : PlaceId) (s : State) : State :=
  match s.access.grants[i] with
  | some g =>
    if g.kind ≠ .jog ∧ (g.state = .isolating ∨ g.releasing) then
      match weldedGroup s g with
      | some z =>
        enterGrant i g .isolationFailed (raiseEvent .isolationFailed i.val (detail z.val) g.number s)
      | none =>
        if g.state = .isolating ∧ (coveredZones g).all (isolated s) then enterGrant i g .isOpen s else s
    else s
  | none => s

/-- The grants judge their drains and their isolation, in increasing table index (R133, R135, R136). -/
def judgeGrants (s : State) : State := forEach (allUnits 8) (fun i t => judgeIsolation i (judgeDrain i t)) s

/-- What every change that may concern the grants and the held robots is followed by: the grants judge (R133, R135, R136)
and the robots are judged for RELEASE (R88). -/
def settle (s : State) : State := judgeReleases (judgeGrants s)

/-- The drain timer has reached 10,000 ms with a job still held (R134): every such job is aborted in increasing robot
number. The grants then judge their drains in increasing table index, this one among them (R133, R144). -/
def drainExpiry (i : PlaceId) (s : State) : State :=
  match s.access.grants[i] with
  | some g =>
    if g.state = .draining ∧ 10000 ≤ g.drainTimer ∧ !drained s g then
      forEach (allUnits 8) (fun r t => if g.covers t.robots[r].zone then abortJob r t else t) s
    else s
  | none => s

/-! ## The end of a grant (R143) -/

/-- A grant ends (R143): its place is empty, the robots of each zone whose lockout count has reached 0 and whose latch is
clear leave SERVICE, in increasing robot number, and GRANT_STATE is raised with ENDED. -/
def endGrant (i : PlaceId) (g : Grant) (s : State) : State :=
  let removed := s.putGrant i none
  let left := forEach (allUnits 8)
    (fun r t =>
      let z := t.robots[r].zone
      if g.covers z && !locked removed z then leaveService r t else t) removed
  raiseGrantState i g.badge endedCode left

/-- What a grant does at its expiry (R138): a DRAINING or ISOLATING grant ends, an OPEN one ends with its doors closed and
becomes OVERDUE otherwise, and the other states go on. -/
def atExpiry (i : PlaceId) (g : Grant) (s : State) : State :=
  match g.state with
  | .draining | .isolating => endGrant i g s
  | .isOpen =>
    if openDoors s g = 0 then endGrant i g s
    else enterGrant i g .overdue (raiseEvent .grantOverdue i.val g.number (detail (openDoors s g)) s)
  | .overdue | .awaitingClose | .isolationFailed => s

/-- The grant in a place expires if an uptime is its expiry (R138). -/
def expireGrant (i : PlaceId) (uptime : Long) (s : State) : State :=
  match s.access.grants[i] with
  | some g => if uptime = g.expiry then atExpiry i g s else s
  | none => s

/-! ## Intrusions (R146, R147) -/

/-- The number of jobs an intrusion into the zone aborts (R68). -/
def intrudedJobs (s : State) (z : GroupId) : Nat :=
  (allUnits 8).countP fun r =>
    s.robots[r].zone == z && s.robots[r].mode == .production && s.robots[r].job.isSome

/-- Set a zone's intrusion latch. -/
def setZoneLatch (z : GroupId) (on : Bool) (s : State) : State :=
  { s with access := { s.access with zoneLatch := s.access.zoneLatch.set z on } }

/-- A zone intrusion whose INTRUSION carries the given first detail word (R146, R147, R149); with the latch already set it
changes nothing. R146 puts INTRUSION before ROBOT_MODE and GROUP_STATE; that it also comes before a COUNTER_STATE of the
aborted jobs is a DESIGN CHOICE, since R169 leaves that order open (notes/assumptions/47.md). -/
def zoneIntrusion (z : GroupId) (how : Half) (s : State) : State :=
  if s.access.zoneLatch[z] then s
  else
    let told := raiseEvent .intrusion z.val how (detail (intrudedJobs s z)) (setZoneLatch z true s)
    let stopped := forEach (allUnits 8) (fun r t => if t.robots[r].zone = z then intrudeRobot r t else t) told
    openGroup z stopped

/-- The number of zone latches that are clear. -/
def clearLatches (s : State) : Nat := (allUnits 4).countP fun z => !s.access.zoneLatch[z]

/-- A cabinet intrusion (R147): `how` is the first detail word of its own INTRUSION and `zoneHow` that of the zones'. -/
def cabinetIntrusion (how zoneHow : Half) (s : State) : State :=
  if s.access.cabinetLatch then s
  else
    let latched := addCabinetIntrusion { s with access := { s.access with cabinetLatch := true } }
    let told := raiseEvent .intrusion 4 how (detail (clearLatches s)) latched
    raiseBroadcast (forEach (allUnits 4) (fun z t => zoneIntrusion z zoneHow t) told)

/-! ## Doors (R127, R137, R139, R141) -/

/-- The grant in a place has its door-opened flag set if it is in OPEN or OVERDUE and holds the door (R127, R137). -/
def flagGrant (d : DoorId) (i : PlaceId) (s : State) : State :=
  match s.access.grants[i] with
  | some g => if g.releasing && g.hasDoor d then s.putGrant i (some { g with doorOpened := true }) else s
  | none => s

/-- The opening of a door sets the door-opened flag of every grant in OPEN or OVERDUE that holds it (R127, R137). -/
def flagOpened (d : DoorId) (s : State) : State := forEach (allUnits 8) (flagGrant d) s

/-- The grant in a place ends if it waits in OVERDUE or AWAITING_CLOSE for the door that has closed and all its doors are
now closed (R139, R141). -/
def endClosedGrant (d : DoorId) (i : PlaceId) (s : State) : State :=
  match s.access.grants[i] with
  | some g =>
    if (g.state = .overdue ∨ g.state = .awaitingClose) ∧ g.hasDoor d ∧ openDoors s g = 0 then endGrant i g s else s
  | none => s

/-- The closing of a door ends the grants that waited for it, in increasing table index (R139, R141). -/
def endClosedGrants (d : DoorId) (s : State) : State := forEach (allUnits 8) (endClosedGrant d) s

/-- An opening that no grant in OPEN or OVERDUE releases is an intrusion (R127, R146, R147). -/
def judgeOpening (d : DoorId) (s : State) : State :=
  if doorReleased s d then s
  else match doorZone d with
    | some z => zoneIntrusion z 0 s
    | none => cabinetIntrusion 0 1 s

/-- A change of a door input (R127). -/
def doorChange (d : DoorId) (isOpen : Bool) (s : State) : State :=
  if s.pins.doors[d] = isOpen then s
  else
    let read := { s with pins := { s.pins with doors := s.pins.doors.set d isOpen } }
    if isOpen then judgeOpening d (flagOpened d read) else endClosedGrants d read

end Sys2Proof.Machine
end

