-- ==== Sys2Proof/Machine/Cameras.lean ====
section
/-! DEFINITION. Cameras.lean: the Camera Ports and Verdict Merge (chapter 2): making entries MISSING, arrival and trigger,
the deadline, the port's bytes and records, and the camera states. -/

namespace Sys2Proof.Machine

/-! ## MISSING (R35) -/

/-- The slot holds an AWAITED entry for the camera. -/
def Slot.awaits (sl : Slot) (n : CameraId) : Bool :=
  sl.verdicts.any fun e => e.camera == n && e.verdict == .awaited

/-- Settle the slot's AWAITED entry for the camera. -/
def Slot.settleEntry (sl : Slot) (n : CameraId) (v : Verdict) : Slot :=
  { sl with verdicts := sl.verdicts.map fun e =>
      if e.camera = n ∧ e.verdict = .awaited then { e with verdict := v } else e }

/-- Make the slot's AWAITED entry for the camera MISSING; a REMOVED slot is not marked (R35). -/
def Slot.miss (sl : Slot) (n : CameraId) (required : Bool) : Slot :=
  if sl.occupancy = .removed ∨ !sl.awaits n then sl
  else { sl.settleEntry n .missing with defects := if required then sl.defects ||| unverified else sl.defects }

/-- Make the entry MISSING with the camera's active required flag (R35). -/
def missAt (n : CameraId) (p : Nat) (s : State) : State :=
  editSlotAt p (fun sl => sl.miss n s.cameras[n].cfg.required) s

/-- Make every AWAITED entry of the camera in a slot on the track MISSING, with the given required flag (R25). -/
def missAll (n : CameraId) (required : Bool) (s : State) : State :=
  forEach (List.range s.track.length) (fun p => editSlotAt p fun sl => sl.miss n required) s

/-! ## Lists (R37, R41 to R43) -/

/-- The slot with the ticket has an outstanding entry. -/
def Camera.hasOutstanding (c : Camera) (t : Half) : Bool := c.outstanding.any fun o => o.ticket == t

/-- Add a number at the end of the late list; of 16 the oldest is removed first (R41). -/
def addLate (late : List Byte) (number : Byte) : List Byte :=
  (if Config.listCapacity ≤ late.length then late.drop 1 else late) ++ [number]

/-- Remove the outstanding entries of a slot and arm their numbers as late (R41 to R43). -/
def Camera.retire (c : Camera) (t : Half) : Camera :=
  { c with
    outstanding := c.outstanding.filter fun o => o.ticket != t
    late := (c.outstanding.filter fun o => o.ticket == t).foldl (fun l o => addLate l o.number) c.late }

/-- Empty both lists (R25, R43). -/
def Camera.emptyLists (c : Camera) : Camera := { c with outstanding := [], late := [] }

/-! ## The boundary at a camera (R36, R39, R42) -/

/-- A slot that has left the camera's position without ever being triggered has its entry made MISSING (R39). -/
def neverTriggered (n : CameraId) (s : State) : State :=
  let c := s.cameras[n]
  let p := c.cfg.position + 1
  if c.cfg.enabled ∧ p < s.track.length ∧ !c.hasOutstanding (s.slotAt p).ticket then missAt n p s else s

/-- The deadline at one position: an AWAITED entry is made MISSING, and its outstanding entry is retired (R42). -/
def deadlineAt (n : CameraId) (p : Nat) (s : State) : State :=
  if (s.slotAt p).awaits n then
    (missAt n p s).mapCamera n fun c => c.retire (s.slotAt p).ticket
  else s

/-- The verdict deadline of a camera: every slot at or beyond c + d, the oldest first (R42). -/
def deadlineCheck (n : CameraId) (s : State) : State :=
  let cfg := s.cameras[n].cfg
  if cfg.enabled then
    forEach ((List.range s.track.length).filter fun p => decide (cfg.position + cfg.deadline ≤ p)).reverse
      (deadlineAt n) s
  else s

/-- The slot's verdict list with an AWAITED entry of the camera at its end (R36). The list holds at most one entry per camera
(R17): an entry that an earlier position of the camera left in it gives way to the new one (notes/assumptions/21.md). -/
def Slot.join (sl : Slot) (n : CameraId) : Slot :=
  { sl with verdicts := (sl.verdicts.filter fun e => e.camera != n) ++ [{ camera := n, verdict := .awaited }] }

/-- An OCCUPIED slot that arrives at the camera's position gains an AWAITED entry, made MISSING at once if the camera is
not READY (R36). -/
def arriveAt (n : CameraId) (s : State) : State :=
  let c := s.cameras[n]
  let p := c.cfg.position
  if c.cfg.enabled ∧ p < s.track.length ∧ (s.slotAt p).occupancy = .occupied then
    let joined := editSlotAt p (fun sl => sl.join n) s
    if c.state = .ready then joined else missAt n p joined
  else s

/-- What the pitch boundary does at the cameras, after the track has advanced. -/
def camerasAtBoundary (s : State) : State :=
  forEach (allUnits 6) arriveAt (forEach (allUnits 6) deadlineCheck (forEach (allUnits 6) neverTriggered s))

/-! ## The trigger (R37, R38) -/

/-- Pulse TRGn for the slot at the camera's position (R37). -/
def pulseTrigger (n : CameraId) (t : Half) (s : State) : State :=
  countOn (cameraCounter n)
    (s.mapCamera n fun c =>
      { c with
        pulse := true
        late := c.late.filter fun m => m != c.trigger
        outstanding := c.outstanding ++ [{ number := c.trigger, ticket := t }]
        trigger := c.trigger + 1 })

/-- The camera's phase is reached: it is triggered, overrun, or its entry is made MISSING (R37, R38). -/
def triggerAt (n : CameraId) (s : State) : State :=
  let c := s.cameras[n]
  let p := c.cfg.position
  let sl := s.slotAt p
  if c.cfg.enabled ∧ s.pitch.counter = c.cfg.phase ∧ p < s.track.length ∧ sl.awaits n ∧ !c.hasOutstanding sl.ticket
  then
    if c.state ≠ .ready then missAt n p s
    else if sl.occupancy ≠ .occupied then s
    else if c.outstanding.length < Config.listCapacity then pulseTrigger n sl.ticket s
    else raiseEvent .triggerOverrun n.val sl.ticket (c.trigger.setWidth 16) (missAt n p s)
  else s

/-! ## Camera states (R32 to R34) -/

/-- STATUS READY renumbers the triggers and gives up the outstanding entries (R32). -/
def statusReady (n : CameraId) (s : State) : State :=
  let c := s.cameras[n]
  let missed := forEach c.outstanding
    (fun o => editSlot o.ticket fun sl => sl.miss n c.cfg.required) s
  let ready := missed.mapCamera n fun c => { c.emptyLists with trigger := 0, state := .ready, silence := 0 }
  if c.state = .ready ∧ c.outstanding = [] then ready
  else raiseEvent .cameraReady n.val (detail c.state.code) (detail c.outstanding.length) ready

/-- STATUS NOT_READY makes a READY camera NOT_READY (R33). -/
def statusNotReady (n : CameraId) (s : State) : State :=
  let c := s.cameras[n]
  if c.state = .ready then
    raiseEvent .cameraNotReady n.val (detail CameraState.ready.code) (detail c.outstanding.length)
      (s.mapCamera n fun c => { c with state := .notReady })
  else s

/-- The silence timer of a camera in READY or NOT_READY has reached 2,000 ms: the camera is LOST (R34). -/
def silenceExpiry (n : CameraId) (s : State) : State :=
  let c := s.cameras[n]
  if (c.state = .ready ∨ c.state = .notReady) ∧ 2000 ≤ c.silence then
    raiseEvent .cameraLost n.val (detail c.state.code) (detail c.outstanding.length)
      (s.mapCamera n fun c => { c with state := .lost })
  else s

/-! ## Verdicts (R40, R41) -/

/-- Merge a verdict into its slot; a REMOVED slot is not changed (R40). -/
def Slot.merge (sl : Slot) (n : CameraId) (mask classes : ClassSet) : Slot :=
  if sl.occupancy = .removed then sl
  else
    let received := classes &&& 0x0FFF
    let v := if received &&& mask = 0 then Verdict.pass received else .defect received
    { sl.settleEntry n v with defects := sl.defects ||| (received &&& mask) }

/-- A complete VERDICT record: matched by trigger number and merged, or reported (R40, R41). -/
def takeVerdict (n : CameraId) (t : Byte) (classes : ClassSet) (s : State) : State :=
  let c := s.cameras[n]
  match c.outstanding.find? fun o => o.number == t with
  | some o =>
    editSlot o.ticket (fun sl => sl.merge n c.cfg.mask classes)
      (s.mapCamera n fun c => { c with outstanding := c.outstanding.filter fun o => o.number != t })
  | none =>
    raiseEvent .unmatchedVerdict n.val (t.setWidth 16) (detail (c.late.contains t).toNat)
      (s.mapCamera n fun c => { c with late := c.late.filter fun m => m != t })

/-! ## The port (R27 to R31) -/

/-- Act on a complete record (R29, R31). -/
def takeRecord (n : CameraId) (kind : RecordKind) (params : List Byte) (s : State) : State :=
  match kind, params with
  | .verdict, [t, hi, lo] => takeVerdict n t (half lo hi) s
  | .status, [v] =>
    if v = 1 then statusReady n s
    else if v = 2 then statusNotReady n s
    else raiseEvent .unknownRecord n.val (RecordKind.status.code.setWidth 16) (v.setWidth 16) s
  | _, _ => s

/-- Set the receiver of a port. -/
def setReceiver (n : CameraId) (r : PortReceiver) (s : State) : State :=
  s.mapCamera n fun c => { c with receiver := r }

/-- A kind byte completed on a port (R29). -/
def takeKind (n : CameraId) (b : Byte) (s : State) : State :=
  let broken := match s.cameras[n].receiver with
    | .collecting kind params =>
      raiseEvent .brokenRecord n.val (kind.code.setWidth 16) (detail params.length) s
    | .idle | .discarding => s
  match recordOfKind b with
  | some kind => setReceiver n (.collecting kind []) broken
  | none => raiseEvent .unknownRecord n.val (b.setWidth 16) 0 (setReceiver n .discarding broken)

/-- A parameter byte completed on a port (R29, R30). -/
def takeParameter (n : CameraId) (b : Byte) (s : State) : State :=
  match s.cameras[n].receiver with
  | .idle => s.mapCamera n fun c => { c with strayCount := countUpTo maxHalf c.strayCount }
  | .discarding => s
  | .collecting kind params =>
    let params := params ++ [b]
    if params.length < kind.params then setReceiver n (.collecting kind params) s
    else
      takeRecord n kind params (s.mapCamera n fun c => { c with receiver := .idle, silence := 0 })

/-- The camera has its port selected: CSELn is low. -/
def selectPort (n : CameraId) (s : State) : State :=
  { s with pins := { s.pins with deselected := s.pins.deselected.set n false } }

/-- A byte completed on the port of an enabled camera is handed to the record assembly, and the next byte starts from its
first bit (R27). That a byte sent whole drops the 1 to 7 bits that already stand in the port, whether or not they
begin it, is a DESIGN CHOICE (notes/assumptions/52.md). The port of a disabled camera ignores it (R25). -/
def takeByte (n : CameraId) (kindByte : Bool) (b : Byte) (s : State) : State :=
  let low := selectPort n s
  if s.cameras[n].cfg.enabled then
    let started := low.mapCamera n fun c => { c with bits := [] }
    if kindByte then takeKind n b started else takeParameter n b started
  else low

/-- A CCLKn rising edge taken with CSELn low: the eighth bit completes the byte, and CKNDn at that edge makes it a kind byte
or a parameter byte (R27). -/
def clockBit (n : CameraId) (data kindHigh : Bool) (s : State) : State :=
  let low := selectPort n s
  if s.cameras[n].cfg.enabled then
    let bits := s.cameras[n].bits ++ [data]
    if bits.length < 8 then low.mapCamera n fun c => { c with bits := bits }
    else takeByte n (!kindHigh) (BitVec.ofNat 8 (setNumber bits.reverse)) s
  else low

/-- A rise of CSELn: a pause keeps the port as it stands, and a break discards the bits received (R28). -/
def selectRise (n : CameraId) (s : State) : State :=
  let high := { s with pins := { s.pins with deselected := s.pins.deselected.set n true } }
  if s.cameras[n].cfg.enabled then high.mapCamera n fun c => { c with bits := [] } else high

/-- The bytes a camera still has to send to complete a record, given what the receiver has collected: the parameters that
are missing where the record in progress is this one so far, and the whole record otherwise. -/
def missingBytes (r : PortReceiver) (kind : RecordKind) (params : List Byte) : List (Bool × Byte) :=
  match r with
  | .collecting k ps =>
    if k = kind ∧ ps.isPrefixOf params then (params.drop ps.length).map fun b => (false, b)
    else (true, kind.code) :: params.map fun b => (false, b)
  | .idle | .discarding => (true, kind.code) :: params.map fun b => (false, b)

/-- A record completes on the port: the camera sends the bytes of it that are missing (R29). -/
def sendRecord (n : CameraId) (kind : RecordKind) (params : List Byte) (s : State) : State :=
  forEach (missingBytes s.cameras[n].receiver kind params) (fun b t => takeByte n b.1 b.2 t) s

end Sys2Proof.Machine
end

