-- ==== Sys2Proof/Machine/Gates.lean ====
section
/-! DEFINITION. Gates.lean: the Gate Controller (chapter 3) and the discharge of a slot (R18, R19), which expires confirm
entries. -/

namespace Sys2Proof.Machine

/-! ## Rejects that are not confirmed (R55) -/

/-- Why a reject left without confirmation (R55). -/
inductive UnconfirmedReason where
  | window | discharged | notFired | reconfigured
  deriving DecidableEq, Repr

/-- The reason as the event's second detail word. -/
def UnconfirmedReason.code : UnconfirmedReason → Nat
  | .window => 0 | .discharged => 1 | .notFired => 2 | .reconfigured => 3

/-- Reasons 0 and 1 count toward the gate's fault (R55). -/
def UnconfirmedReason.counts : UnconfirmedReason → Bool
  | .window | .discharged => true
  | .notFired | .reconfigured => false

/-- One more consecutive unconfirmed reject: the count reaching 2 with the latch clear sets the latch, raises GATE_FAULT
and adds the GATE_FAULT cause (R55). -/
def countUnconfirmed (g : GateId) (t : Half) (s : State) : State :=
  let n := countUpTo 255 s.gates[g].unconfirmed
  let counted := s.mapGate g fun gt => { gt with unconfirmed := n }
  if 2 ≤ n ∧ !s.gates[g].latch then
    addGateFault (raiseEvent .gateFault g.val t (detail n) (counted.mapGate g fun gt => { gt with latch := true }))
  else counted

/-- A reject of the gate leaves without confirmation (R55): the slot becomes UNCONFIRMED and REJECT_UNCONFIRMED is
raised. -/
def unconfirm (g : GateId) (why : UnconfirmedReason) (t : Half) (s : State) : State :=
  let told := raiseEvent .rejectUnconfirmed g.val t (detail why.code)
    (editSlot t (fun sl => { sl with reject := .unconfirmed }) s)
  if why.counts then countUnconfirmed g t told else told

/-- Every entry whose age has reached the gate's active confirm window expires, in the order of the list (R48, R52,
R55). -/
def expireConfirm (g : GateId) (s : State) : State :=
  let gt := s.gates[g]
  let expired := gt.confirm.filter fun e => decide (gt.cfg.window ≤ e.age)
  forEach expired (fun e t => unconfirm g .window e.ticket t)
    (s.mapGate g fun gt => { gt with confirm := gt.confirm.filter fun e => !decide (gt.cfg.window ≤ e.age) })

/-! ## The boundary at the gates (R48, R49) -/

/-- A pending fire that was not made is dropped (R48). -/
def dropPending (g : GateId) (s : State) : State :=
  match s.gates[g].pendingFire with
  | some t =>
    if s.gates[g].cfg.enabled then
      unconfirm g .notFired t (s.mapGate g fun gt => { gt with pendingFire := none })
    else s
  | none => s

/-- Every confirm entry of the gate ages by one boundary (R48). -/
def ageConfirm (g : GateId) (s : State) : State :=
  s.mapGate g fun gt => { gt with confirm := gt.confirm.map fun e => { e with age := e.age + 1 } }

/-- The slot is to be rejected by a gate with the mask: OCCUPIED, and with a masked class or already decided (R49). -/
def Slot.rejectable (sl : Slot) (mask : ClassSet) : Bool :=
  sl.occupancy == .occupied && (sl.defects &&& mask != 0 || sl.decision.isSome)

/-- An enabled gate judges the slot that has arrived at its position (R49). -/
def judgeSlot (g : GateId) (s : State) : State :=
  let cfg := s.gates[g].cfg
  let sl := s.slotAt cfg.position
  if cfg.enabled ∧ cfg.position < s.track.length ∧ sl.rejectable cfg.mask then
    (editSlotAt cfg.position (fun sl => { sl with decision := some g }) s).mapGate g fun gt =>
      { gt with pendingFire := some sl.ticket }
  else s

/-- What the pitch boundary does at the gates, in three stages: drop, expire, judge (R48). R55 puts the expiries of gate A
before those of gate B; that gate A also drops its pending fire first is a DESIGN CHOICE, since R48 gives the drops no order
(notes/assumptions/37.md). -/
def gatesAtBoundary (s : State) : State :=
  let dropped := forEach (allUnits 2) dropPending s
  let aged := forEach (allUnits 2) ageConfirm dropped
  let expired := forEach (allUnits 2) expireConfirm aged
  forEach (allUnits 2) judgeSlot expired

/-! ## Fire and confirmation (R50, R51, R53, R54) -/

/-- The gate's phase is reached with a pending fire: the gate fires (R50, R51). -/
def fireAt (g : GateId) (s : State) : State :=
  let gt := s.gates[g]
  match gt.pendingFire with
  | some t =>
    if gt.cfg.enabled ∧ s.pitch.counter = gt.cfg.phase then
      countOn (gateCounter g)
        ((editSlot t (fun sl => { sl with reject := .fired }) s).mapGate g fun gt =>
          { gt with
            pendingFire := none
            confirm := gt.confirm ++ [{ ticket := t, age := 0 }]
            output := some gt.cfg.width })
    else s
  | none => s

/-- The tick that reaches the output's end time de-energises it (R51). -/
def pulseExpiry (g : GateId) (s : State) : State :=
  if s.gates[g].output = some 0 then s.mapGate g fun gt => { gt with output := none } else s

/-- A rising edge on the confirmation input: it confirms the oldest entry, or is unexpected (R53, R54). A disabled gate
ignores it (R46). -/
def confirmEdge (g : GateId) (s : State) : State :=
  let gt := s.gates[g]
  if gt.cfg.enabled then
    match gt.confirm with
    | e :: rest =>
      let removed := (editSlot e.ticket (fun sl => { sl with reject := .confirmed, occupancy := .removed }) s).mapGate g
        fun gt => { gt with confirm := rest, unconfirmed := 0 }
      removed.mapTallies fun t => { t with rejectedConfirmed := countUpTo maxLong t.rejectedConfirmed }
    | [] =>
      raiseEvent .unexpectedReject g.val (s.slotAt gt.cfg.position).ticket (detail s.pitch.counter) s
  else s

/-! ## Discharge (R18, R19) -/

/-- The cameras' outstanding entries of a slot that leaves the track are retired (R18, R43). -/
def retireAll (t : Half) (s : State) : State :=
  forEach (allUnits 6) (fun n u => u.mapCamera n fun c => c.retire t) s

/-- A confirm entry of a slot that leaves the track expires with reason 1 (R18, R55). -/
def expireDischarged (t : Half) (g : GateId) (s : State) : State :=
  if s.gates[g].confirm.any fun e => e.ticket == t then
    unconfirm g .discharged t
      (s.mapGate g fun gt => { gt with confirm := gt.confirm.filter fun e => e.ticket != t })
  else s

/-- Judge a slot that leaves the track by its occupancy and decision (R18, R19, R20). -/
def judgeLeaving (sl : Slot) (s : State) : State :=
  match sl.occupancy, sl.decision with
  | .occupied, some g =>
    (addEscape (raiseEvent .escape g.val sl.ticket sl.defects s)).mapTallies fun t =>
      { t with escapes := countUpTo maxLong t.escapes }
  | .occupied, none =>
    s.mapTallies fun t =>
      { t with
        accepted := countUpTo maxLong t.accepted
        passedDefects := if sl.defects = 0 then t.passedDefects else countUpTo maxLong t.passedDefects }
  | .removed, _ => s
  | .empty, _ => s

/-- The discharge of the slot at position p (R18). -/
def discharge (p : Nat) (s : State) : State :=
  let t := (s.slotAt p).ticket
  let cleared := forEach (allUnits 2) (expireDischarged t) (retireAll t s)
  judgeLeaving (cleared.slotAt p) cleared

end Sys2Proof.Machine
end

