-- ==== Sys2Proof/Machine/Track.lean ====
section
/-! DEFINITION. Track.lean: the Pitch Unit and the Container Track (chapter 1): RUN, the counted edge, the pitch boundary
with every block's share of it, and the phases of a pitch. -/

namespace Sys2Proof.Machine

/-! ## Staged settings (R7) -/

/-- The camera with its staged running settings active and nothing staged (R7). -/
def Camera.activateStaged (c : Camera) : Camera :=
  { c with
    cfg :=
      { c.cfg with
        phase := c.staged.phase.getD c.cfg.phase
        mask := c.staged.mask.getD c.cfg.mask
        required := c.staged.required.getD c.cfg.required
        deadline := c.staged.deadline.getD c.cfg.deadline }
    staged := CameraStaged.absent }

/-- The gate with its staged running settings active and nothing staged (R7). -/
def Gate.activateStaged (g : Gate) : Gate :=
  { g with
    cfg :=
      { g.cfg with
        phase := g.staged.phase.getD g.cfg.phase
        width := g.staged.width.getD g.cfg.width
        mask := g.staged.mask.getD g.cfg.mask
        window := g.staged.window.getD g.cfg.window }
    staged := GateStaged.absent }

/-- Every staged value of every unit becomes active and is removed from staging (R7, R8). -/
def activateStaged (s : State) : State :=
  forEach (allUnits 2) (fun g t => t.mapGate g Gate.activateStaged)
    (forEach (allUnits 6) (fun n t => t.mapCamera n Camera.activateStaged) s)

/-! ## The advance (R13) -/

/-- Stages 2 to 4 of the advance: the head moves on, and the new slot is made from the infeed flag, which is then cleared
(R13, R16). -/
def createSlot (s : State) : State :=
  let t := s.track
  let head := t.head + 1
  let occupied := s.pitch.infeed
  let slot := { Slot.fresh t.nextTicket with occupancy := if occupied then .occupied else .empty }
  let tallies :=
    { t.tallies with
      created := countUpTo maxLong t.tallies.created
      createdOccupied :=
        if occupied then countUpTo maxLong t.tallies.createdOccupied else t.tallies.createdOccupied }
  { s with
    track := { t with ring := t.ring.set head slot, head := head, nextTicket := t.nextTicket + 1, tallies := tallies }
    pitch := { s.pitch with infeed := false } }

/-- The track advances: the slot at L−1 is discharged first (R13). -/
def advance (s : State) : State := createSlot (discharge (s.track.length - 1) s)

/-! ## The boundary (R1, R13) -/

/-- What the boundary does at the filler (4.4): the exit limits, the approach limits, arming, and the slot that has arrived
at fill entry. A robot whose job has ended may end a drain (R133), and a robot armed may be released (R88). -/
def fillerAtBoundary (s : State) : State :=
  let left := judgeGrants (forEach (allUnits 8) exitLimit s)
  let late := judgeGrants (forEach (allUnits 8) approachLimit left)
  assignEntry (judgeReleases (forEach (allUnits 8) armRobot late))

/-- The pitch boundary: the staged settings become active, the track advances, and the cameras, the gates and the filler
act on the arrivals (R1, R7, R13). -/
def boundary (s : State) : State :=
  fillerAtBoundary (gatesAtBoundary (camerasAtBoundary (advance (activateStaged s))))

/-! ## Phases (R2, R14) -/

/-- A counted edge that reaches a phase inside the infeed window sets the infeed flag if INF is active (R14). -/
def sampleInfeed (infActive : Bool) (s : State) : State :=
  let p := s.pitch
  if infActive ∧ p.windowStart ≤ p.counter ∧ p.counter ≤ p.windowEnd then
    { s with pitch := { p with infeed := true } }
  else s

/-- What reaches its phase at the counter's present value (R2): the infeed window, the gates and the cameras. -/
def reachPhase (infActive : Bool) (s : State) : State :=
  forEach (allUnits 6) triggerAt (forEach (allUnits 2) fireAt (sampleInfeed infActive s))

/-- Set the pitch counter. -/
def setPitchCounter (n : Nat) (s : State) : State := { s with pitch := { s.pitch with counter := n } }

/-- A counted edge (R1): the counter rises, or passes from P−1 to 0 with a boundary; then the phase it has been brought to
is reached. With RUN low there is no counted edge. -/
def countedEdge (infActive : Bool) (s : State) : State :=
  if s.pins.run then
    let next := s.pitch.counter + 1
    reachPhase infActive
      (if next < s.pitch.length then setPitchCounter next s else boundary (setPitchCounter 0 s))
  else s

/-! ## RUN and stray edges (R3, R4) -/

/-- An edge taken with RUN low: the first of a stopped period raises STRAY_MOTION (R3). -/
def strayEdge (s : State) : State :=
  if s.pins.run ∨ s.pitch.stray then s
  else
    raiseEvent .strayMotion 0 (detail s.pitch.counter) 0 { s with pitch := { s.pitch with stray := true } }

/-- RUN rises: the run window opens and the stray flag is cleared (R3, R4). -/
def runRise (s : State) : State :=
  if s.pins.run then s
  else { s with pins := { s.pins with run := true }, pitch := { s.pitch with stray := false } }

/-- RUN falls: the run window closes, and everything else keeps its value (R4). -/
def runFall (s : State) : State := { s with pins := { s.pins with run := false } }

end Sys2Proof.Machine
end

