-- ==== Sys2Proof/Machine/Time.lean ====
section
/-! DEFINITION. Time.lean: the time base (8.1) and the 1 ms tick, which drives every millisecond timer of the part. A tick
first advances every running timer and then acts on those that have reached their limits, in one fixed order
(notes/assumptions/5.md); a command that names one expiry takes that timer's share of the coming tick alone
(notes/assumptions/6.md). -/

namespace Sys2Proof.Machine

/-! ## How one tick advances a timer (R151) -/

/-- The silence timer rises in READY and NOT_READY while RUN is high (R34). -/
def Camera.tick (run : Bool) (c : Camera) : Camera :=
  if run && (c.state == .ready || c.state == .notReady) then { c with silence := c.silence + 1 } else c

/-- One tick less to the end of an energised output (R51). -/
def Gate.tick (g : Gate) : Gate := { g with output := g.output.map fun left => left - 1 }

/-- The no-flow timer rises in FILLING and the settle timer in SETTLING (R77, R80). -/
def Job.tick (j : Job) : Job :=
  match j.state with
  | .approach => j
  | .filling => { j with noFlowTimer := j.noFlowTimer + 1 }
  | .settling => { j with settleTimer := j.settleTimer + 1 }

/-- The timer of the robot's job (R77, R80). -/
def Robot.tickJob (rb : Robot) : Robot := { rb with job := rb.job.map Job.tick }

/-- The poll timer rises for a robot that is not OFF (R86). -/
def Robot.tickPoll (rb : Robot) : Robot := if rb.mode = .off then rb else { rb with pollTimer := rb.pollTimer + 1 }

/-- A running valve check rises (R79). -/
def Dose.tick (d : Dose) : Dose := { d with check := d.check.map fun t => t + 1 }

/-- A running supervision timer rises (R114). -/
def Group.tick (g : Group) : Group := { g with timer := g.timer.map fun t => t + 1 }

/-- A running alike timer rises (R109). -/
def MainSwitch.tick (m : MainSwitch) : MainSwitch := { m with alike := m.alike.map fun t => t + 1 }

/-- The drain timer rises in DRAINING (R133, R134). -/
def Grant.tick (g : Grant) : Grant := if g.state = .draining then { g with drainTimer := g.drainTimer + 1 } else g

/-- One more millisecond of valve-open time (R97, R158). -/
def Counter.tick (c : Counter) : Counter := { c with remainder := c.remainder + 1 }

/-- A running gap timer rises (R177). -/
def Link.tick (l : Link) : Link := { l with gap := l.gap.map fun t => t + 1 }

/-- A share of this tick has been taken before it. -/
def State.takenAhead (s : State) (share : TickShare) : Bool := s.time.ahead.contains share

/-- The robot whose valve-open time a counter holds. -/
def valveRobot (i : CounterId) : Option RobotId :=
  if h : 8 ≤ i.val ∧ i.val < 16 then some ⟨i.val - 8, by omega⟩ else none

/-- What the tick adds to a counter record: a millisecond while the robot's valve is energised (R158). -/
def tickCounter (s : State) (i : CounterId) : Counter :=
  match valveRobot i with
  | some r =>
    if s.doses[r].valve && !s.takenAhead (.valveTime r) then s.counters[i].tick else s.counters[i]
  | none => s.counters[i]

/-- What the tick adds to a robot's timers. -/
def tickRobot (s : State) (r : RobotId) : Robot :=
  if s.takenAhead (.poll r) then s.robots[r].tickJob else s.robots[r].tickJob.tickPoll

/-- Every running timer rises by one (R151). -/
def advanceTimers (s : State) : State :=
  { s with
    cameras := Vector.ofFn fun n : CameraId => s.cameras[n].tick s.pins.run
    gates := Vector.ofFn fun g : GateId => s.gates[g].tick
    robots := Vector.ofFn (tickRobot s)
    doses := Vector.ofFn fun r : RobotId => s.doses[r].tick
    mainSwitch := s.mainSwitch.tick
    groups := Vector.ofFn fun g : GroupId => s.groups[g].tick
    access := { s.access with grants := Vector.ofFn fun i : PlaceId => s.access.grants[i].map Grant.tick }
    time := { s.time with ms := s.time.ms + 1, ahead := [] }
    counters := Vector.ofFn (tickCounter s)
    link := s.link.tick }

/-! ## The seconds rollover (R151 to R155) -/

/-- The seconds of the new second: a staged time, or one more (R152, R154). -/
def TimeBase.rollover (t : TimeBase) : TimeBase :=
  { t with
    ms := 0
    seconds := t.staged.getD (t.seconds + 1)
    valid := t.valid || t.staged.isSome
    staged := none
    uptime := t.uptime + 1 }

/-- The machine seconds and the uptime advance, and the taking effect of a staged time raises TIME_SET with the old
seconds (R155). -/
def rolloverTime (s : State) : State :=
  let rolled := { s with time := s.time.rollover }
  if s.time.staged.isSome then
    raiseEvent .timeSet 0 (lowerHalf s.time.seconds.toNat) (upperHalf s.time.seconds.toNat) rolled
  else rolled

/-- The rollover: the time, and then every grant whose expiry the uptime has reached (R138, R153). -/
def rollover (s : State) : State :=
  forEach (allUnits 8) (fun i t => settle (expireGrant i t.time.uptime t)) (rolloverTime s)

/-! ## Timers that have reached their limits -/

/-- The gap timer has reached 4: the frame is abandoned (R177). -/
def gapExpiry (s : State) : State :=
  match s.link.gap with
  | some t =>
    if 4 ≤ t then
      { s with link :=
          { s.link with receiver := .hunt, gap := none, gapErrors := countUpTo maxHalf s.link.gapErrors } }
    else s
  | none => s

/-- The expiries of one group's supervision timer (R117, R118, R120, R121). At most one applies. -/
def groupExpiries (g : GroupId) (s : State) : State :=
  weldExpiry g (dropoutExpiry g (fallOutExpiry g (pullinExpiry g s)))

/-- The expiries of one robot's valve check, no-flow timer and settle timer (R77, R79, R80). -/
def robotExpiries (r : RobotId) (s : State) : State :=
  settle (settleExpiry r (settle (noFlowExpiry r (settle (stuckValve r (settle (checkExpiry r s)))))))

/-- Act on every timer that has reached its limit, in the order switch, groups, grants, cameras, gates, robots, valve-open
seconds, polls, link. Fill cycles are counted before valve-open seconds, in increasing counter index (R162). -/
def expireTimers (s : State) : State :=
  let switched := settle (discrepancyExpiry s)
  let supervised := forEach (allUnits 4) (fun g t => settle (groupExpiries g t)) switched
  let drained := forEach (allUnits 8) (fun i t => settle (drainExpiry i t)) supervised
  let heard := forEach (allUnits 6) silenceExpiry drained
  let fired := forEach (allUnits 2) pulseExpiry heard
  let filled := forEach (allUnits 8) robotExpiries fired
  let timed := forEach (allUnits 8) (fun r t => settle (valveSecond r t)) filled
  gapExpiry (forEach (allUnits 8) pollExpiry timed)

/-- The 1 ms tick (R151): the timers rise, the second rolls over after 999, and the timers at their limits act. That the
events of the expiries are stamped after the rise of the millisecond count is a DESIGN CHOICE, which R168 leaves open
(notes/assumptions/43.md). -/
def tick (s : State) : State :=
  let advanced := advanceTimers s
  expireTimers (if 1000 ≤ advanced.time.ms then rollover advanced else advanced)

/-- SECONDS_ROLLOVER: the tick, where it finds the millisecond count at 999 (R151). -/
def secondsRollover (s : State) : State := if s.time.ms = 999 then tick s else s

/-! ## One timer's share of the coming tick -/

/-- Take one timer's share of the coming tick: advance that timer, and act if it is then due; a timer that is not due is
left for the tick. That its events are stamped before the rise of the millisecond count is a DESIGN CHOICE, which R168
leaves open (notes/assumptions/43.md). -/
def shareOfTick (due : State → Bool) (advanceOne act : State → State) (s : State) : State :=
  let advanced := advanceOne s
  if due advanced then settle (act advanced) else s

/-- Note a share of the coming tick as taken. -/
def noteShare (share : TickShare) (s : State) : State :=
  { s with time := { s.time with ahead := s.time.ahead ++ [share] } }

/-- The valve-open share of the coming tick of one robot: a millisecond, and the second it completes (R97, R158). A share
that has been taken is not taken again. -/
def takeValveTime (r : RobotId) (s : State) : State :=
  if s.takenAhead (.valveTime r) then s
  else
    valveSecond r
      (noteShare (.valveTime r) { s with counters := updateAt s.counters (valveCounter r) Counter.tick })

/-- A valve that an expiry has de-energised stood open until this tick, so the tick's millisecond is counted for it
(R97), in increasing counter index (R162). That its COUNTER_STATE comes after the grants and the robots have been judged is
a DESIGN CHOICE, since R169 leaves that order open (notes/assumptions/50.md). -/
def countClosed (before after : State) : State :=
  forEach (allUnits 8)
    (fun r t => if before.doses[r].valve && !after.doses[r].valve then settle (takeValveTime r t) else t) after

/-- CAMERA_LOST (R34): the tick that brings the silence timer to 2,000 ms. -/
def shareSilence (n : CameraId) (s : State) : State :=
  shareOfTick
    (fun t => t.pins.run && (t.cameras[n].state == .ready || t.cameras[n].state == .notReady)
      && decide (2000 ≤ t.cameras[n].silence))
    (fun t => t.mapCamera n (Camera.tick t.pins.run)) (silenceExpiry n) s

/-- GATE_PULSE_END (R51): the tick that reaches the output's end time. No share is noted for a gate output, so a
fire taken between this row and the MS_TICK of the same tick starts a pulse that this MS_TICK already shortens by a
millisecond: a DESIGN CHOICE, since R51 does not place a fire within a tick (notes/assumptions/6.md). -/
def sharePulse (g : GateId) (s : State) : State :=
  shareOfTick (fun t => t.gates[g].output == some 0) (fun t => t.mapGate g Gate.tick) (pulseExpiry g) s

/-- The robot's job is in a state with its timer at a limit. -/
def jobDue (s : State) (r : RobotId) (st : JobState) (timer limit : Job → Nat) : Bool :=
  match s.robots[r].job with
  | some j => j.state == st && decide (limit j ≤ timer j)
  | none => false

/-- SETTLE_END (R77): the tick that brings the settle timer to the settle time. -/
def shareSettle (r : RobotId) (s : State) : State :=
  shareOfTick (fun t => jobDue t r .settling Job.settleTimer fun j => j.recipe.settle)
    (fun t => t.mapRobot r Robot.tickJob) (settleExpiry r) s

/-- NO_FLOW (R80): the tick that brings the no-flow timer to 200 ms. -/
def shareNoFlow (r : RobotId) (s : State) : State :=
  countClosed s
    (shareOfTick (fun t => jobDue t r .filling Job.noFlowTimer fun _ => 200)
      (fun t => t.mapRobot r Robot.tickJob) (noFlowExpiry r) s)

/-- VALVE_CHECK_EXPIRY (R79): the tick that brings a running check to 50 ms. -/
def shareCheck (r : RobotId) (s : State) : State :=
  countClosed s
    (shareOfTick
      (fun t => match t.doses[r].check with
        | some ms => decide (50 ≤ ms)
        | none => false)
      (fun t => t.mapDose r Dose.tick) (checkExpiry r) s)

/-- VALVE_TIME_SECOND (R158): the tick that brings the remainder of an energised valve to 1,000 ms. -/
def shareValveTime (r : RobotId) (s : State) : State :=
  if s.doses[r].valve && !s.takenAhead (.valveTime r) then
    shareOfTick (fun t => decide (1000 ≤ t.counters[valveCounter r].remainder))
      (fun t => noteShare (.valveTime r)
        { t with counters := updateAt t.counters (valveCounter r) Counter.tick }) (valveSecond r) s
  else s

/-- POLL_TIMER (R86): the tick that brings the poll timer to 5 ms. -/
def sharePoll (r : RobotId) (s : State) : State :=
  if s.takenAhead (.poll r) then s
  else
    shareOfTick (fun t => t.robots[r].mode != .off && decide (5 ≤ t.robots[r].pollTimer))
      (fun t => noteShare (.poll r) (t.mapRobot r Robot.tickPoll)) (pollExpiry r) s

/-- SWITCH_DISCREPANCY (R109): the tick that brings the alike timer to 31 ms. -/
def shareAlike (s : State) : State :=
  countClosed s
    (shareOfTick
      (fun t => match t.mainSwitch.alike with
        | some ms => decide (31 ≤ ms)
        | none => false)
      (fun t => { t with mainSwitch := t.mainSwitch.tick }) discrepancyExpiry s)

/-- The tick that brings a group's supervision timer to a limit in a state. -/
def shareGroup (g : GroupId) (due : State → Bool) (act : State → State) (s : State) : State :=
  shareOfTick due (fun t => t.mapGroup g Group.tick) act s

/-- PULLIN_TIMEOUT (R117). -/
def sharePullin (g : GroupId) (s : State) : State :=
  shareGroup g (fun t => supervised t g .closing 150) (pullinExpiry g) s

/-- FALL_OUT (R118). -/
def shareFallOut (g : GroupId) (s : State) : State :=
  countClosed s
    (shareGroup g (fun t => supervised t g .closed 31) (fallOutExpiry g) s)

/-- DROPOUT_TIMEOUT (R120). -/
def shareDropout (g : GroupId) (s : State) : State :=
  shareGroup g (fun t => supervised t g .opening 100) (dropoutExpiry g) s

/-- WELD_DETECTED (R121). -/
def shareWeld (g : GroupId) (s : State) : State :=
  shareGroup g (fun t => supervised t g .isOpen 100 || supervised t g .faultPullin 100) (weldExpiry g) s

/-- DRAIN_LIMIT (R134): the tick that brings the drain timer to 10,000 ms. -/
def shareDrain (i : PlaceId) (s : State) : State :=
  countClosed s
    (shareOfTick
      (fun t => match t.access.grants[i] with
        | some g => g.state == .draining && decide (10000 ≤ g.drainTimer) && !drained t g
        | none => false)
      (fun t => t.putGrant i (t.access.grants[i].map Grant.tick)) (drainExpiry i) s)

/-- GRANT_EXPIRY (R138): the rollover that brings the uptime to the grant's expiry, as that grant takes it. That its events
are stamped before the rollover is a DESIGN CHOICE, which R168 leaves open (notes/assumptions/43.md). -/
def shareExpiry (i : PlaceId) (s : State) : State :=
  settle (expireGrant i (if s.time.ms = 999 then s.time.uptime + 1 else s.time.uptime) s)

/-- GAP_TIMEOUT (R177): the tick that brings the gap timer to 4. -/
def shareGap (s : State) : State :=
  shareOfTick
    (fun t => match t.link.gap with
      | some ms => decide (4 ≤ ms)
      | none => false)
    (fun t => { t with link := t.link.tick }) gapExpiry s

end Sys2Proof.Machine
end

