-- ==== Sys2Proof/Machine/AccessCommands.lean ====
section
/-! DEFINITION. AccessCommands.lean: the commands of the doors and of the passing of grants, one meaning for each. -/

namespace Sys2Proof.Machine

/-- DOOR_CHANGE (R127). -/
def execDoorChange (door : DoorId) (isOpen : Bool) (s : State) : Result :=
  .next (settle (doorChange door isOpen s))

/-- DRAIN_END (R133). -/
def execDrainEnd (place : PlaceId) (s : State) : Result :=
  .next (settle (judgeDrain place s))

/-- DRAIN_LIMIT (R134). -/
def execDrainLimit (place : PlaceId) (s : State) : Result :=
  .next (shareDrain place s)

/-- ISOLATION_COMPLETE (R135). -/
def execIsolationComplete (place : PlaceId) (s : State) : Result :=
  .next (settle (judgeIsolation place s))

/-- GRANT_EXPIRY (R138). -/
def execGrantExpiry (place : PlaceId) (s : State) : Result :=
  .next (shareExpiry place s)

end Sys2Proof.Machine
end

