-- ==== Sys2Proof/Machine/CameraCommands.lean ====
section
/-! DEFINITION. CameraCommands.lean: the commands of the camera ports, one meaning for each. -/

namespace Sys2Proof.Machine

/-- TRIGGER_PULSE_END (R37): the 50 µs of TRGn have passed. -/
def execTriggerPulseEnd (camera : CameraId) (s : State) : Result :=
  .next (s.mapCamera camera fun c => { c with pulse := false })

/-- VERDICT (R40): a VERDICT record completes on the port; the class bytes come high byte first (11.4). -/
def execVerdict (camera : CameraId) (trigger : Byte) (classes : ClassSet) (s : State) : Result :=
  .next (sendRecord camera .verdict [trigger, BitVec.ofNat 8 (classes.toNat / 256), BitVec.ofNat 8 classes.toNat] s)

/-- STATUS_READY (R32): a STATUS record with the value READY completes on the port. -/
def execStatusReady (camera : CameraId) (s : State) : Result :=
  .next (sendRecord camera .status [1] s)

/-- STATUS_NOT_READY (R33): a STATUS record with the value NOT_READY completes on the port. -/
def execStatusNotReady (camera : CameraId) (s : State) : Result :=
  .next (sendRecord camera .status [2] s)

/-- STATUS_UNKNOWN_VALUE (R31): a STATUS record with any other value completes on the port. -/
def execStatusUnknownValue (camera : CameraId) (value : Byte) (s : State) : Result :=
  .next (if value = 1 ∨ value = 2 then s else sendRecord camera .status [value] s)

/-- CAMERA_KIND_BYTE (R29). -/
def execCameraKindByte (camera : CameraId) (value : Byte) (s : State) : Result :=
  .next (takeByte camera true value s)

/-- STRAY_PARAMETER (R30): a parameter byte completes while the receiver is IDLE. -/
def execStrayParameter (camera : CameraId) (value : Byte) (s : State) : Result :=
  .next (if s.cameras[camera].receiver = .idle then takeByte camera false value s else s)

/-- CAMERA_LOST (R34). -/
def execCameraLost (camera : CameraId) (s : State) : Result :=
  .next (shareSilence camera s)

/-- CAMERA_CLOCK_EDGE (R27). -/
def execCameraClockEdge (camera : CameraId) (data kindHigh : Bool) (s : State) : Result :=
  .next (clockBit camera data kindHigh s)

/-- CAMERA_SELECT_RISE (R28). -/
def execCameraSelectRise (camera : CameraId) (s : State) : Result :=
  .next (selectRise camera s)

/-- CAMERA_PARAMETER_BYTE (R29, R30). -/
def execCameraParameterByte (camera : CameraId) (value : Byte) (s : State) : Result :=
  .next (takeByte camera false value s)

end Sys2Proof.Machine
end

