-- ==== Sys2Proof/Machine/GateCommands.lean ====
section
/-! DEFINITION. GateCommands.lean: the commands of the reject gates, one meaning for each. -/

namespace Sys2Proof.Machine

/-- GATE_PULSE_END (R51). -/
def execGatePulseEnd (gate : GateId) (s : State) : Result :=
  .next (sharePulse gate s)

/-- GATE_CONFIRM (R53, R54). -/
def execGateConfirm (gate : GateId) (s : State) : Result :=
  .next (confirmEdge gate s)

end Sys2Proof.Machine
end

