-- ==== Sys2Proof/Machine/Records.lean ====
section
/-! DEFINITION. Records.lean: the records a reply carries (11.2): status, slot, robot, power, grant, counter and event, and
the identity of the part (R183). A value that is absent is sent as 0 (chapter 11). -/

namespace Sys2Proof.Machine

/-- An absent value is sent as 0. -/
def orZero (n : Option Nat) : Nat := n.getD 0

/-- The bytes of every unit, in increasing number. -/
def perUnit (n : Nat) (f : Fin n → List Byte) : List Byte := (allUnits n).flatMap f

/-! ## Track side (R21, R184) -/

/-- One verdict entry. -/
def VerdictEntry.bytes (e : VerdictEntry) : List Byte :=
  byte1 e.camera.val ++ byte1 e.verdict.code ++ byte2 e.verdict.classes.toNat

/-- The slot record of the slot at position p of a track of length l. -/
def slotRecord (p l : Nat) (sl : Slot) : List Byte :=
  byte1 p ++ byte1 l ++ byte2 sl.ticket.toNat ++ byte1 sl.occupancy.code ++ byte1 sl.fill.code
    ++ byte1 (setNumber [sl.robot.isSome, sl.volume.isSome, sl.decision.isSome])
    ++ byte1 (orZero (sl.robot.map Fin.val)) ++ byte2 (orZero (sl.volume.map FillVolume.tenths))
    ++ byte1 (orZero (sl.volume.map fun v => v.cut.toNat)) ++ byte2 sl.defects.toNat
    ++ byte1 sl.decision.isSome.toNat ++ byte1 (orZero (sl.decision.map Fin.val)) ++ byte1 sl.reject.code
    ++ byte1 sl.verdicts.length ++ sl.verdicts.flatMap VerdictEntry.bytes

/-- The tallies in the order of R20. -/
def Tallies.bytes (t : Tallies) : List Byte :=
  byte4 t.created ++ byte4 t.createdOccupied ++ byte4 t.accepted ++ byte4 t.passedDefects ++ byte4 t.rejectedConfirmed
    ++ byte4 t.escapes ++ byte4 t.fillsSkipped

/-- The stop-cause set, ESCAPE in bit 0 (chapter 11). -/
def StopCauses.byte (c : StopCauses) : List Byte := byte1 (setNumber c.flags)

/-! ## Robots (R89, R105) -/

/-- The robot summary of the STATUS reply (R89). -/
def robotSummary (s : State) (r : RobotId) : List Byte :=
  let rb := s.robots[r]
  byte1 (rb.mode.code rb.jog) ++ byte1 (setNumber [rb.jog, available s r, rb.job.isSome])
    ++ byte1 (orZero (rb.job.map fun j => j.state.code))

/-- The timer of a job that runs: settle in SETTLING, no-flow in FILLING (R89). -/
def Job.runningTimer (j : Job) : Nat :=
  match j.state with
  | .approach => 0
  | .filling => j.noFlowTimer
  | .settling => j.settleTimer

/-- The job part of the robot record; its flow count is the Dose Unit's flow counter from the opening of its window on
(R89, R96). -/
def jobBytes (j : Option Job) (flow : Nat) : List Byte :=
  match j with
  | none => byte1 0 ++ byte2 0 ++ byte1 0 ++ byte1 0 ++ byte4 0 ++ byte4 0 ++ byte2 0
  | some j =>
    byte1 1 ++ byte2 j.ticket.toNat ++ byte1 j.state.code ++ flagByte j.opened
      ++ byte4 (if j.opened then flow else 0) ++ byte4 j.closing.count ++ byte2 j.runningTimer

/-- A recipe as it is sent (11.1): 19 bytes. -/
def Recipe.bytes (r : Recipe) : List Byte :=
  byte2 r.target ++ byte4 r.kFactor ++ byte2 r.underTol ++ byte2 r.overTol ++ byte2 r.minOpen ++ byte2 r.afterflowMax
    ++ byte1 r.shift ++ byte2 r.settle ++ byte2 r.initial

/-- A recipe that may be absent. -/
def recipeBytes (r : Option Recipe) : List Byte := (r.getD Recipe.blank).bytes

/-- N and the close count a job would use if it entered FILLING now, 0 without an active recipe (R105). -/
def prospective (d : Dose) : CloseCalc :=
  match d.active with
  | some r => closeCalc r d.estimate
  | none => { targetPulses := 0, rounded := 0, count := 0 }

/-- The last-fill record (R104), all 0 where it is absent. -/
def lastFillBytes (f : Option LastFill) : List Byte :=
  match f with
  | none =>
    byte2 0 ++ byte1 0 ++ byte4 0 ++ byte2 0 ++ byte4 0 ++ byte4 0 ++ byte4 0 ++ byte1 0 ++ byte4 0 ++ byte1 0
      ++ byte2 0
  | some f =>
    byte2 f.ticket.toNat ++ byte1 f.ending.code ++ byte4 f.close.targetPulses ++ byte2 f.close.rounded
      ++ byte4 f.close.count ++ byte4 f.flow ++ byte4 f.volume ++ byte1 (orZero (f.fillClass.map FillClass.code))
      ++ byte4 (orZero f.afterflow) ++ byte1 f.learning.code ++ byte2 f.estimateAfter

/-- The Dose Unit's part of the robot record (R105). -/
def doseBytes (d : Dose) : List Byte :=
  byte1 (setNumber [d.active.isSome, d.staged.isSome, d.lastFill.isSome]) ++ recipeBytes d.active
    ++ recipeBytes d.staged ++ byte2 d.estimate ++ byte2 (prospective d).rounded ++ byte4 (prospective d).targetPulses
    ++ byte4 (prospective d).count ++ byte4 d.flow ++ flagByte d.window ++ lastFillBytes d.lastFill

/-- The robot record (R89). The number of entries queued and waiting has one byte and no limit (R85); that more than 255 are
sent modulo 256 is a DESIGN CHOICE (notes/assumptions/48.md). -/
def robotRecord (s : State) (r : RobotId) : List Byte :=
  let rb := s.robots[r]
  let d := s.doses[r]
  byte1 rb.zone.val ++ byte1 rb.address ++ byte1 (rb.mode.code rb.jog)
    ++ byte1 (setNumber [rb.jog, rb.resume, rb.armed, rb.held])
    ++ byte1 (orZero (rb.lastStatus.map RobotStatus.code)) ++ byte1 (orZero (rb.lastStatus.map RobotStatus.faultCode))
    ++ byte1 (orZero (rb.reason.map FaultReason.code)) ++ byte1 rb.failures
    ++ byte1 s.bus.queues[r].entries.length ++ byte2 d.drip ++ jobBytes rb.job d.flow ++ doseBytes d

/-! ## Cabinet (R126) -/

/-- One group of the power record. The rules stop a timer and do not say that its value is cleared; that a stopped supervision
timer is sent as 0, as an absent field is, is a DESIGN CHOICE (notes/assumptions/40.md). -/
def groupPower (s : State) (g : GroupId) : List Byte :=
  byte1 s.groups[g].state.code ++ flagByte (coil s g) ++ flagByte s.pins.mirror[g] ++ byte1 (orZero s.groups[g].timer)
    ++ flagByte (locked s g) ++ byte1 (lockout s g) ++ flagByte s.access.zoneLatch[g]
    ++ byte1 s.counters[contactorCounter g].state.code

/-- The power record (R126). That a stopped alike timer is sent as 0 is a DESIGN CHOICE (notes/assumptions/40.md). -/
def powerRecord (s : State) : List Byte :=
  byte1 s.mainSwitch.state.code ++ byte1 s.pair.code ++ byte1 (orZero s.mainSwitch.alike)
    ++ flagByte s.mainSwitch.latch ++ perUnit 4 (groupPower s)

/-! ## Grants (R150) -/

/-- The remaining time: the expiry less the uptime, 0 in OVERDUE, AWAITING_CLOSE and ISOLATION_FAILED (R150). -/
def Grant.remaining (g : Grant) (uptime : Long) : Nat :=
  match g.state with
  | .draining | .isolating | .isOpen => (g.expiry - uptime).toNat
  | .overdue | .awaitingClose | .isolationFailed => 0

/-- The grant part of the grant record, all 0 for an empty place. -/
def grantBytes (s : State) (g : Option Grant) : List Byte :=
  match g with
  | none =>
    byte1 0 ++ byte2 0 ++ byte1 0 ++ byte1 0 ++ byte4 0 ++ byte2 0 ++ byte4 0 ++ byte4 0 ++ byte2 0 ++ byte1 0
      ++ byte1 0 ++ byte4 0
  | some g =>
    byte1 1 ++ byte2 g.number.toNat ++ byte1 g.kind.code ++ byte1 g.zones.toNat ++ byte4 g.badge.toNat
      ++ byte2 g.duration ++ byte4 g.drainStart.toNat ++ byte4 g.expiry.toNat ++ byte2 g.drainTimer
      ++ byte1 g.state.code ++ flagByte g.doorOpened ++ byte4 (g.remaining s.time.uptime)

/-- The access summary (R150). A latch set holds the cabinet in bit 4, and 11.2 lays the cabinet latch down as a byte of its
own beside the zone latch set; that bit 4 of the zone latch set is then sent as 0 is a DESIGN CHOICE
(notes/assumptions/45.md). -/
def accessSummary (s : State) : List Byte :=
  byte1 (setNumber s.pins.doors.toList) ++ byte1 (setNumber ((allUnits 5).map (release s)))
    ++ perUnit 4 (fun z => byte1 (lockout s z)) ++ byte1 (setNumber s.access.zoneLatch.toList)
    ++ flagByte s.access.cabinetLatch ++ byte1 (liveGrants s) ++ byte2 s.access.nextNumber.toNat

/-- The grant record of a place (R150). -/
def grantRecord (s : State) (i : PlaceId) : List Byte :=
  byte1 i.val ++ grantBytes s s.access.grants[i] ++ accessSummary s

/-! ## Counters (R167) -/

/-- The number of the grant in a place. -/
def grantNumberAt (s : State) (i : PlaceId) : Nat :=
  match s.access.grants[i] with
  | some g => g.number.toNat
  | none => 0

/-- The counter record (R167). -/
def counterRecord (s : State) (i : CounterId) : List Byte :=
  let c := s.counters[i]
  byte1 i.val ++ byte4 c.total ++ byte2 c.remainder ++ byte4 c.warn ++ byte4 c.due ++ byte1 c.margin
    ++ byte4 c.threshold ++ byte1 (counterZone s i).val ++ byte1 c.state.code
    ++ flagByte (qualifyingPlace s i).isSome ++ byte2 (orZero ((qualifyingPlace s i).map (grantNumberAt s)))

/-! ## Events (R188) -/

/-- The stamp field: the milliseconds in bits 0 to 9 and the valid flag in bit 15 (R188). -/
def EventRecord.stamp (e : EventRecord) : Nat := e.ms % 1024 + 32768 * e.valid.toNat

/-- A delivered event record, 14 bytes (R188). -/
def EventRecord.bytes (e : EventRecord) : List Byte :=
  byte2 e.sequence.toNat ++ byte4 e.seconds.toNat ++ byte2 e.stamp ++ byte1 e.kind.code ++ byte1 e.unit
    ++ byte2 e.detail1.toNat ++ byte2 e.detail2.toNat

/-! ## Status and identity (R183, R184) -/

/-- The status record (R184). -/
def statusRecord (s : State) : List Byte :=
  flagByte s.pins.run ++ byte2 s.pitch.counter ++ s.stops.byte ++ flagByte s.time.valid
    ++ byte1 s.events.queue.length ++ byte4 s.events.lost ++ byte2 s.link.gapErrors ++ byte2 s.link.lengthErrors
    ++ byte2 s.link.checkErrors ++ byte2 s.link.overrunErrors ++ byte1 s.mainSwitch.state.code
    ++ flagByte s.mainSwitch.latch ++ perUnit 4 (fun g => byte1 s.groups[g].state.code ++ flagByte (locked s g))
    ++ perUnit 6 (fun n => s.cameras[n].summary) ++ perUnit 2 (fun g => s.gates[g].summary)
    ++ perUnit 8 (robotSummary s)

/-- The identity of the part (R183): vendor code, part number, revision, rate and capacities. -/
def identRecord (s : State) : List Byte :=
  byte2 0x0C31 ++ byte2 2240 ++ [Config.revision] ++ flagByte s.link.fast ++ byte1 6 ++ byte1 2 ++ byte1 8 ++ byte1 4
    ++ byte1 8 ++ byte1 28 ++ byte1 128 ++ byte1 64

end Sys2Proof.Machine
end

