-- ==== Sys2Proof/Machine/AccessRequests.lean ====
section
/-! DEFINITION. AccessRequests.lean: the host requests of service access: GRANT_REQUEST (R131, R132), GRANT_END (R140),
GRANT_EXTEND (R142), GRANT_READ (R150) and FAULT_CLEAR of a zone and of the cabinet (R148). -/

namespace Sys2Proof.Machine

/-! ## GRANT_REQUEST (R129, R131, R132) -/

/-- A grant kind by its code (11.3). -/
def kindField (b : Byte) : Option GrantKind :=
  if b = 0 then some .zoneEntry else if b = 1 then some .jog else if b = 2 then some .cabinet else none

/-- The zone set of a request: all four zones for CABINET, whose zone set is not looked at (R187). -/
def requestedZones (kind : GrantKind) (zones : Byte) : ZoneSet :=
  match kind with
  | .cabinet => 0xF
  | .zoneEntry | .jog => zones.setWidth 4

/-- A live grant covers one of the zones. -/
def coveredBy (s : State) (zones : ZoneSet) (which : GrantKind → Bool) : Bool :=
  (allUnits 8).any fun i => match s.access.grants[i] with
    | some g => which g.kind && g.zones &&& zones != 0
    | none => false

/-- A group of the zones is FAULT_WELD. -/
def anyWelded (s : State) (zones : ZoneSet) : Bool :=
  (allUnits 4).any fun z => zones.getLsbD z.val && s.groups[z].state == .faultWeld

/-- A JOG grant and a grant of another kind cannot cover one zone together (R131). -/
def kindConflict (s : State) (kind : GrantKind) (zones : ZoneSet) : Bool :=
  match kind with
  | .jog => coveredBy s zones fun k => k != .jog
  | .zoneEntry | .cabinet => coveredBy s zones fun k => k == .jog

/-- The first check of R131 that fails, if one does. -/
def grantRefusal (s : State) (kind : GrantKind) (zones : Byte) (duration : Nat) : Option ReplyCode :=
  let set := requestedZones kind zones
  if duration < 1 ∨ 480 < duration then some .badField
  else if kind ≠ .cabinet ∧ zones &&& 0xF0 ≠ 0 then some .badField
  else if 8 ≤ liveGrants s then some .full
  else if set = 0 then some .state
  else if anyWelded s set then some .interlock
  else if kindConflict s kind set then some .interlock
  else none

/-- A live grant carries the number. -/
def numberLive (s : State) (n : Half) : Bool :=
  (allUnits 8).any fun i => match s.access.grants[i] with
    | some g => g.number == n
    | none => false

/-- The grant number after another, from 65,535 to 1 (R129). -/
def numberAfter (n : Half) : Half := if n = 0xFFFF then 1 else n + 1

/-- The first number from n on that no live grant carries (R129). Eight grants are live at most, so nine tries find it. -/
def freeNumber (s : State) : Nat → Half → Half
  | 0, n => n
  | tries + 1, n => if numberLive s n then freeNumber s tries (numberAfter n) else n

/-- The lowest-numbered empty place (R129). -/
def freePlace (s : State) : Option PlaceId := (allUnits 8).find? fun i => s.access.grants[i].isNone

/-- The record of an accepted grant (R132). -/
def newGrant (s : State) (kind : GrantKind) (zones : ZoneSet) (badge : Long) (duration : Nat) : Grant :=
  { number := s.access.nextNumber, kind, zones, badge, duration, drainStart := s.time.uptime
    expiry := s.time.uptime + BitVec.ofNat 32 (60 * duration), drainTimer := 0, state := .draining, doorOpened := false }

/-- The grant takes its place and its number, and GRANT_STATE is raised (R129, R132). -/
def placeGrant (i : PlaceId) (g : Grant) (s : State) : State :=
  let placed := s.putGrant i (some g)
  let numbered := { placed with access :=
    { placed.access with nextNumber := freeNumber placed 9 (numberAfter g.number) } }
  raiseGrantState i g.badge GrantState.draining.code numbered

/-- The state a place shows after a request: ENDED where it holds the grant no longer (R140). -/
def stateAfter (s : State) (i : PlaceId) : Nat :=
  match s.access.grants[i] with
  | some g => g.state.code
  | none => endedCode

/-- GRANT_REQUEST (R131, R132): the drain is judged before the reply is formed. -/
def grantRequest (tag : Half) (kind zones : Byte) (badge : Long) (duration : Half) (s : State) : State :=
  match kindField kind with
  | none => refuse kindGrantRequest tag .badField s
  | some k =>
    match grantRefusal s k zones duration.toNat, freePlace s with
    | some code, _ => refuse kindGrantRequest tag code s
    | none, none => refuse kindGrantRequest tag .full s
    | none, some i =>
      let g := newGrant s k (requestedZones k zones) badge duration.toNat
      let granted := settle (placeGrant i g s)
      accept kindGrantRequest tag
        (byte1 i.val ++ byte2 g.number.toNat ++ byte1 (stateAfter granted i) ++ byte4 g.expiry.toNat) granted

/-! ## GRANT_END (R140) -/

/-- The place of the live grant with a number (R129). -/
def placeOf (s : State) (n : Half) : Option PlaceId :=
  (allUnits 8).find? fun i => match s.access.grants[i] with
    | some g => g.number == n
    | none => false

/-- What GRANT_END does to a grant, by its state (R140). -/
def endByRequest (i : PlaceId) (g : Grant) (s : State) : State :=
  match g.state with
  | .draining | .isolationFailed => endGrant i g s
  | .isolating | .isOpen | .overdue =>
    if openDoors s g = 0 then endGrant i g s else enterGrant i g .awaitingClose s
  | .awaitingClose => s

/-- GRANT_END (R140). -/
def grantEnd (tag number : Half) (s : State) : State :=
  match placeOf s number with
  | none => refuse kindGrantEnd tag .notFound s
  | some i =>
    match s.access.grants[i] with
    | none => refuse kindGrantEnd tag .notFound s
    | some g =>
      let ended := endByRequest i g s
      accept kindGrantEnd tag (byte1 (stateAfter ended i)) (settle ended)

/-! ## GRANT_EXTEND (R142) -/

/-- The expiry of an extended grant, and the seconds from the uptime to it (R142): in OVERDUE the minutes count from now,
and otherwise they are added to the remaining time, up to 28,800 seconds in all. -/
def extendedSeconds (g : Grant) (uptime : Long) (minutes : Nat) : Nat :=
  match g.state with
  | .overdue => 60 * minutes
  | _ => min ((g.expiry - uptime).toNat + 60 * minutes) 28800

/-- The grant with its new expiry and duration (R142). -/
def Grant.extended (g : Grant) (uptime : Long) (minutes : Nat) : Grant :=
  let seconds := extendedSeconds g uptime minutes
  { g with expiry := uptime + BitVec.ofNat 32 seconds, duration := (seconds + 59) / 60 }

/-- An accepted GRANT_EXTEND (R142): an OVERDUE grant returns to OPEN. -/
def extendGrant (i : PlaceId) (g : Grant) (minutes : Nat) (s : State) : State :=
  let longer := g.extended s.time.uptime minutes
  if g.state = .overdue then enterGrant i longer .isOpen s else s.putGrant i (some longer)

/-- GRANT_EXTEND (R142). -/
def grantExtend (tag number minutes : Half) (s : State) : State :=
  let m := minutes.toNat
  if m < 1 ∨ 480 < m then refuse kindGrantExtend tag .badField s
  else match placeOf s number with
    | none => refuse kindGrantExtend tag .notFound s
    | some i =>
      match s.access.grants[i] with
      | none => refuse kindGrantExtend tag .notFound s
      | some g =>
        if g.state = .awaitingClose ∨ g.state = .isolationFailed then refuse kindGrantExtend tag .state s
        else
          let done := extendGrant i g m s
          accept kindGrantExtend tag
            (byte1 (stateAfter done i) ++ byte4 (g.extended s.time.uptime m).expiry.toNat) (settle done)

/-! ## GRANT_READ (R150) and FAULT_CLEAR (R148) -/

/-- GRANT_READ (R150). -/
def grantRead (tag : Half) (place : Byte) (s : State) : State :=
  match unitField 8 place with
  | some i => accept kindGrantRead tag (grantRecord s i) s
  | none => refuse kindGrantRead tag .badField s

/-- FAULT_CLEAR naming a zone (R148). -/
def clearZoneLatch (tag : Half) (number : Byte) (s : State) : State :=
  match unitField 4 number with
  | some z =>
    if s.pins.doors[zoneDoor z] then refuse kindFaultClear tag .state s
    else accept kindFaultClear tag [] (settle (setZoneLatch z false s))
  | none => refuse kindFaultClear tag .badField s

/-- FAULT_CLEAR naming the cabinet (R148); its number is 0 (R182). -/
def clearCabinetLatch (tag : Half) (number : Byte) (s : State) : State :=
  if number ≠ 0 then refuse kindFaultClear tag .badField s
  else if s.pins.doors[cabinetDoor] then refuse kindFaultClear tag .state s
  else accept kindFaultClear tag [] { s with access := { s.access with cabinetLatch := false } }

end Sys2Proof.Machine
end

