-- ==== Sys2Proof/Machine/CounterRequests.lean ====
section
/-! DEFINITION. CounterRequests.lean: the host requests of the counter table (R160, R163, R164, R167) and of machine time
(R154, R156). -/

namespace Sys2Proof.Machine

/-! ## Machine time (R154, R156) -/

/-- TIME_SET (R154): the value is staged, and the reply carries the time as it stands and the staged value. -/
def timeSet (tag : Half) (seconds : Long) (s : State) : State :=
  accept kindTimeSet tag
    (byte4 s.time.seconds.toNat ++ byte2 s.time.ms ++ flagByte s.time.valid ++ byte4 seconds.toNat)
    { s with time := { s.time with staged := some seconds } }

/-- TIME_READ (R156). -/
def timeRead (tag : Half) (s : State) : State :=
  accept kindTimeRead tag
    (byte4 s.time.seconds.toNat ++ byte2 s.time.ms ++ flagByte s.time.valid ++ byte4 s.time.uptime.toNat
      ++ flagByte s.time.staged.isSome ++ byte4 (orZero (s.time.staged.map BitVec.toNat))) s

/-! ## The counter table -/

/-- Store a record and reply with it as it then stands. -/
def acceptCounter (kind : Byte) (tag : Half) (i : CounterId) (c : Counter) (s : State) : State :=
  let stored := settle (storeCounter i c s)
  accept kind tag (counterRecord stored i) stored

/-- The record after a load (R163): the counts gathered while it was UNLOADED are added to the loaded total. -/
def Counter.loaded (c : Counter) (total : Nat) : Counter :=
  let summed := { c with total := min (total + c.total) maxLong }
  { summed with state := summed.computed }

/-- COUNTER_LOAD (R163). -/
def counterLoad (tag : Half) (counter : Byte) (total : Long) (s : State) : State :=
  match unitField 28 counter with
  | some i =>
    if s.counters[i].state = .unloaded then
      acceptCounter kindCounterLoad tag i (s.counters[i].loaded total.toNat) s
    else refuse kindCounterLoad tag .state s
  | none => refuse kindCounterLoad tag .badField s

/-- The zone COUNTER_LIMITS gives a counter: looked at for counters 20 to 27 alone (R160). -/
def limitsZone (i : CounterId) (c : Counter) (zone : Byte) : Option GroupId :=
  if 20 ≤ i.val then unitField 4 zone else some c.zone

/-- COUNTER_LIMITS (R160). -/
def counterLimits (tag : Half) (counter : Byte) (warn due : Long) (margin zone : Byte) (s : State) : State :=
  match unitField 28 counter with
  | some i =>
    if 50 < margin.toNat ∨ due.toNat < warn.toNat then refuse kindCounterLimits tag .badField s
    else match limitsZone i s.counters[i] zone with
      | some z =>
        acceptCounter kindCounterLimits tag i
          { s.counters[i] with warn := warn.toNat, due := due.toNat, margin := margin.toNat, zone := z }.refresh s
      | none => refuse kindCounterLimits tag .badField s
  | none => refuse kindCounterLimits tag .badField s

/-- COUNTER_RESET (R164): accepted under a qualifying grant alone. -/
def counterReset (tag : Half) (counter : Byte) (s : State) : State :=
  match unitField 28 counter with
  | some i =>
    if (qualifyingPlace s i).isSome then
      acceptCounter kindCounterReset tag i { s.counters[i] with total := 0, remainder := 0 }.refresh s
    else refuse kindCounterReset tag .interlock s
  | none => refuse kindCounterReset tag .badField s

/-- COUNTER_READ (R167). -/
def counterRead (tag : Half) (counter : Byte) (s : State) : State :=
  match unitField 28 counter with
  | some i => accept kindCounterRead tag (counterRecord s i) s
  | none => refuse kindCounterRead tag .badField s

end Sys2Proof.Machine
end

