-- ==== Sys2Proof/Machine/LineRequests.lean ====
section
/-! DEFINITION. LineRequests.lean: the host requests of the track side: the settings of track, cameras, gates and fill
section with their checks (R6 to R11, R24, R25, R45, R46, R71), the reads and the flush of the track (R20 to R22, R61),
LINE_RELEASE (R59) and FAULT_CLEAR of a gate (R56). -/

namespace Sys2Proof.Machine

/-! ## The checks of R9, on settings as they will stand -/

/-- P, L and the infeed window (R9). -/
def trackSettingsOk (s : State) : Bool :=
  decide (16 ≤ s.pitch.length ∧ s.pitch.length ≤ 4095) && decide (16 ≤ s.track.length ∧ s.track.length ≤ 128)
    && decide (s.pitch.windowStart ≤ s.pitch.windowEnd)

/-- A camera's position (R9). -/
def cameraPositionOk (s : State) (n : CameraId) : Bool :=
  let c := s.cameras[n].cfg
  decide (1 ≤ c.position ∧ c.position ≤ if c.enabled then s.track.length - 1 else 127)

/-- The fill section and the approach limit (R9). -/
def fillSectionOk (s : State) : Bool :=
  let f := s.fill
  decide (1 ≤ f.entry ∧ f.entry < f.exit ∧ f.exit + 2 ≤ s.track.length - 1)
    && decide (1 ≤ f.approach ∧ f.approach ≤ f.exit - f.entry)

/-- A gate's position (R9). -/
def gatePositionOk (s : State) (g : GateId) : Bool :=
  let c := s.gates[g].cfg
  if c.enabled then decide (s.fill.exit + 2 ≤ c.position ∧ c.position ≤ s.track.length - 1)
  else decide (1 ≤ c.position ∧ c.position ≤ 127)

/-- Gate A below gate B when both are enabled (R9). -/
def gateOrderOk (s : State) : Bool :=
  let a := s.gates[(0 : GateId)].cfg
  let b := s.gates[(1 : GateId)].cfg
  !(a.enabled && b.enabled) || decide (a.position < b.position)

/-- An enabled camera against an enabled gate at or below it: c + d < g (R9). -/
def cameraGateOk (s : State) (n : CameraId) (g : GateId) : Bool :=
  let c := s.cameras[n].cfg
  let gt := s.gates[g].cfg
  !(c.enabled && gt.enabled && decide (c.position ≤ gt.position)) || decide (c.position + c.deadline < gt.position)

/-- The checks of R9 on the settings of every unit. -/
def settingsOk (s : State) : Bool :=
  trackSettingsOk s && (allUnits 6).all (cameraPositionOk s) && fillSectionOk s && (allUnits 2).all (gatePositionOk s)
    && gateOrderOk s && (allUnits 6).all fun n => (allUnits 2).all (cameraGateOk s n)

/-- The Gate Controller's own check (R45): gate A's confirm window does not reach past gate B. -/
def gateWindowOk (s : State) : Bool :=
  let a := s.gates[(0 : GateId)].cfg
  let b := s.gates[(1 : GateId)].cfg
  !(a.enabled && b.enabled) || decide (a.position + a.window ≤ b.position)

/-! ## Clamping (R10) -/

/-- Raise PHASE_CLAMPED for a phase at or above P (R10). -/
def raiseClamped (unit phase : Nat) (s : State) : State :=
  raiseEvent .phaseClamped unit (detail phase) (detail (s.pitch.length - 1)) s

/-- Clamp a camera's active phase (R10). -/
def clampCamera (n : CameraId) (s : State) : State :=
  let phase := s.cameras[n].cfg.phase
  if s.pitch.length ≤ phase then
    raiseClamped n.val phase (s.mapCamera n fun c => { c with cfg := { c.cfg with phase := s.pitch.length - 1 } })
  else s

/-- Clamp a gate's active phase (R10): its unit is 6 or 7. -/
def clampGate (g : GateId) (s : State) : State :=
  let phase := s.gates[g].cfg.phase
  if s.pitch.length ≤ phase then
    raiseClamped (6 + g.val) phase (s.mapGate g fun gt => { gt with cfg := { gt.cfg with phase := s.pitch.length - 1 } })
  else s

/-- Clamp the start of the infeed window, unit 8 (R10). -/
def clampWindowStart (s : State) : State :=
  let phase := s.pitch.windowStart
  if s.pitch.length ≤ phase then
    raiseClamped 8 phase { s with pitch := { s.pitch with windowStart := s.pitch.length - 1 } }
  else s

/-- Clamp the end of the infeed window, unit 9 (R10). -/
def clampWindowEnd (s : State) : State :=
  let phase := s.pitch.windowEnd
  if s.pitch.length ≤ phase then
    raiseClamped 9 phase { s with pitch := { s.pitch with windowEnd := s.pitch.length - 1 } }
  else s

/-- A pitch counter at or above P is set to P−1, without an event (R10). -/
def clampCounter (s : State) : State := setPitchCounter (min s.pitch.counter (s.pitch.length - 1)) s

/-- Clamp every active phase at or above P, in increasing order of unit, and the pitch counter (R10). -/
def clampAll (s : State) : State :=
  clampCounter (clampWindowEnd (clampWindowStart (forEach (allUnits 2) clampGate (forEach (allUnits 6) clampCamera s))))

/-- What a deadline or a confirm window made active with RUN low does at once (R42, R52). That gate A's expiries come before
gate B's is a DESIGN CHOICE: R55 orders the gates at a boundary, and R52 does not order them here
(notes/assumptions/38.md). -/
def checkLimits (s : State) : State :=
  forEach (allUnits 2) expireConfirm (forEach (allUnits 6) deadlineCheck s)

/-- The settings a request with RUN low starts from: a layout request first makes every staged value active (R8). -/
def layoutBase (layout : Bool) (s : State) : State := if layout then activateStaged s else s

/-! ## TRACK_CONFIG (R8 to R11) -/

/-- One slot added at the discharge end when L grows (R11). -/
def addSlot (p : Nat) (s : State) : State :=
  putSlot p (Slot.fresh ((s.slotAt 0).ticket - BitVec.ofNat 16 p)) s

/-- A change of L (R11): positions are added EMPTY, or discharged from the highest down. -/
def changeLength (l : Nat) (s : State) : State :=
  let old := s.track.length
  let done :=
    if old < l then forEach ((List.range l).filter fun p => decide (old ≤ p)) addSlot s
    else forEach ((List.range old).filter fun p => decide (l ≤ p)).reverse discharge s
  { done with track := { done.track with length := l } }

/-- The settings as a TRACK_CONFIG writes them, before L changes. -/
def writeTrack (pitch start stop : Nat) (s : State) : State :=
  { s with pitch := { s.pitch with length := pitch, windowStart := start, windowEnd := stop } }

/-- TRACK_CONFIG (R8): refused with RUNNING when it changes something while RUN is high (R6), checked by R9, and applied
with the clamps of R10 and the change of length of R11. -/
def trackConfig (tag pitch : Half) (length : Byte) (infeedStart infeedEnd : Half) (s : State) : State :=
  let p := pitch.toNat
  let l := length.toNat
  let a := infeedStart.toNat
  let b := infeedEnd.toNat
  let layout := decide (p ≠ s.pitch.length ∨ l ≠ s.track.length ∨ a ≠ s.pitch.windowStart ∨ b ≠ s.pitch.windowEnd)
  if s.pins.run && layout then refuse kindTrackConfig tag .running s
  else
    let base := layoutBase layout s
    let written := writeTrack p a b base
    if settingsOk { written with track := { written.track with length := l } } then
      accept kindTrackConfig tag []
        (if layout then changeLength l (checkLimits (clampAll written)) else s)
    else refuse kindTrackConfig tag .badField s

/-! ## CAMERA_CONFIG (R24, R25) -/

/-- What a change of the enabled flag or of the position does to the camera (R25). -/
def reconfigureCamera (n : CameraId) (old new : CameraSettings) (s : State) : State :=
  if !old.enabled && new.enabled then
    s.mapCamera n fun c =>
      { c.emptyLists with
        state := .waiting, trigger := 0, silence := 0, receiver := .idle, bits := [], strayCount := 0 }
  else if old.enabled && !new.enabled then
    (missAll n old.required s).mapCamera n fun c =>
      { c.emptyLists with state := .off, receiver := .idle, bits := [], pulse := false }
  else if old.enabled && decide (old.position ≠ new.position) then
    (missAll n new.required s).mapCamera n Camera.emptyLists
  else s

/-- Stage a camera's running settings; a phase at or above P is clamped as it is staged (R7, R10). -/
def stageCamera (n : CameraId) (new : CameraSettings) (s : State) : State :=
  let top := s.pitch.length - 1
  let staged := s.mapCamera n fun c =>
    { c with staged :=
        { phase := some (min new.phase top), mask := some new.mask, required := some new.required
          deadline := some new.deadline } }
  if s.pitch.length ≤ new.phase then raiseClamped n.val new.phase staged else staged

/-- The camera with its settings written and nothing of them staged (R8). -/
def writeCamera (n : CameraId) (new : CameraSettings) (s : State) : State :=
  s.mapCamera n fun c => { c with cfg := new, staged := CameraStaged.absent }

/-- CAMERA_CONFIG for a camera and settings whose fields are in range (R24). -/
def configureCamera (tag : Half) (n : CameraId) (new : CameraSettings) (s : State) : State :=
  let old := s.cameras[n].cfg
  let layout := decide (new.enabled ≠ old.enabled ∨ new.position ≠ old.position)
  if s.pins.run && layout then refuse kindCameraConfig tag .running s
  else
    let written := writeCamera n new (layoutBase layout s)
    if settingsOk written then
      accept kindCameraConfig tag []
        (if s.pins.run then stageCamera n new s
        else checkLimits (reconfigureCamera n old new (clampAll written)))
    else refuse kindCameraConfig tag .badField s

/-- CAMERA_CONFIG (R24): malformed fields, the deadline and the class mask are refused first; a position of 0 is taken
as 1 (R9). -/
def cameraConfig (tag : Half) (camera enabled position : Byte) (phase classMask : Half) (required deadline : Byte)
    (s : State) : State :=
  match unitField 6 camera, flagField enabled, flagField required with
  | some n, some en, some req =>
    if deadline.toNat < 1 ∨ 15 < deadline.toNat ∨ classMask &&& 0xF000 ≠ 0 then refuse kindCameraConfig tag .badField s
    else
      configureCamera tag n
        { enabled := en, position := max 1 position.toNat, phase := phase.toNat, mask := classMask, required := req
          deadline := deadline.toNat } s
  | _, _, _ => refuse kindCameraConfig tag .badField s

/-! ## GATE_CONFIG (R45, R46) -/

/-- Disabling or moving an enabled gate: every confirm entry and the pending fire leave with reason 3 (R46). -/
def dropRejects (g : GateId) (s : State) : State :=
  let gt := s.gates[g]
  let tickets := gt.confirm.map ConfirmEntry.ticket ++ gt.pendingFire.toList
  forEach tickets (unconfirm g .reconfigured)
    (s.mapGate g fun gt => { gt with confirm := [], pendingFire := none })

/-- What a change of the enabled flag, or of the position of an enabled gate, does to the gate (R46). -/
def reconfigureGate (g : GateId) (old new : GateSettings) (s : State) : State :=
  if old.enabled && !new.enabled then
    (dropRejects g s).mapGate g fun gt => { gt with output := none }
  else if old.enabled && decide (old.position ≠ new.position) then dropRejects g s
  else s

/-- Stage a gate's running settings; a phase at or above P is clamped as it is staged (R7, R10). -/
def stageGate (g : GateId) (new : GateSettings) (s : State) : State :=
  let top := s.pitch.length - 1
  let staged := s.mapGate g fun gt =>
    { gt with staged :=
        { phase := some (min new.phase top), width := some new.width, mask := some new.mask
          window := some new.window } }
  if s.pitch.length ≤ new.phase then raiseClamped (6 + g.val) new.phase staged else staged

/-- The gate with its settings written and nothing of them staged (R8). -/
def writeGate (g : GateId) (new : GateSettings) (s : State) : State :=
  s.mapGate g fun gt => { gt with cfg := new, staged := GateStaged.absent }

/-- GATE_CONFIG for a gate and settings whose fields are in range (R45). -/
def configureGate (tag : Half) (g : GateId) (new : GateSettings) (s : State) : State :=
  let old := s.gates[g].cfg
  let layout := decide (new.enabled ≠ old.enabled ∨ new.position ≠ old.position)
  if s.pins.run && layout then refuse kindGateConfig tag .running s
  else
    let written := writeGate g new (layoutBase layout s)
    if settingsOk written && gateWindowOk written then
      accept kindGateConfig tag []
        (if s.pins.run then stageGate g new s
        else checkLimits (reconfigureGate g old new (clampAll written)))
    else refuse kindGateConfig tag .badField s

/-- GATE_CONFIG (R45): malformed fields, the pulse width and the confirm window are refused first. -/
def gateConfig (tag : Half) (gate enabled position : Byte) (phase : Half) (width : Byte) (classMask : Half)
    (window : Byte) (s : State) : State :=
  match unitField 2 gate, flagField enabled with
  | some g, some en =>
    if width.toNat < 1 ∨ 250 < width.toNat ∨ window.toNat < 1 ∨ 8 < window.toNat then
      refuse kindGateConfig tag .badField s
    else
      configureGate tag g
        { enabled := en, position := position.toNat, phase := phase.toNat, width := width.toNat, mask := classMask
          window := window.toNat } s
  | _, _ => refuse kindGateConfig tag .badField s

/-! ## FILLER_CONFIG (R71) -/

/-- Some robot holds a job. -/
def anyJob (s : State) : Bool := (allUnits 8).any fun r => s.robots[r].job.isSome

/-- FILLER_CONFIG (R71). -/
def fillerConfig (tag : Half) (entry exit approach : Byte) (s : State) : State :=
  let new : FillSection := { entry := entry.toNat, exit := exit.toNat, approach := approach.toNat }
  let layout := decide (new ≠ s.fill)
  if s.pins.run && layout then refuse kindFillerConfig tag .running s
  else if layout && anyJob s then refuse kindFillerConfig tag .state s
  else
    let written := { layoutBase layout s with fill := new }
    if settingsOk written then
      accept kindFillerConfig tag [] (if layout then checkLimits (clampAll written) else s)
    else refuse kindFillerConfig tag .badField s

/-! ## Reading and flushing the track (R20 to R22, R61) -/

/-- TRACK_READ (R21). -/
def trackRead (tag : Half) (position : Byte) (s : State) : State :=
  let p := position.toNat
  if p < s.track.length then accept kindTrackRead tag (slotRecord p s.track.length (s.slotAt p)) s
  else refuse kindTrackRead tag .badField s

/-- TRACK_TALLY (R20): the tallies are taken into the reply, and then cleared if the flag is set. -/
def trackTally (tag : Half) (clear : Byte) (s : State) : State :=
  match flagField clear with
  | some c =>
    accept kindTrackTally tag s.track.tallies.bytes (if c then s.mapTallies fun _ => Tallies.zero else s)
  | none => refuse kindTrackTally tag .badField s

/-- The slots on the track, from position 0 on. -/
def State.slots (s : State) : List Slot := (List.range s.track.length).map s.slotAt

/-- The slots that are OCCUPIED or REMOVED. -/
def heldSlots (s : State) : List Slot := s.slots.filter fun sl => sl.occupancy != .empty

/-- Every slot on the track is made EMPTY and keeps its ticket (R22). -/
def emptySlots (s : State) : State :=
  forEach (List.range s.track.length) (fun p t => putSlot p (Slot.fresh (t.slotAt p).ticket) t) s

/-- The cameras' lists are emptied, and the gates' confirm lists and pending fires dropped (R22, R43, R61). -/
def emptyUnitLists (s : State) : State :=
  forEach (allUnits 2) (fun g t => t.mapGate g fun gt => { gt with confirm := [], pendingFire := none })
    (forEach (allUnits 6) (fun n t => t.mapCamera n Camera.emptyLists) s)

/-- TRACK_FLUSH (R22): every job is aborted, and then the track and the lists are emptied. The reply counts the slots
before the flush. -/
def trackFlush (tag : Half) (s : State) : State :=
  if s.pins.run then refuse kindTrackFlush tag .running s
  else
    let held := heldSlots s
    let rejected := held.filter fun sl => sl.decision.isSome
    accept kindTrackFlush tag (byte1 held.length ++ byte1 rejected.length)
      (settle (emptyUnitLists (emptySlots (forEach (allUnits 8) abortJob s))))

/-! ## Stop causes and gate faults (R56, R59) -/

/-- A gate's fault latch is set. -/
def anyGateLatch (s : State) : Bool := (allUnits 2).any fun g => s.gates[g].latch

/-- The stop-cause set after a release: a cause stays while its removal condition does not hold (R59). -/
def releasedCauses (s : State) : StopCauses :=
  { escape := false
    gateFault := s.stops.gateFault && anyGateLatch s
    switchOff := s.stops.switchOff && s.mainSwitch.state != .on
    discrepancy := s.stops.discrepancy && s.mainSwitch.latch
    cabinetIntrusion := s.stops.cabinetIntrusion && s.access.cabinetLatch }

/-- LINE_RELEASE (R59). -/
def lineRelease (tag : Half) (s : State) : State :=
  accept kindLineRelease tag (releasedCauses s).byte { s with stops := releasedCauses s }

/-- FAULT_CLEAR naming a gate (R56). -/
def clearGateFault (tag : Half) (number : Byte) (s : State) : State :=
  match unitField 2 number with
  | some g =>
    accept kindFaultClear tag [] (s.mapGate g fun gt => { gt with latch := false, unconfirmed := 0 })
  | none => refuse kindFaultClear tag .badField s

end Sys2Proof.Machine
end

