-- ==== Sys2Proof/Machine/Link.lean ====
section
/-! DEFINITION. Link.lean: the Link Controller's receiver (R176 to R178) and transmitter (R180). -/

namespace Sys2Proof.Machine

/-- Change the Link Controller's record. -/
def State.mapLink (s : State) (f : Link → Link) : State := { s with link := f s.link }

/-! ## A completed frame (R178) -/

/-- The bytes the frame check is formed over: LEN, KIND, TAG and the fields (R178). -/
def checkedPart (len : Byte) (body : List Byte) : List Byte := len :: body.take len.toNat

/-- The frame a body holds: KIND, TAG and the fields (10.2). -/
def frameOf (len : Byte) (body : List Byte) : Frame :=
  { kind := fieldByte body 0, tag := fieldHalf body 1, fields := (body.take len.toNat).drop 3 }

/-- The two check bytes received, which stand high byte first (R178). -/
def receivedCheck (len : Byte) (body : List Byte) : Half :=
  half (fieldByte body (len.toNat + 1)) (fieldByte body len.toNat)

/-- A checked frame enters the receive buffer at the end, or is dropped and counted when the buffer holds two (R178). -/
def Link.receive (l : Link) (f : Frame) : Link :=
  if l.buffer.length < 2 then { l with buffer := l.buffer ++ [f] }
  else { l with overrunErrors := countUpTo maxHalf l.overrunErrors }

/-- A completed frame is checked: dropped and counted on a mismatch, and handed to the receive buffer otherwise (R178). -/
def Link.complete (l : Link) (len : Byte) (body : List Byte) : Link :=
  let ended := { l with receiver := .hunt, gap := none }
  if frameCheck (checkedPart len body) ≠ receivedCheck len body then
    { ended with checkErrors := countUpTo maxHalf l.checkErrors }
  else ended.receive (frameOf len body)

/-! ## The receiver (R176) -/

/-- LEN is in its range (R176). -/
def lenInRange (b : Byte) : Bool := decide (3 ≤ b.toNat ∧ b.toNat ≤ 240)

/-- An out-of-range LEN byte: the frame is abandoned and counted (R176). -/
def Link.abandonLength (l : Link) : Link :=
  { l with receiver := .hunt, gap := none, lengthErrors := countUpTo maxHalf l.lengthErrors }

/-- A byte taken on RXD (R176). -/
def Link.takeByte (l : Link) (b : Byte) : Link :=
  match l.receiver with
  | .hunt => if b = 0xB7 then { l with receiver := .length, gap := some 0 } else l
  | .length =>
    if lenInRange b then { l with receiver := .body b [], gap := some 0 } else l.abandonLength
  | .body len bytes =>
    let body := bytes ++ [b]
    if body.length < len.toNat + 2 then { l with receiver := .body len body, gap := some 0 }
    else l.complete len body

/-- RXD_BYTE_TAKEN (R176). -/
def rxdByte (b : Byte) (s : State) : State := s.mapLink fun l => l.takeByte b

/-- FRAME_CHECKED (R178): the byte that completes the frame being assembled. -/
def frameChecked (b : Byte) (s : State) : State :=
  match s.link.receiver with
  | .body len bytes => if len.toNat + 2 ≤ bytes.length + 1 then s.mapLink fun l => l.complete len (bytes ++ [b]) else s
  | .hunt | .length => s

/-- LENGTH_ABANDON (R176): an out-of-range LEN byte. -/
def lengthAbandon (b : Byte) (s : State) : State :=
  match s.link.receiver with
  | .length => if lenInRange b then s else s.mapLink Link.abandonLength
  | .hunt | .body _ _ => s

/-! ## The transmitter (R180) -/

/-- REPLY_SENT (R180): the last byte of the reply has been sent. -/
def replySent (s : State) : State := s.mapLink fun l => { l with sending := none }

end Sys2Proof.Machine
end

