-- ==== Sys2Proof/Machine/PowerRequests.lean ====
section
/-! DEFINITION. PowerRequests.lean: the host requests of the cabinet: GROUP_CLOSE (R116), GROUP_OPEN (R119), POWER_READ
(R126) and FAULT_CLEAR of the switch and of a group (R112, R122). -/

namespace Sys2Proof.Machine

/-- The switch lets a group close: ON, its pair reading the ON pair, and no discrepancy latch (R116). -/
def switchPermits (s : State) : Bool :=
  s.mainSwitch.state == .on && decide (s.pair = .onPair) && !s.mainSwitch.latch

/-- The first check of R116 that fails for a group, if one does. -/
def closeRefusal (s : State) (g : GroupId) : Option ReplyCode :=
  let st := s.groups[g].state
  let counter := s.counters[contactorCounter g].state
  if st = .faultPullin ∨ st = .faultWeld then some .state
  else if locked s g then some .interlock
  else if !switchPermits s then some .interlock
  else if counter = .unloaded then some .unloaded
  else if counter = .overrun then some .interlock
  else if st = .opening then some .state
  else none

/-- GROUP_CLOSE (R116). -/
def groupClose (tag : Half) (group : Byte) (s : State) : State :=
  match unitField 4 group with
  | some g =>
    match closeRefusal s g with
    | some code => refuse kindGroupClose tag code s
    | none =>
      accept kindGroupClose tag [] (if s.groups[g].state = .isOpen then settle (closeGroup g s) else s)
  | none => refuse kindGroupClose tag .badField s

/-- GROUP_OPEN (R119): the reply carries the group's state as it stands after the request. -/
def groupOpen (tag : Half) (group : Byte) (s : State) : State :=
  match unitField 4 group with
  | some g =>
    let opened := settle (openGroup g s)
    accept kindGroupOpen tag (byte1 opened.groups[g].state.code) opened
  | none => refuse kindGroupOpen tag .badField s

/-- POWER_READ (R126). -/
def powerRead (tag : Half) (s : State) : State := accept kindPowerRead tag (powerRecord s) s

/-- FAULT_CLEAR naming the switch (R112); its number is 0 (R182). -/
def clearSwitchFault (tag : Half) (number : Byte) (s : State) : State :=
  if number ≠ 0 then refuse kindFaultClear tag .badField s
  else if s.pair = .alike then refuse kindFaultClear tag .state s
  else accept kindFaultClear tag [] { s with mainSwitch := { s.mainSwitch with latch := false } }

/-- FAULT_CLEAR naming a group (R122). -/
def clearGroupFault (tag : Half) (number : Byte) (s : State) : State :=
  match unitField 4 number with
  | some g =>
    if s.groups[g].state = .faultPullin ∨ (s.groups[g].state = .faultWeld ∧ !s.pins.mirror[g]) then
      accept kindFaultClear tag [] (settle (enterGroup g .isOpen s))
    else refuse kindFaultClear tag .state s
  | none => refuse kindFaultClear tag .badField s

end Sys2Proof.Machine
end

