-- ==== Sys2Proof/Machine/RobotRequests.lean ====
section
/-! DEFINITION. RobotRequests.lean: the host requests of the fill section: ROBOT_CONFIG (R62), RECIPE_LOAD (R91 to R93),
ROBOT_MODE (R64), ROBOT_READ (R89, R105) and FAULT_CLEAR of a robot (R65). -/

namespace Sys2Proof.Machine

/-! ## ROBOT_CONFIG (R62) -/

/-- Some other robot has the address. -/
def addressTaken (s : State) (r : RobotId) (address : Nat) : Bool :=
  (allUnits 8).any fun q => q != r && s.robots[q].address == address

/-- ROBOT_CONFIG (R62). -/
def robotConfig (tag : Half) (robot zone address : Byte) (s : State) : State :=
  match unitField 8 robot, unitField 4 zone with
  | some r, some z =>
    let a := address.toNat
    if a < 1 ∨ 30 < a ∨ addressTaken s r a then refuse kindRobotConfig tag .badField s
    else if s.robots[r].mode ≠ .off ∨ s.bus.queues[r].entries ≠ [] then refuse kindRobotConfig tag .state s
    else accept kindRobotConfig tag [] (s.mapRobot r fun rb => { rb with zone := z, address := a })
  | _, _ => refuse kindRobotConfig tag .badField s

/-! ## RECIPE_LOAD (R91 to R93) -/

/-- An accepted recipe becomes active at once, or is staged (R92). -/
def takeRecipe (r : RobotId) (atOnce : Bool) (new : Recipe) (s : State) : State :=
  s.mapDose r fun d => if atOnce then d.activate new else { d with staged := some new }

/-- RECIPE_LOAD (R91). -/
def recipeLoad (tag : Half) (robot : Byte) (new : Recipe) (s : State) : State :=
  match unitField 8 robot with
  | some r =>
    if new.inRange then
      let atOnce := s.robots[r].job.isNone && s.doses[r].active.isNone
      accept kindRecipeLoad tag (flagByte atOnce) (takeRecipe r atOnce new s)
    else refuse kindRecipeLoad tag .badField s
  | none => refuse kindRecipeLoad tag .badField s

/-! ## ROBOT_MODE (R64) -/

/-- The mode a request may ask for (R64, 11.3). -/
def requestedMode (b : Byte) : Option RobotMode :=
  if b = 0 then some .off else if b = 1 then some .manual else if b = 2 then some .production else none

/-- The robot leaves OFF: its failure count is 0 and its polls begin (R64, R86). -/
def leaveOff (r : RobotId) (s : State) : State :=
  changeRobot r (fun rb => { rb with mode := .manual, failures := 0, pollTimer := 0 })
    { s with time := { s.time with ahead := s.time.ahead.filter fun share => share != .poll r } }

/-- The robot enters OFF: its POLL entries are removed (R64, R86). -/
def enterOff (r : RobotId) (s : State) : State :=
  changeRobot r (fun rb => { rb with mode := .off }) (s.mapQueue r fun q => q.keep fun e => !e.command.isPoll)

/-- The robot may enter PRODUCTION: it has an active recipe and was last seen RETRACTED (R64). -/
def readyForProduction (s : State) (r : RobotId) : Bool :=
  s.doses[r].active.isSome && s.robots[r].lastStatus == some .retracted

/-- The change a ROBOT_MODE asks for, or the code it is refused with (R64). -/
def modeChange (s : State) (r : RobotId) (new : RobotMode) : Except ReplyCode (State → State) :=
  if locked s s.robots[r].zone then .error .state
  else match s.robots[r].mode, new with
    | .off, .manual => .ok (leaveOff r)
    | .manual, .off => .ok (enterOff r)
    | .manual, .production =>
      if robotCounterIs s r .unloaded then .error .unloaded
      else if readyForProduction s r then
        .ok (changeRobot r fun rb => { rb with mode := .production, armed := false })
      else .error .state
    | .production, .manual =>
      .ok fun t => changeRobot r (fun rb => { rb with mode := .manual, armed := false }) (abortJob r t)
    | _, _ => .error .state

/-- ROBOT_MODE (R64). -/
def robotMode (tag : Half) (robot mode : Byte) (s : State) : State :=
  match unitField 8 robot, requestedMode mode with
  | some r, some new =>
    if s.robots[r].mode = new then accept kindRobotMode tag [] s
    else match modeChange s r new with
      | .ok change => accept kindRobotMode tag [] (settle (change s))
      | .error code => refuse kindRobotMode tag code s
  | _, _ => refuse kindRobotMode tag .badField s

/-! ## ROBOT_READ (R89) and FAULT_CLEAR (R65) -/

/-- ROBOT_READ (R89, R105). -/
def robotRead (tag : Half) (robot : Byte) (s : State) : State :=
  match unitField 8 robot with
  | some r => accept kindRobotRead tag (robotRecord s r) s
  | none => refuse kindRobotRead tag .badField s

/-- The robot's last status is FAULT. -/
def reportsFault (s : State) (r : RobotId) : Bool :=
  match s.robots[r].lastStatus with
  | some (.fault _) => true
  | _ => false

/-- FAULT_CLEAR naming a robot (R65). -/
def clearRobotFault (tag : Half) (number : Byte) (s : State) : State :=
  match unitField 8 number with
  | some r =>
    if s.robots[r].mode = .faulted ∧ !reportsFault s r then
      accept kindFaultClear tag []
        (settle (changeRobot r (fun rb => { rb with mode := .manual, reason := none }) s))
    else refuse kindFaultClear tag .state s
  | none => refuse kindFaultClear tag .badField s

end Sys2Proof.Machine
end

