-- ==== Sys2Proof/Machine/HostRequests.lean ====
section
/-! DEFINITION. HostRequests.lean: IDENT, STATUS, EVENT_READ and RESTART (R172, R183 to R185), the power-on reset, and the
taking of a buffered request (R180 to R182, R187). -/

namespace Sys2Proof.Machine

/-! ## Resets (R5, R113, R125, R149, R152, R174, R175, R185) -/

/-- The main switch after either reset, by the contact pair as it reads (R113). -/
def bootSwitch (pair : ContactPair) : MainSwitch :=
  match pair with
  | .onPair => { state := .on, alike := none, latch := false }
  | .offPair => { state := .off, alike := none, latch := false }
  | .alike => { state := .off, alike := some 0, latch := false }

/-- The door inputs are read: the zone doors found open in increasing number, and DOORC last (R149). -/
def bootDoors (s : State) : State :=
  let zones := forEach (allUnits 4) (fun z t => if t.pins.doors[zoneDoor z] then zoneIntrusion z 2 t else t) s
  if zones.pins.doors[cabinetDoor] then cabinetIntrusion 2 2 zones else zones

/-- The blocks take up their state from the inputs: the switch, the mirror contacts and the doors (R113, R125, R149). -/
def bootInputs (s : State) : State :=
  bootDoors
    { s with
      mainSwitch := bootSwitch s.pair
      groups := Vector.ofFn fun g : GroupId => { state := .isOpen, timer := entryTimer .isOpen s.pins.mirror[g] } }

/-- POWER_ON_RESET (R5, R166, R174, R175): the millisecond count runs on through a low level on RESETn and is 0 at power-up
(R151), and the link rate is read from the BAUD strap. -/
def powerOnReset (powerUp baudHigh : Bool) (s : State) : State :=
  bootInputs
    { State.reset with
      pins := s.pins
      time := { State.reset.time with ms := if powerUp then 0 else s.time.ms }
      link := Link.reset baudHigh
      pending := s.pending }

/-- What RESTART keeps: machine time, its valid flag and the millisecond count, the counter table and the link rate
(R185). -/
def restartState (s : State) : State :=
  { State.reset with
    pins := s.pins
    time := { s.time with staged := none, uptime := 0, ahead := [] }
    counters := s.counters
    link := Link.reset s.link.fast
    pending := s.pending }

/-- RESTART (R185): the reset, the RESTARTED record (R174), the inputs, and then the reply. -/
def restart (tag : Half) (s : State) : State :=
  accept kindRestart tag []
    (bootInputs
      (enterRecord .restarted 0 (detail s.events.queue.length) (detail s.events.lost) (restartState s)))

/-! ## IDENT, STATUS, EVENT_READ -/

/-- IDENT (R183). -/
def ident (tag : Half) (s : State) : State := accept kindIdent tag (identRecord s) s

/-- STATUS (R184). -/
def status (tag : Half) (s : State) : State := accept kindStatus tag (statusRecord s) s

/-- The records an EVENT_READ of n records removes, oldest first (R172). -/
def deliver : Nat → State → List EventRecord
  | 0, _ => []
  | n + 1, s =>
    match s.events.queue with
    | [] => []
    | e :: _ => e :: deliver n (removeOldest s)

/-- EVENT_READ (R172). -/
def eventRead (tag : Half) (count : Byte) (s : State) : State :=
  let n := count.toNat
  if n < 1 ∨ 8 < n then refuse kindEventRead tag .badField s
  else
    let records := deliver n s
    accept kindEventRead tag (byte1 records.length ++ records.flatMap EventRecord.bytes) (removeRecords n s)

/-! ## The taking of a request (R180, R181) -/

/-- FAULT_CLEAR by its target (R182). -/
def faultClear (tag : Half) (target number : Byte) (s : State) : State :=
  if target = 0 then clearGateFault tag number s
  else if target = 1 then clearRobotFault tag number s
  else if target = 2 then clearSwitchFault tag number s
  else if target = 3 then clearGroupFault tag number s
  else if target = 4 then clearZoneLatch tag number s
  else if target = 5 then clearCabinetLatch tag number s
  else refuse kindFaultClear tag .badField s

/-- The recipe at an offset of a request's fields (11.1). -/
def fieldRecipe (f : List Byte) (i : Nat) : Recipe :=
  { target := (fieldHalf f i).toNat, kFactor := (fieldLong f (i + 2)).toNat, underTol := (fieldHalf f (i + 6)).toNat
    overTol := (fieldHalf f (i + 8)).toNat, minOpen := (fieldHalf f (i + 10)).toNat
    afterflowMax := (fieldHalf f (i + 12)).toNat, shift := (fieldByte f (i + 14)).toNat
    settle := (fieldHalf f (i + 15)).toNat, initial := (fieldHalf f (i + 17)).toNat }

/-- The rule that owns each request kind, given the TAG and the fields (11.1). -/
def requestRules : List (Byte × (Half → List Byte → State → State)) :=
  [(kindIdent, fun t _ => ident t), (kindStatus, fun t _ => status t), (kindRestart, fun t _ => restart t),
    (kindTrackConfig, fun t f => trackConfig t (fieldHalf f 0) (fieldByte f 2) (fieldHalf f 3) (fieldHalf f 5)),
    (kindCameraConfig, fun t f =>
      cameraConfig t (fieldByte f 0) (fieldByte f 1) (fieldByte f 2) (fieldHalf f 3) (fieldHalf f 5) (fieldByte f 7)
        (fieldByte f 8)),
    (kindGateConfig, fun t f =>
      gateConfig t (fieldByte f 0) (fieldByte f 1) (fieldByte f 2) (fieldHalf f 3) (fieldByte f 5) (fieldHalf f 6)
        (fieldByte f 8)),
    (kindFillerConfig, fun t f => fillerConfig t (fieldByte f 0) (fieldByte f 1) (fieldByte f 2)),
    (kindTrackRead, fun t f => trackRead t (fieldByte f 0)),
    (kindTrackTally, fun t f => trackTally t (fieldByte f 0)),
    (kindTrackFlush, fun t _ => trackFlush t),
    (kindRobotConfig, fun t f => robotConfig t (fieldByte f 0) (fieldByte f 1) (fieldByte f 2)),
    (kindRecipeLoad, fun t f => recipeLoad t (fieldByte f 0) (fieldRecipe f 1)),
    (kindRobotMode, fun t f => robotMode t (fieldByte f 0) (fieldByte f 1)),
    (kindRobotRead, fun t f => robotRead t (fieldByte f 0)),
    (kindGroupClose, fun t f => groupClose t (fieldByte f 0)),
    (kindGroupOpen, fun t f => groupOpen t (fieldByte f 0)),
    (kindPowerRead, fun t _ => powerRead t),
    (kindFaultClear, fun t f => faultClear t (fieldByte f 0) (fieldByte f 1)),
    (kindLineRelease, fun t _ => lineRelease t),
    (kindGrantRequest, fun t f => grantRequest t (fieldByte f 0) (fieldByte f 1) (fieldLong f 2) (fieldHalf f 6)),
    (kindGrantEnd, fun t f => grantEnd t (fieldHalf f 0)),
    (kindGrantExtend, fun t f => grantExtend t (fieldHalf f 0) (fieldHalf f 2)),
    (kindGrantRead, fun t f => grantRead t (fieldByte f 0)),
    (kindTimeSet, fun t f => timeSet t (fieldLong f 0)),
    (kindTimeRead, fun t _ => timeRead t),
    (kindCounterLoad, fun t f => counterLoad t (fieldByte f 0) (fieldLong f 1)),
    (kindCounterLimits, fun t f =>
      counterLimits t (fieldByte f 0) (fieldLong f 1) (fieldLong f 5) (fieldByte f 9) (fieldByte f 10)),
    (kindCounterReset, fun t f => counterReset t (fieldByte f 0)),
    (kindCounterRead, fun t f => counterRead t (fieldByte f 0)),
    (kindEventRead, fun t f => eventRead t (fieldByte f 0))]

/-- A request is judged in three steps: its KIND, its LEN, and the rule that owns it (R181, R187). -/
def serve (f : Frame) (s : State) : State :=
  match requestSize f.kind, requestRules.lookup f.kind with
  | some size, some rule =>
    if f.fields.length = size then rule f.tag f.fields s else refuse f.kind f.tag .badLength s
  | _, _ => refuse f.kind f.tag .unknownKind s

/-- REQUEST_TAKEN (R180): the oldest buffered request is taken when no reply is still to be sent. -/
def requestTaken (s : State) : State :=
  match s.link.sending, s.link.buffer with
  | none, f :: rest => serve f (s.mapLink fun l => { l with buffer := rest })
  | _, _ => s

end Sys2Proof.Machine
end

