-- ==== Sys2Proof/Machine/LinkCommands.lean ====
section
/-! DEFINITION. LinkCommands.lean: the commands of the host link, one meaning for each. -/

namespace Sys2Proof.Machine

/-- FRAME_CHECKED (R178). -/
def execFrameChecked (value : Byte) (s : State) : Result :=
  .next (frameChecked value s)

/-- LENGTH_ABANDON (R176). -/
def execLengthAbandon (value : Byte) (s : State) : Result :=
  .next (lengthAbandon value s)

/-- GAP_TIMEOUT (R177). -/
def execGapTimeout (s : State) : Result :=
  .next (shareGap s)

/-- REQUEST_TAKEN (R180, R181). -/
def execRequestTaken (s : State) : Result :=
  .next (requestTaken s)

/-- RXD_BYTE_TAKEN (R176). -/
def execRxdByteTaken (value : Byte) (s : State) : Result :=
  .next (rxdByte value s)

/-- REPLY_SENT (R180). -/
def execReplySent (s : State) : Result :=
  .next (replySent s)

end Sys2Proof.Machine
end

