-- ==== Sys2Proof/Machine/PowerCommands.lean ====
section
/-! DEFINITION. PowerCommands.lean: the commands of the main switch and the contactors, one meaning for each. -/

namespace Sys2Proof.Machine

/-- MAIN_SWITCH_CONTACT_CHANGE (R108, R110, R111). -/
def execMainSwitchContactChange (msaClosed msbClosed : Bool) (s : State) : Result :=
  .next (settle (contactChange msaClosed msbClosed s))

/-- SWITCH_DISCREPANCY (R109). -/
def execSwitchDiscrepancy (s : State) : Result :=
  .next (shareAlike s)

/-- MIRROR_CONTACT_CHANGE (R117, R118, R120, R121). -/
def execMirrorContactChange (group : GroupId) (contactorClosed : Bool) (s : State) : Result :=
  .next (settle (mirrorChange group contactorClosed s))

/-- PULLIN_TIMEOUT (R117). -/
def execPullinTimeout (group : GroupId) (s : State) : Result :=
  .next (sharePullin group s)

/-- FALL_OUT (R118). -/
def execFallOut (group : GroupId) (s : State) : Result :=
  .next (shareFallOut group s)

/-- DROPOUT_TIMEOUT (R120). -/
def execDropoutTimeout (group : GroupId) (s : State) : Result :=
  .next (shareDropout group s)

/-- WELD_DETECTED (R121). -/
def execWeldDetected (group : GroupId) (s : State) : Result :=
  .next (shareWeld group s)

end Sys2Proof.Machine
end

