-- ==== Sys2Proof/Machine/RequestFrames.lean ====
section
/-! DEFINITION. RequestFrames.lean: the frame in which the host sends each request (10.2, 11.1): its KIND, its TAG and its
fields in the order of the request table, least significant byte first. -/

namespace Sys2Proof.Machine

/-- The frame of a request; a command of the field has none. FAULT_CLEAR carries its target and its number (R182). -/
def requestFrame : Instr → Option Frame
  | .ident tag => some ⟨kindIdent, tag, []⟩
  | .status tag => some ⟨kindStatus, tag, []⟩
  | .restart tag => some ⟨kindRestart, tag, []⟩
  | .trackConfig tag pitch length infeedStart infeedEnd =>
    some ⟨kindTrackConfig, tag, byte2 pitch.toNat ++ [length] ++ byte2 infeedStart.toNat ++ byte2 infeedEnd.toNat⟩
  | .cameraConfig tag camera enabled position phase classMask required deadline =>
    some ⟨kindCameraConfig, tag,
      [camera, enabled, position] ++ byte2 phase.toNat ++ byte2 classMask.toNat ++ [required, deadline]⟩
  | .gateConfig tag gate enabled position phase width classMask window =>
    some ⟨kindGateConfig, tag, [gate, enabled, position] ++ byte2 phase.toNat ++ [width] ++ byte2 classMask.toNat ++ [window]⟩
  | .fillerConfig tag entry exit approach => some ⟨kindFillerConfig, tag, [entry, exit, approach]⟩
  | .trackRead tag position => some ⟨kindTrackRead, tag, [position]⟩
  | .trackTally tag clear => some ⟨kindTrackTally, tag, [clear]⟩
  | .trackFlush tag => some ⟨kindTrackFlush, tag, []⟩
  | .robotConfig tag robot zone address => some ⟨kindRobotConfig, tag, [robot, zone, address]⟩
  | .recipeLoad tag robot target kFactor underTol overTol minOpen afterflowMax shift settle initial =>
    some ⟨kindRecipeLoad, tag,
      [robot] ++ byte2 target.toNat ++ byte4 kFactor.toNat ++ byte2 underTol.toNat ++ byte2 overTol.toNat
        ++ byte2 minOpen.toNat ++ byte2 afterflowMax.toNat ++ [shift] ++ byte2 settle.toNat ++ byte2 initial.toNat⟩
  | .robotMode tag robot mode => some ⟨kindRobotMode, tag, [robot, mode]⟩
  | .robotRead tag robot => some ⟨kindRobotRead, tag, [robot]⟩
  | .groupClose tag group => some ⟨kindGroupClose, tag, [group]⟩
  | .groupOpen tag group => some ⟨kindGroupOpen, tag, [group]⟩
  | .powerRead tag => some ⟨kindPowerRead, tag, []⟩
  | .faultClearGate tag number => some ⟨kindFaultClear, tag, [0, number]⟩
  | .faultClearRobot tag number => some ⟨kindFaultClear, tag, [1, number]⟩
  | .faultClearSwitch tag number => some ⟨kindFaultClear, tag, [2, number]⟩
  | .faultClearGroup tag number => some ⟨kindFaultClear, tag, [3, number]⟩
  | .faultClearZone tag number => some ⟨kindFaultClear, tag, [4, number]⟩
  | .faultClearCabinet tag number => some ⟨kindFaultClear, tag, [5, number]⟩
  | .lineRelease tag => some ⟨kindLineRelease, tag, []⟩
  | .grantRequest tag kind zones badge duration =>
    some ⟨kindGrantRequest, tag, [kind, zones] ++ byte4 badge.toNat ++ byte2 duration.toNat⟩
  | .grantEnd tag number => some ⟨kindGrantEnd, tag, byte2 number.toNat⟩
  | .grantExtend tag number minutes => some ⟨kindGrantExtend, tag, byte2 number.toNat ++ byte2 minutes.toNat⟩
  | .grantRead tag place => some ⟨kindGrantRead, tag, [place]⟩
  | .timeSet tag seconds => some ⟨kindTimeSet, tag, byte4 seconds.toNat⟩
  | .timeRead tag => some ⟨kindTimeRead, tag, []⟩
  | .counterLoad tag counter total => some ⟨kindCounterLoad, tag, [counter] ++ byte4 total.toNat⟩
  | .counterLimits tag counter warn due margin zone =>
    some ⟨kindCounterLimits, tag, [counter] ++ byte4 warn.toNat ++ byte4 due.toNat ++ [margin, zone]⟩
  | .counterReset tag counter => some ⟨kindCounterReset, tag, [counter]⟩
  | .counterRead tag counter => some ⟨kindCounterRead, tag, [counter]⟩
  | .eventRead tag count => some ⟨kindEventRead, tag, [count]⟩
  | _ => none

end Sys2Proof.Machine
end

