-- ==== Sys2Proof/Machine/RequestCommands.lean ====
section
/-! DEFINITION. RequestCommands.lean: the host requests, one meaning for each. A request row stands for its frame having
come whole: it is taken at once with the link idle, and waits in the receive buffer otherwise (R178, R180,
notes/assumptions/11.md). -/

namespace Sys2Proof.Machine

/-- The transmitter holds no reply still to send and no request waits, so that a request is taken as it comes (R180). -/
def State.linkIdle (s : State) : Bool := s.link.sending.isNone && s.link.buffer.isEmpty

/-- A request of the host (R180): with the link idle the rule that owns it acts at once. Otherwise its frame enters the
receive buffer behind the requests that wait, or is dropped and counted with the buffer full (R178). -/
def hostRequest (c : Instr) (rule : State → State) (s : State) : Result :=
  if s.linkIdle then .next (rule s)
  else match requestFrame c with
    | some f => .next (s.mapLink fun l => l.receive f)
    | none => .next s

/-- IDENT (R183). -/
def execIdent (tag : Half) (s : State) : Result :=
  hostRequest (.ident tag) (ident tag) s

/-- STATUS (R184). -/
def execStatus (tag : Half) (s : State) : Result :=
  hostRequest (.status tag) (status tag) s

/-- RESTART (R185). -/
def execRestart (tag : Half) (s : State) : Result :=
  hostRequest (.restart tag) (restart tag) s

/-- TRACK_CONFIG (R8). -/
def execTrackConfig (tag pitch : Half) (length : Byte) (infeedStart infeedEnd : Half) (s : State) : Result :=
  hostRequest (.trackConfig tag pitch length infeedStart infeedEnd)
    (trackConfig tag pitch length infeedStart infeedEnd) s

/-- CAMERA_CONFIG (R24). -/
def execCameraConfig (tag : Half) (camera enabled position : Byte) (phase classMask : Half)
    (required deadline : Byte) (s : State) : Result :=
  hostRequest (.cameraConfig tag camera enabled position phase classMask required deadline)
    (cameraConfig tag camera enabled position phase classMask required deadline) s

/-- GATE_CONFIG (R45). -/
def execGateConfig (tag : Half) (gate enabled position : Byte) (phase : Half) (width : Byte)
    (classMask : Half) (window : Byte) (s : State) : Result :=
  hostRequest (.gateConfig tag gate enabled position phase width classMask window)
    (gateConfig tag gate enabled position phase width classMask window) s

/-- FILLER_CONFIG (R71). -/
def execFillerConfig (tag : Half) (entry exit approach : Byte) (s : State) : Result :=
  hostRequest (.fillerConfig tag entry exit approach) (fillerConfig tag entry exit approach) s

/-- TRACK_READ (R21). -/
def execTrackRead (tag : Half) (position : Byte) (s : State) : Result :=
  hostRequest (.trackRead tag position) (trackRead tag position) s

/-- TRACK_TALLY (R20). -/
def execTrackTally (tag : Half) (clear : Byte) (s : State) : Result :=
  hostRequest (.trackTally tag clear) (trackTally tag clear) s

/-- TRACK_FLUSH (R22). -/
def execTrackFlush (tag : Half) (s : State) : Result :=
  hostRequest (.trackFlush tag) (trackFlush tag) s

/-- ROBOT_CONFIG (R62). -/
def execRobotConfig (tag : Half) (robot zone address : Byte) (s : State) : Result :=
  hostRequest (.robotConfig tag robot zone address) (robotConfig tag robot zone address) s

/-- RECIPE_LOAD (R91). -/
def execRecipeLoad (tag : Half) (robot : Byte) (target : Half) (kFactor : Long)
    (underTol overTol minOpen afterflowMax : Half)
    (shift : Byte) (settle initial : Half) (s : State) : Result :=
  hostRequest (.recipeLoad tag robot target kFactor underTol overTol minOpen afterflowMax shift settle initial)
    (recipeLoad tag robot
    { target := target.toNat, kFactor := kFactor.toNat, underTol := underTol.toNat, overTol := overTol.toNat
      minOpen := minOpen.toNat, afterflowMax := afterflowMax.toNat, shift := shift.toNat, settle := settle.toNat
      initial := initial.toNat }) s

/-- ROBOT_MODE (R64). -/
def execRobotMode (tag : Half) (robot mode : Byte) (s : State) : Result :=
  hostRequest (.robotMode tag robot mode) (robotMode tag robot mode) s

/-- ROBOT_READ (R89). -/
def execRobotRead (tag : Half) (robot : Byte) (s : State) : Result :=
  hostRequest (.robotRead tag robot) (robotRead tag robot) s

/-- GROUP_CLOSE (R116). -/
def execGroupClose (tag : Half) (group : Byte) (s : State) : Result :=
  hostRequest (.groupClose tag group) (groupClose tag group) s

/-- GROUP_OPEN (R119). -/
def execGroupOpen (tag : Half) (group : Byte) (s : State) : Result :=
  hostRequest (.groupOpen tag group) (groupOpen tag group) s

/-- POWER_READ (R126). -/
def execPowerRead (tag : Half) (s : State) : Result :=
  hostRequest (.powerRead tag) (powerRead tag) s

/-- FAULT_CLEAR with target GATE (R56). -/
def execFaultClearGate (tag : Half) (number : Byte) (s : State) : Result :=
  hostRequest (.faultClearGate tag number) (clearGateFault tag number) s

/-- FAULT_CLEAR with target ROBOT (R65). -/
def execFaultClearRobot (tag : Half) (number : Byte) (s : State) : Result :=
  hostRequest (.faultClearRobot tag number) (clearRobotFault tag number) s

/-- FAULT_CLEAR with target SWITCH (R112). -/
def execFaultClearSwitch (tag : Half) (number : Byte) (s : State) : Result :=
  hostRequest (.faultClearSwitch tag number) (clearSwitchFault tag number) s

/-- FAULT_CLEAR with target GROUP (R122). -/
def execFaultClearGroup (tag : Half) (number : Byte) (s : State) : Result :=
  hostRequest (.faultClearGroup tag number) (clearGroupFault tag number) s

/-- FAULT_CLEAR with target ZONE (R148). -/
def execFaultClearZone (tag : Half) (number : Byte) (s : State) : Result :=
  hostRequest (.faultClearZone tag number) (clearZoneLatch tag number) s

/-- FAULT_CLEAR with target CABINET (R148). -/
def execFaultClearCabinet (tag : Half) (number : Byte) (s : State) : Result :=
  hostRequest (.faultClearCabinet tag number) (clearCabinetLatch tag number) s

/-- LINE_RELEASE (R59). -/
def execLineRelease (tag : Half) (s : State) : Result :=
  hostRequest (.lineRelease tag) (lineRelease tag) s

/-- GRANT_REQUEST (R131, R132). -/
def execGrantRequest (tag : Half) (kind zones : Byte) (badge : Long) (duration : Half) (s : State) : Result :=
  hostRequest (.grantRequest tag kind zones badge duration) (grantRequest tag kind zones badge duration) s

/-- GRANT_END (R140). -/
def execGrantEnd (tag number : Half) (s : State) : Result :=
  hostRequest (.grantEnd tag number) (grantEnd tag number) s

/-- GRANT_EXTEND (R142). -/
def execGrantExtend (tag number minutes : Half) (s : State) : Result :=
  hostRequest (.grantExtend tag number minutes) (grantExtend tag number minutes) s

/-- GRANT_READ (R150). -/
def execGrantRead (tag : Half) (place : Byte) (s : State) : Result :=
  hostRequest (.grantRead tag place) (grantRead tag place) s

/-- TIME_SET (R154). -/
def execTimeSet (tag : Half) (seconds : Long) (s : State) : Result :=
  hostRequest (.timeSet tag seconds) (timeSet tag seconds) s

/-- TIME_READ (R156). -/
def execTimeRead (tag : Half) (s : State) : Result :=
  hostRequest (.timeRead tag) (timeRead tag) s

/-- COUNTER_LOAD (R163). -/
def execCounterLoad (tag : Half) (counter : Byte) (total : Long) (s : State) : Result :=
  hostRequest (.counterLoad tag counter total) (counterLoad tag counter total) s

/-- COUNTER_LIMITS (R160). -/
def execCounterLimits (tag : Half) (counter : Byte) (warn due : Long) (margin zone : Byte) (s : State) : Result :=
  hostRequest (.counterLimits tag counter warn due margin zone) (counterLimits tag counter warn due margin zone) s

/-- COUNTER_RESET (R164). -/
def execCounterReset (tag : Half) (counter : Byte) (s : State) : Result :=
  hostRequest (.counterReset tag counter) (counterReset tag counter) s

/-- COUNTER_READ (R167). -/
def execCounterRead (tag : Half) (counter : Byte) (s : State) : Result :=
  hostRequest (.counterRead tag counter) (counterRead tag counter) s

/-- EVENT_READ (R172). -/
def execEventRead (tag : Half) (count : Byte) (s : State) : Result :=
  hostRequest (.eventRead tag count) (eventRead tag count) s

end Sys2Proof.Machine
end

