-- ==== Sys2Proof/Machine/RobotCommands.lean ====
section
/-! DEFINITION. RobotCommands.lean: the commands of the robot bus, the flowmeters and the valves, one meaning for each. -/

namespace Sys2Proof.Machine

/-- BUS_TRANSACTION_START (R84). -/
def execBusTransactionStart (s : State) : Result :=
  .next (startTransaction s)

/-- BROADCAST_HOLD_SENT (R83). -/
def execBroadcastHoldSent (s : State) : Result :=
  .next (settle (broadcastSent s))

/-- COMMAND_TRANSACTION_DONE (R87). -/
def execCommandTransactionDone (acked : Bool) (s : State) : Result :=
  .next (settle (commandDone acked s))

/-- POLL_DONE (R86). -/
def execPollDone (acked : Bool) (statusByte codeByte : Byte) (s : State) : Result :=
  .next (settle (pollDone acked statusByte codeByte s))

/-- POLL_TIMER (R86). -/
def execPollTimer (robot : RobotId) (s : State) : Result :=
  .next (sharePoll robot s)

/-- CLOCK_HOLD_TIMEOUT (R82). -/
def execClockHoldTimeout (robot : RobotId) (s : State) : Result :=
  .next (settle (clockHold robot s))

/-- FLOW_PULSE (R96). -/
def execFlowPulse (robot : RobotId) (s : State) : Result :=
  .next (flowPulse robot s)

/-- SETTLE_END (R77). -/
def execSettleEnd (robot : RobotId) (s : State) : Result :=
  .next (shareSettle robot s)

/-- NO_FLOW (R80). -/
def execNoFlow (robot : RobotId) (s : State) : Result :=
  .next (shareNoFlow robot s)

/-- VALVE_CHECK_EXPIRY (R79). -/
def execValveCheckExpiry (robot : RobotId) (s : State) : Result :=
  .next (shareCheck robot s)

/-- VALVE_FEEDBACK_CHANGE (R79). -/
def execValveFeedbackChange (robot : RobotId) (showsOpen : Bool) (s : State) : Result :=
  .next (settle (feedbackChange robot showsOpen s))

/-- VALVE_TIME_SECOND (R158). -/
def execValveTimeSecond (robot : RobotId) (s : State) : Result :=
  .next (shareValveTime robot s)

/-- ROBOT_CLOCK_RELEASE (R82). -/
def execRobotClockRelease (robot : RobotId) (s : State) : Result :=
  .next (clockRelease robot s)

end Sys2Proof.Machine
end

