-- ==== Sys2Proof/Machine/TimeCommands.lean ====
section
/-! DEFINITION. TimeCommands.lean: the commands of the time base and the power-on reset, one meaning for each. -/

namespace Sys2Proof.Machine

/-- POWER_ON_RESET (R5): every block takes its reset state, and the inputs are read. -/
def execPowerOnReset (powerUp baudHigh : Bool) (s : State) : Result :=
  .next (powerOnReset powerUp baudHigh s)

/-- MS_TICK (R151): every running timer rises by one, and those at their limits act. -/
def execMsTick (s : State) : Result :=
  .next (tick s)

/-- SECONDS_ROLLOVER (R152): the tick that finds the millisecond count at 999. -/
def execSecondsRollover (s : State) : Result :=
  .next (secondsRollover s)

end Sys2Proof.Machine
end

