-- ==== Sys2Proof/Machine/TrackCommands.lean ====
section
/-! DEFINITION. TrackCommands.lean: the commands of the encoder, of RUN and of the positions on the track, one meaning for each. -/

namespace Sys2Proof.Machine

/-- ENC_COUNTED_EDGE (R1). -/
def execEncCountedEdge (infActive : Bool) (s : State) : Result :=
  .next (countedEdge infActive s)

/-- VERDICT_DEADLINE (R42): every slot at or beyond c + d with an AWAITED entry has it made MISSING. -/
def execVerdictDeadline (camera : CameraId) (s : State) : Result :=
  .next (deadlineCheck camera s)

/-- CONFIRM_EXPIRY (R55): every confirm entry whose age has reached the confirm window expires. -/
def execConfirmExpiry (gate : GateId) (s : State) : Result :=
  .next (expireConfirm gate s)

/-- FILL_EXIT_LIMIT (R76): the job whose slot has left position x is ended. -/
def execFillExitLimit (robot : RobotId) (s : State) : Result :=
  .next (settle (exitLimit robot s))

/-- FILL_APPROACH_LIMIT (R75): the job still in APPROACH at e + a is ended as TIMEOUT. -/
def execFillApproachLimit (robot : RobotId) (s : State) : Result :=
  .next (settle (approachLimit robot s))

/-- STRAY_EDGE (R3). -/
def execStrayEdge (s : State) : Result :=
  .next (strayEdge s)

/-- RUN_RISE (R3, R4). -/
def execRunRise (s : State) : Result :=
  .next (runRise s)

/-- RUN_FALL (R4). -/
def execRunFall (s : State) : Result :=
  .next (runFall s)

end Sys2Proof.Machine
end

