-- ==== Sys2Proof/Machine/Dispatch.lean ====
section
/-! DEFINITION. Dispatch.lean: one arm per command of the opcode table, each a direct call of its meaning. -/

namespace Sys2Proof.Machine

def exec (i : Instr) (s : State) : Host.Outcome State Fault Refusal :=
  match i with
  | .powerOnReset powerUp baudHigh => Sys2Proof.Machine.execPowerOnReset powerUp baudHigh s
  | .msTick => Sys2Proof.Machine.execMsTick s
  | .secondsRollover => Sys2Proof.Machine.execSecondsRollover s
  | .encCountedEdge infActive => Sys2Proof.Machine.execEncCountedEdge infActive s
  | .verdictDeadline camera => Sys2Proof.Machine.execVerdictDeadline camera s
  | .confirmExpiry gate => Sys2Proof.Machine.execConfirmExpiry gate s
  | .fillExitLimit robot => Sys2Proof.Machine.execFillExitLimit robot s
  | .fillApproachLimit robot => Sys2Proof.Machine.execFillApproachLimit robot s
  | .triggerPulseEnd camera => Sys2Proof.Machine.execTriggerPulseEnd camera s
  | .gatePulseEnd gate => Sys2Proof.Machine.execGatePulseEnd gate s
  | .strayEdge => Sys2Proof.Machine.execStrayEdge s
  | .runRise => Sys2Proof.Machine.execRunRise s
  | .runFall => Sys2Proof.Machine.execRunFall s
  | .verdict camera trigger classes => Sys2Proof.Machine.execVerdict camera trigger classes s
  | .statusReady camera => Sys2Proof.Machine.execStatusReady camera s
  | .statusNotReady camera => Sys2Proof.Machine.execStatusNotReady camera s
  | .statusUnknownValue camera value => Sys2Proof.Machine.execStatusUnknownValue camera value s
  | .cameraKindByte camera value => Sys2Proof.Machine.execCameraKindByte camera value s
  | .strayParameter camera value => Sys2Proof.Machine.execStrayParameter camera value s
  | .cameraLost camera => Sys2Proof.Machine.execCameraLost camera s
  | .gateConfirm gate => Sys2Proof.Machine.execGateConfirm gate s
  | .busTransactionStart => Sys2Proof.Machine.execBusTransactionStart s
  | .broadcastHoldSent => Sys2Proof.Machine.execBroadcastHoldSent s
  | .commandTransactionDone acked => Sys2Proof.Machine.execCommandTransactionDone acked s
  | .pollDone acked statusByte codeByte => Sys2Proof.Machine.execPollDone acked statusByte codeByte s
  | .pollTimer robot => Sys2Proof.Machine.execPollTimer robot s
  | .clockHoldTimeout robot => Sys2Proof.Machine.execClockHoldTimeout robot s
  | .flowPulse robot => Sys2Proof.Machine.execFlowPulse robot s
  | .settleEnd robot => Sys2Proof.Machine.execSettleEnd robot s
  | .noFlow robot => Sys2Proof.Machine.execNoFlow robot s
  | .valveCheckExpiry robot => Sys2Proof.Machine.execValveCheckExpiry robot s
  | .valveFeedbackChange robot showsOpen => Sys2Proof.Machine.execValveFeedbackChange robot showsOpen s
  | .valveTimeSecond robot => Sys2Proof.Machine.execValveTimeSecond robot s
  | .mainSwitchContactChange msaClosed msbClosed => Sys2Proof.Machine.execMainSwitchContactChange msaClosed msbClosed s
  | .switchDiscrepancy => Sys2Proof.Machine.execSwitchDiscrepancy s
  | .mirrorContactChange group contactorClosed => Sys2Proof.Machine.execMirrorContactChange group contactorClosed s
  | .pullinTimeout group => Sys2Proof.Machine.execPullinTimeout group s
  | .fallOut group => Sys2Proof.Machine.execFallOut group s
  | .dropoutTimeout group => Sys2Proof.Machine.execDropoutTimeout group s
  | .weldDetected group => Sys2Proof.Machine.execWeldDetected group s
  | .doorChange door isOpen => Sys2Proof.Machine.execDoorChange door isOpen s
  | .drainEnd place => Sys2Proof.Machine.execDrainEnd place s
  | .drainLimit place => Sys2Proof.Machine.execDrainLimit place s
  | .isolationComplete place => Sys2Proof.Machine.execIsolationComplete place s
  | .grantExpiry place => Sys2Proof.Machine.execGrantExpiry place s
  | .frameChecked value => Sys2Proof.Machine.execFrameChecked value s
  | .lengthAbandon value => Sys2Proof.Machine.execLengthAbandon value s
  | .gapTimeout => Sys2Proof.Machine.execGapTimeout s
  | .requestTaken => Sys2Proof.Machine.execRequestTaken s
  | .ident tag => Sys2Proof.Machine.execIdent tag s
  | .status tag => Sys2Proof.Machine.execStatus tag s
  | .restart tag => Sys2Proof.Machine.execRestart tag s
  | .trackConfig tag pitch length infeedStart infeedEnd => Sys2Proof.Machine.execTrackConfig tag pitch length infeedStart infeedEnd s
  | .cameraConfig tag camera enabled position phase classMask required deadline => Sys2Proof.Machine.execCameraConfig tag camera enabled position phase classMask required deadline s
  | .gateConfig tag gate enabled position phase width classMask window => Sys2Proof.Machine.execGateConfig tag gate enabled position phase width classMask window s
  | .fillerConfig tag entry exit approach => Sys2Proof.Machine.execFillerConfig tag entry exit approach s
  | .trackRead tag position => Sys2Proof.Machine.execTrackRead tag position s
  | .trackTally tag clear => Sys2Proof.Machine.execTrackTally tag clear s
  | .trackFlush tag => Sys2Proof.Machine.execTrackFlush tag s
  | .robotConfig tag robot zone address => Sys2Proof.Machine.execRobotConfig tag robot zone address s
  | .recipeLoad tag robot target kFactor underTol overTol minOpen afterflowMax shift settle initial => Sys2Proof.Machine.execRecipeLoad tag robot target kFactor underTol overTol minOpen afterflowMax shift settle initial s
  | .robotMode tag robot mode => Sys2Proof.Machine.execRobotMode tag robot mode s
  | .robotRead tag robot => Sys2Proof.Machine.execRobotRead tag robot s
  | .groupClose tag group => Sys2Proof.Machine.execGroupClose tag group s
  | .groupOpen tag group => Sys2Proof.Machine.execGroupOpen tag group s
  | .powerRead tag => Sys2Proof.Machine.execPowerRead tag s
  | .faultClearGate tag number => Sys2Proof.Machine.execFaultClearGate tag number s
  | .faultClearRobot tag number => Sys2Proof.Machine.execFaultClearRobot tag number s
  | .faultClearSwitch tag number => Sys2Proof.Machine.execFaultClearSwitch tag number s
  | .faultClearGroup tag number => Sys2Proof.Machine.execFaultClearGroup tag number s
  | .faultClearZone tag number => Sys2Proof.Machine.execFaultClearZone tag number s
  | .faultClearCabinet tag number => Sys2Proof.Machine.execFaultClearCabinet tag number s
  | .lineRelease tag => Sys2Proof.Machine.execLineRelease tag s
  | .grantRequest tag kind zones badge duration => Sys2Proof.Machine.execGrantRequest tag kind zones badge duration s
  | .grantEnd tag number => Sys2Proof.Machine.execGrantEnd tag number s
  | .grantExtend tag number minutes => Sys2Proof.Machine.execGrantExtend tag number minutes s
  | .grantRead tag place => Sys2Proof.Machine.execGrantRead tag place s
  | .timeSet tag seconds => Sys2Proof.Machine.execTimeSet tag seconds s
  | .timeRead tag => Sys2Proof.Machine.execTimeRead tag s
  | .counterLoad tag counter total => Sys2Proof.Machine.execCounterLoad tag counter total s
  | .counterLimits tag counter warn due margin zone => Sys2Proof.Machine.execCounterLimits tag counter warn due margin zone s
  | .counterReset tag counter => Sys2Proof.Machine.execCounterReset tag counter s
  | .counterRead tag counter => Sys2Proof.Machine.execCounterRead tag counter s
  | .eventRead tag count => Sys2Proof.Machine.execEventRead tag count s
  | .cameraClockEdge camera data kindHigh => Sys2Proof.Machine.execCameraClockEdge camera data kindHigh s
  | .cameraSelectRise camera => Sys2Proof.Machine.execCameraSelectRise camera s
  | .cameraParameterByte camera value => Sys2Proof.Machine.execCameraParameterByte camera value s
  | .rxdByteTaken value => Sys2Proof.Machine.execRxdByteTaken value s
  | .replySent => Sys2Proof.Machine.execReplySent s
  | .robotClockRelease robot => Sys2Proof.Machine.execRobotClockRelease robot s

end Sys2Proof.Machine
end

