-- ==== Sys2Proof/Safety.lean ====
section
/-! DEFINITION. Safety.lean: what the claims speak of: which parts of the state a command leaves alone, what aborted fills
leave, runs of several commands, and the properties the manual says hold of the part at every moment. -/

namespace Sys2Proof.Machine

/-! ## Frames -/

/-- The parts of the state, one for each of its fields. -/
inductive Part where
  | pins | pitch | track | cameras | gates | stops | fill | robots | doses | bus | mainSwitch | groups | access | time
  | counters | events | link | pending
  deriving DecidableEq, Repr

/-- The part has in t the value it has in s. -/
def Part.same : Part → State → State → Prop
  | .pins, s, t => t.pins = s.pins
  | .pitch, s, t => t.pitch = s.pitch
  | .track, s, t => t.track = s.track
  | .cameras, s, t => t.cameras = s.cameras
  | .gates, s, t => t.gates = s.gates
  | .stops, s, t => t.stops = s.stops
  | .fill, s, t => t.fill = s.fill
  | .robots, s, t => t.robots = s.robots
  | .doses, s, t => t.doses = s.doses
  | .bus, s, t => t.bus = s.bus
  | .mainSwitch, s, t => t.mainSwitch = s.mainSwitch
  | .groups, s, t => t.groups = s.groups
  | .access, s, t => t.access = s.access
  | .time, s, t => t.time = s.time
  | .counters, s, t => t.counters = s.counters
  | .events, s, t => t.events = s.events
  | .link, s, t => t.link = s.link
  | .pending, s, t => t.pending = s.pending

/-- From s to t every part keeps its value, but for those listed. -/
def keepsBut (changed : List Part) (s t : State) : Prop := ∀ p : Part, p ∉ changed → p.same s t

/-- Outside the position p every slot of the track keeps its record, and the head, the next ticket, the track length and
the tallies keep their values. -/
def slotsKeptBut (p : Nat) (s t : State) : Prop :=
  t.track.head = s.track.head ∧ t.track.nextTicket = s.track.nextTicket ∧ t.track.length = s.track.length
    ∧ t.track.tallies = s.track.tallies ∧ ∀ q : Nat, q < 128 → q ≠ p → t.slotAt q = s.slotAt q

/-! ## Aborted fills -/

/-- The Dose Unit's record of a robot whose job is aborted: the valve is de-energised, with its close check started if it
was energised, the window is closed, and the last fill is this one if its valve had opened (R78, R79, R104). -/
def abortedDose (s : State) (r : RobotId) (j : Job) : Dose :=
  let d := s.doses[r]
  { d with
    valve := false, window := false
    check := if d.valve = true then some 0 else d.check
    lastFill :=
      if j.opened = true then
        some
          { ticket := j.ticket, ending := .aborted, close := j.closing, flow := d.flow
            volume := fillVolume d.flow j.recipe.kFactor, fillClass := none, afterflow := none
            learning := .notLearned, estimateAfter := d.estimate }
      else d.lastFill }

/-- The slot of a job that is aborted: ABORTED, with class 14, and with the volume of the flow count if the job's valve
had opened (R17, R78). -/
def abortedSlot (s : State) (r : RobotId) (j : Job) (sl : Slot) : Slot :=
  { sl with
    fill := .aborted, defects := sl.defects ||| 0x4000
    volume :=
      if j.opened = true then
        some { tenths := min (fillVolume s.doses[r].flow j.recipe.kFactor) 65535, cut := false }
      else none }

/-- What the abort of these robots' jobs leaves of their fills: the Dose Unit's records, one fill cycle for each job
whose valve had opened, and FILL_ABORT among each robot's commands. The other robots' fills and the other counters are
kept (R78, R157). -/
def fillsAborted (aborted : RobotId → Bool) (s t : State) : Prop :=
  (∀ i : CounterId, 8 ≤ i.val → t.counters[i] = s.counters[i])
    ∧ ∀ r : RobotId,
      (aborted r = true → ∀ j ∈ s.robots[r].job,
        t.doses[r] = abortedDose s r j
          ∧ (j.opened = true →
            t.counters[cycleCounter r].total = min (s.counters[cycleCounter r].total + 1) maxLong)
          ∧ (j.opened = false → t.counters[cycleCounter r] = s.counters[cycleCounter r])
          ∧ ∃ e ∈ t.bus.queues[r].entries, e.command = .fillAbort)
        ∧ (aborted r = false ∨ s.robots[r].job = none →
          t.doses[r] = s.doses[r] ∧ t.counters[cycleCounter r] = s.counters[cycleCounter r])

/-- What the abort of these robots' jobs leaves on the track: the slot of each job is marked, by one of the jobs where
several name it, and every other slot is kept (R78). -/
def slotsAborted (aborted : RobotId → Bool) (s t : State) : Prop :=
  t.track.head = s.track.head ∧ t.track.nextTicket = s.track.nextTicket ∧ t.track.length = s.track.length
    ∧ t.track.tallies = s.track.tallies
    ∧ ∀ p : Nat, p < 128 →
      (∀ r : RobotId, aborted r = true → ∀ j ∈ s.robots[r].job, s.positionOf j.ticket = some p →
        ∃ q : RobotId, aborted q = true ∧ ∃ k ∈ s.robots[q].job,
          k.ticket = j.ticket ∧ t.slotAt p = abortedSlot s q k (s.slotAt p))
      ∧ ((∀ r : RobotId, aborted r = true → ∀ j ∈ s.robots[r].job, s.positionOf j.ticket ≠ some p) →
        t.slotAt p = s.slotAt p)

/-- From s to t the jobs of these robots are aborted: their fills and their slots are left as R78 states. -/
def jobsAborted (aborted : RobotId → Bool) (s t : State) : Prop := fillsAborted aborted s t ∧ slotsAborted aborted s t

/-! ## Runs of several commands -/

/-- Run commands one after another; a stop ends the run. -/
def runAll : List Instr → State → Result
  | [], s => .next s
  | c :: rest, s => match exec c s with
    | .next t => runAll rest t
    | .fault f => .fault f
    | .refused r => .refused r

/-! ## Properties that hold at every moment -/

/-- The track has 16 to 128 slots, and their tickets are consecutive modulo 65,536, the youngest at position 0, one below
the next ticket (R9, R12). -/
def ticketsConsecutive (s : State) : Prop :=
  16 ≤ s.track.length ∧ s.track.length ≤ 128
    ∧ ∀ p : Nat, p < s.track.length → (s.slotAt p).ticket = s.track.nextTicket - 1 - BitVec.ofNat 16 p

/-- The queue holds at most 64 records, which carry consecutive sequence numbers up to the next one, and the lost count is
within its limit (R168 to R170). -/
def eventsInOrder (s : State) : Prop :=
  s.events.queue.length ≤ 64 ∧ s.events.lost ≤ maxLong
    ∧ ∀ (k : Nat) (h : k < s.events.queue.length),
      s.events.queue[k].sequence = s.events.nextSequence - BitVec.ofNat 16 (s.events.queue.length - k)

/-- Every event raised since the last reset is delivered, in the queue or counted lost, markers and the RESTARTED record
apart (R170). -/
def accountHolds (s : State) : Prop :=
  s.events.account.overflowed = false →
    s.events.account.raised =
      s.events.account.delivered + s.events.queue.countP EventRecord.accounted + s.events.account.countedLost

/-- The robots' bus addresses lie in 1..30 and no two are equal (R62). -/
def addressesDistinct (s : State) : Prop :=
  (∀ r : RobotId, 1 ≤ s.robots[r].address ∧ s.robots[r].address ≤ 30)
    ∧ ∀ r q : RobotId, s.robots[r].address = s.robots[q].address → r = q

/-- Every counter record lies within its limits, and its state is UNLOADED or the one its total and limits give (R158,
R160, R161); only the valve-open times have a remainder (R167). -/
def countersComputed (s : State) : Prop :=
  ∀ i : CounterId,
    s.counters[i].total ≤ maxLong ∧ s.counters[i].remainder < 1000
      ∧ (s.counters[i].remainder ≠ 0 → 8 ≤ i.val ∧ i.val < 16)
      ∧ s.counters[i].warn ≤ s.counters[i].due ∧ s.counters[i].due ≤ maxLong ∧ s.counters[i].margin ≤ 50
      ∧ (s.counters[i].state = .unloaded ∨ s.counters[i].state = s.counters[i].computed)

/-- No coil is energised while the main switch is not ON (R110, R116). -/
def coilsSwitched (s : State) : Prop := ∀ g : GroupId, coil s g = true → s.mainSwitch.state = .on

/-- A robot that holds a job is in PRODUCTION and its group is CLOSED (R70, R117, R124); its valve is energised exactly
while the job is in FILLING, and its counting window is open exactly while the job is in FILLING or SETTLING (R79, R96). -/
def fillsPowered (s : State) : Prop :=
  ∀ r : RobotId,
    (∀ j : Job, s.robots[r].job = some j →
      s.robots[r].mode = .production ∧ s.groups[s.robots[r].zone].state = .closed
        ∧ (j.opened = true ↔ j.state ≠ .approach) ∧ (j.close.isSome = true ↔ j.state ≠ .approach))
      ∧ (s.doses[r].valve = true ↔ ∃ j : Job, s.robots[r].job = some j ∧ j.state = .filling)
      ∧ (s.doses[r].window = true ↔ ∃ j : Job, s.robots[r].job = some j ∧ j.state ≠ .approach)

/-- The live grants carry different numbers, none of them 0 or the next number (R129), and a JOG grant shares no zone with
a grant of another kind (R131). -/
def grantsDistinct (s : State) : Prop :=
  s.access.nextNumber ≠ 0
    ∧ ∀ (i : PlaceId) (g : Grant), s.access.grants[i] = some g →
      g.number ≠ 0 ∧ g.number ≠ s.access.nextNumber ∧ g.zones ≠ 0
        ∧ ∀ (k : PlaceId) (h : Grant), s.access.grants[k] = some h →
          (g.number = h.number → i = k) ∧ (g.kind = .jog → h.kind ≠ .jog → g.zones &&& h.zones = 0)

/-- No coil of a covered zone is energised once a ZONE_ENTRY or CABINET grant has ended its drain (R128, R135). -/
def grantedZonesUnpowered (s : State) : Prop :=
  ∀ (i : PlaceId) (g : Grant), s.access.grants[i] = some g → g.kind ≠ .jog → g.state ≠ .draining →
    ∀ z : GroupId, g.covers z = true → coil s z = false

/-- The millisecond count is 0..999 (R151). -/
def timeInRange (s : State) : Prop := s.time.ms < 1000

end Sys2Proof.Machine
end

