-- ==== Sys2Proof/Certificates/Slice0/Obligations.lean ====
section
/-! DEFINITION. Obligations.lean: what is claimed of the part, for the provers. Each docstring names the rules of the manual
a claim rests on. -/

open Sys2Proof Sys2Proof.Machine

/-! ## The queue, the resets, and what holds at every moment -/

/-- A step takes the command that has waited longest and runs it, whole, with the rest still waiting; that an empty
queue leaves the part as it is, is the model's choice (notes/assumptions/4.md). Every command is carried out or turned
away to a next state, and none touches the queue of commands. -/
def Obligations.StepRunsTheFrontCommand : Prop :=
  (∀ s : State,
     (∀ (c : Instr) (rest : List Instr), s.pending = c :: rest → step s = exec c { s with pending := rest })
       ∧ (s.pending = [] → step s = .next s))
    ∧ (∀ (c : Instr) (s : State), ∃ t : State, exec c s = .next t ∧ t.pending = s.pending)

/-- The state after reset has every property that the statements below keep, no command waits, LSTOP is asserted and ATN
is released (R60, R174). -/
def Obligations.ResetMeetsTheProperties : Prop :=
  ticketsConsecutive State.reset ∧ eventsInOrder State.reset ∧ accountHolds State.reset ∧ addressesDistinct State.reset
    ∧ countersComputed State.reset ∧ coilsSwitched State.reset ∧ fillsPowered State.reset ∧ grantsDistinct State.reset
    ∧ grantedZonesUnpowered State.reset ∧ timeInRange State.reset ∧ State.reset.pending = []
    ∧ lstop State.reset = true ∧ atnLow State.reset = false

/-- Every step keeps the slots' tickets consecutive and the track length within 16..128 (R9, R12, R15). -/
def Obligations.TicketsStayConsecutive : Prop :=
  ∀ s t : State, ticketsConsecutive s → step s = .next t → ticketsConsecutive t

/-- Every step keeps the event queue within 64 records with consecutive sequence numbers, and keeps the account of the
events raised (R168 to R172). -/
def Obligations.EventsStayAccountedFor : Prop :=
  ∀ s t : State, eventsInOrder s → accountHolds s → step s = .next t → eventsInOrder t ∧ accountHolds t

/-- Every step keeps the live grants' numbers distinct, and keeps a JOG grant from sharing a zone with a grant of
another kind (R129, R131). Every step keeps the robots' bus addresses distinct and within 1..30 (R62). -/
def Obligations.GrantsAndAddressesStayDistinct : Prop :=
  (∀ s t : State, grantsDistinct s → step s = .next t → grantsDistinct t)
    ∧ (∀ s t : State, addressesDistinct s → step s = .next t → addressesDistinct t)

/-- Every step keeps each counter record within its limits and in the state that its total and limits give (R158 to
R163). -/
def Obligations.CountersStayComputed : Prop :=
  ∀ s t : State, countersComputed s → step s = .next t → countersComputed t

/-- Every step keeps these together: no coil is energised with the main switch not ON, a job is held only by a robot in
PRODUCTION whose group is CLOSED, and a valve is energised exactly while its robot's job is in FILLING (R70, R79, R110,
R124). -/
def Obligations.FillsStayPowered : Prop :=
  ∀ s t : State, coilsSwitched s → fillsPowered s → step s = .next t → coilsSwitched t ∧ fillsPowered t

/-- Every step keeps the coils of a zone de-energised while a ZONE_ENTRY or CABINET grant that has ended its drain
covers it (R115, R135). The release of a zone door is energised exactly while some grant in OPEN or OVERDUE holds that
door and the coil of its zone is de-energised, and the release of the cabinet door exactly while some CABINET grant is
in OPEN or OVERDUE and no coil is energised (R127, R128). -/
def Obligations.GrantedZonesStayUnpowered : Prop :=
  (∀ s t : State, grantedZonesUnpowered s → step s = .next t → grantedZonesUnpowered t)
    ∧ (∀ (s : State) (z : GroupId),
        release s (zoneDoor z) = true ↔
          coil s z = false
            ∧ ∃ (i : PlaceId) (g : Grant), s.access.grants[i] = some g ∧ (g.state = .isOpen ∨ g.state = .overdue)
              ∧ (g.kind = .cabinet ∨ (g.kind = .zoneEntry ∧ g.zones.getLsbD z.val = true)))
    ∧ (∀ s : State,
        release s cabinetDoor = true ↔
          (∀ z : GroupId, coil s z = false)
            ∧ ∃ (i : PlaceId) (g : Grant), s.access.grants[i] = some g ∧ (g.state = .isOpen ∨ g.state = .overdue)
              ∧ g.kind = .cabinet)

/-! ## Rules over every command -/

/-- A coil is energised by an accepted GROUP_CLOSE of its group and by nothing else: directly, or as the oldest frame of
the buffer, of that kind and group, that REQUEST_TAKEN takes; and then every check of the rule has passed (R114, R116).
-/
def Obligations.CoilsAreEnergisedOnlyByGroupClose : Prop :=
  ∀ (c : Instr) (s t : State) (g : GroupId), exec c s = .next t → coil s g = false → coil t g = true →
    ((∃ (tag : Half) (b : Byte), c = .groupClose tag b ∧ b.toNat = g.val)
        ∨ (c = .requestTaken ∧ s.link.sending = none
          ∧ ∃ (f : Frame) (rest : List Frame) (b : Byte), s.link.buffer = f :: rest ∧ f.kind = 0x30 ∧ f.fields = [b]
            ∧ b.toNat = g.val))
      ∧ s.mainSwitch.state = .on ∧ s.pair = .onPair ∧ s.mainSwitch.latch = false ∧ locked s g = false
      ∧ s.groups[g].state = .isOpen ∧ s.counters[contactorCounter g].state ≠ .unloaded
      ∧ s.counters[contactorCounter g].state ≠ .overrun

/-- A counter's total falls only by power-on reset, or by COUNTER_RESET of that counter under a qualifying grant,
directly or as the oldest frame of the buffer that REQUEST_TAKEN takes, and then to 0 (R159, R164). -/
def Obligations.TotalsFallOnlyByReset : Prop :=
  ∀ (c : Instr) (s t : State) (i : CounterId), countersComputed s → exec c s = .next t →
    t.counters[i].total < s.counters[i].total →
    t.counters[i].total = 0
      ∧ ((∃ up baud : Bool, c = .powerOnReset up baud)
        ∨ ((qualifyingPlace s i).isSome = true
          ∧ ((∃ (tag : Half) (b : Byte), c = .counterReset tag b ∧ b.toNat = i.val)
            ∨ (c = .requestTaken ∧ s.link.sending = none
              ∧ ∃ (f : Frame) (rest : List Frame) (b : Byte), s.link.buffer = f :: rest ∧ f.kind = 0x62
                ∧ f.fields = [b] ∧ b.toNat = i.val))))

/-- A request taken with the link idle, which is with no reply still to be sent and no request waiting, is answered with
its KIND plus 0x80 and its TAG, and a request that is refused changes nothing but the reply, which carries no fields
(R6, R180, R181). A request that comes with the link not idle waits behind the others: its frame joins the receive
buffer, or is counted as overrun with two frames in it, and nothing else changes; that a request row stands for its
frame in this way is the model's reading (R178, R180, notes/assumptions/11.md). -/
def Obligations.RefusedRequestsChangeNothing : Prop :=
  ∀ (c : Instr) (f : Frame) (s t : State), requestFrame c = some f → exec c s = .next t →
    (s.link.sending = none → s.link.buffer = [] →
      ∃ reply : Reply, t.link.sending = some reply ∧ reply.kind = f.kind + 0x80 ∧ reply.tag = f.tag
        ∧ (reply.code ≠ .ok → reply.fields = [] ∧ t = { s with link := { s.link with sending := some reply } }))
      ∧ (s.link.sending ≠ none ∨ s.link.buffer ≠ [] →
        (s.link.buffer.length < 2 → t = { s with link := { s.link with buffer := s.link.buffer ++ [f] } })
        ∧ (2 ≤ s.link.buffer.length →
          t = { s with link := { s.link with overrunErrors := min (s.link.overrunErrors + 1) 65535 } }))

/-- What every change that may concern a grant or a held robot is followed by: every place judges its grant's drain and
then its isolation, in increasing index, and then every robot is judged for RELEASE, in increasing number (R88, R133,
R135, R136); that one such judging, in this order, follows every change that may concern them is the model's reading
(notes/assumptions/17.md). RELEASE is raised for a held robot that is available and has none queued or waiting, and a
robot is available by the eight conditions of R70 (R70, R88). The judging ends no fill: it touches robots, queued
commands, groups, grants and events alone; and with no live grant and no held robot available it changes nothing. That a
RELEASE still waiting for a place counts as queued is the model's choice (notes/assumptions/51.md). -/
def Obligations.SettlingEndsNoFill : Prop :=
  (∀ s : State,
     settle s =
         forEach (allUnits 8) judgeRelease (forEach (allUnits 8) (fun i t => judgeIsolation i (judgeDrain i t)) s)
       ∧ keepsBut [.robots, .bus, .groups, .access, .events] s (settle s)
       ∧ (∀ r : RobotId, (settle s).robots[r].job = s.robots[r].job)
       ∧ ((∀ i : PlaceId, s.access.grants[i] = none) →
         (∀ r : RobotId, s.robots[r].held = true → available s r = false) → settle s = s))
    ∧ (∀ (r : RobotId) (s : State),
        (s.robots[r].held = true → available s r = true → (∀ e ∈ s.bus.queues[r].entries, e.command ≠ .release) →
          judgeRelease r s = raiseCommand r .release s)
          ∧ (s.robots[r].held = false ∨ available s r = false
              ∨ (∃ e ∈ s.bus.queues[r].entries, e.command = .release) →
            judgeRelease r s = s)
          ∧ (available s r = true ↔
            s.robots[r].mode = .production ∧ s.robots[r].armed = true ∧ s.robots[r].job = none
              ∧ s.groups[s.robots[r].zone].state = .closed ∧ s.mainSwitch.state = .on
              ∧ (s.access.zoneLatch[s.robots[r].zone] = false
                ∧ ∀ (i : PlaceId) (g : Grant), s.access.grants[i] = some g →
                  g.zones.getLsbD s.robots[r].zone.val = false)
              ∧ s.counters[cycleCounter r].state ≠ .overrun ∧ s.counters[valveCounter r].state ≠ .overrun
              ∧ s.robots[r].lastStatus = some .retracted))

/-! ## The link as an encoding -/

/-- The bytes of a frame, taken one after another from HUNT with room in the buffer, put exactly that frame at the end
of the buffer and leave the receiver in HUNT (R176, R178, 10.2). -/
def Obligations.FrameBytesReachTheBuffer : Prop :=
  ∀ (f : Frame) (s : State), f.fields.length ≤ 237 → s.link.receiver = .hunt → s.link.gap = none →
    s.link.buffer.length < 2 →
    runAll (f.bytes.map Instr.rxdByteTaken) s = .next { s with link := { s.link with buffer := s.link.buffer ++ [f] } }

/-- The frame in which the host sends a request reaches the rule that owns it with every field at its value: taking the
buffered frame does what the request does with the link idle, and leaves the frames behind it waiting, but for RESTART,
which empties the buffer (R180 to R182, R185, R187, 11.1). -/
def Obligations.RequestFramesReachTheirRule : Prop :=
  ∀ (c : Instr) (f : Frame) (rest : List Frame) (s : State), requestFrame c = some f → s.link.sending = none →
    s.link.buffer = f :: rest →
    ∃ t : State, exec c { s with link := { s.link with buffer := [] } } = .next t
      ∧ exec .requestTaken s =
        .next (if f.kind = 0x03 then t else { t with link := { t.link with buffer := rest } })

/-! ## Resets and time -/

/-- Power-on reset, and RESTART taken with the link idle. With every door closed: every block takes its reset state, the
switch and the mirror contacts are read, and RESTART keeps machine time, the counter table and the link rate, enters one
RESTARTED record and answers (R5, R113, R125, R151, R152, R166, R174, R175, R185). Both resets read the doors: an open
zone door sets its zone's latch, an open DOORC sets every latch, adds CABINET_INTRUSION and raises a broadcast HOLD,
every INTRUSION they raise carries 2, and no grant survives (R149). That a robot still holding RBCLK is forgotten at a
reset is the model's choice (notes/assumptions/46.md). -/
def Obligations.ResetsReadThePins : Prop :=
  (∀ s : State, (∀ d : DoorId, s.pins.doors[d] = false) →
     let read : State :=
       { State.reset with
         pins := s.pins
         pending := s.pending
         mainSwitch :=
           { state := if s.pins.msa = true ∧ s.pins.msb = false then .on else .off
             alike := if s.pins.msa = s.pins.msb then some 0 else none
             latch := false }
         groups := Vector.ofFn fun g : GroupId =>
           { state := .isOpen, timer := if s.pins.mirror[g] = true then some 0 else none } }
     (∀ powerUp baudHigh : Bool,
       exec (.powerOnReset powerUp baudHigh) s = .next
         { read with
           time := { State.reset.time with ms := if powerUp = true then 0 else s.time.ms }
           link := Link.reset baudHigh })
       ∧ ∀ tag : Half, s.linkIdle = true →
         exec (.restart tag) s = .next
           { read with
             time := { s.time with staged := none, uptime := 0, ahead := [] }
             counters := s.counters
             events :=
               { queue :=
                   [{ sequence := 0, seconds := s.time.seconds, ms := s.time.ms, valid := s.time.valid
                      kind := .restarted, unit := 0
                      detail1 := BitVec.ofNat 16 (min s.events.queue.length 65535)
                      detail2 := BitVec.ofNat 16 (min s.events.lost 65535) }]
                 nextSequence := 1, lost := 0, account := Account.zero }
             link :=
               { Link.reset s.link.fast with
                 sending := some { kind := 0x83, tag := tag, code := .ok, fields := [] } } })
    ∧ (∀ (s : State) (c : Instr),
        ((∃ powerUp baudHigh : Bool, c = .powerOnReset powerUp baudHigh) ∨ (s.linkIdle = true ∧ ∃ tag : Half, c = .restart tag)) →
        ∃ t : State, exec c s = .next t
          ∧ (∀ z : GroupId, t.access.zoneLatch[z] = (s.pins.doors[zoneDoor z] || s.pins.doors[cabinetDoor]))
          ∧ t.access.cabinetLatch = s.pins.doors[cabinetDoor] ∧ t.access.grants = Vector.replicate 8 none
          ∧ t.access.nextNumber = 1
          ∧ t.stops = { State.reset.stops with cabinetIntrusion := s.pins.doors[cabinetDoor] }
          ∧ t.bus = { State.reset.bus with broadcast := s.pins.doors[cabinetDoor] }
          ∧ (∀ e : EventRecord, e ∈ t.events.queue → e.kind = .intrusion → e.detail1 = 2)
          ∧ (t.events.queue.countP fun e => e.kind == .intrusion) =
            (if s.pins.doors[cabinetDoor] = true then 5 else (allUnits 4).countP fun z => s.pins.doors[zoneDoor z])
          ∧ t.pins = s.pins
          ∧ keepsBut [.pins, .mainSwitch, .groups, .access, .stops, .bus, .time, .counters, .events, .link, .pending]
            State.reset t)

/-- The tick adds one to the millisecond count; at 999 it is the seconds rollover, which brings the staged time or one
more second, and one more second of uptime, whatever else the tick does, and removes the staged time. The event TIME_SET
carries the old seconds and the new stamp (R151 to R155); that it is the first of the events of its tick is the model's
choice, as is the order of what falls at one tick (notes/assumptions/5.md, 36.md, 43.md). SECONDS_ROLLOVER is that tick,
and at any other count it changes nothing, which is the model's choice (notes/assumptions/3.md). TIME_SET, taken with
the link idle, stages its value in place of any staged before, answers with the time as it stands and the staged value,
and changes no time (R154). -/
def Obligations.TickKeepsMachineTime : Prop :=
  (∀ s : State,
     (s.time.ms < 999 → ∃ t : State, exec .msTick s = .next t
       ∧ t.time = { s.time with ms := s.time.ms + 1, ahead := [] })
       ∧ (s.time.ms = 999 → ∃ t : State, exec .msTick s = .next t ∧ exec .secondsRollover s = .next t
         ∧ t.time =
           { ms := 0, seconds := s.time.staged.getD (s.time.seconds + 1)
             valid := s.time.valid || s.time.staged.isSome, staged := none, uptime := s.time.uptime + 1, ahead := [] }
         ∧ (∀ v : Long, s.time.staged = some v → s.events.queue.length < 64 →
           t.events.queue[s.events.queue.length]? =
             some
               { sequence := s.events.nextSequence, seconds := v, ms := 0, valid := true, kind := .timeSet, unit := 0
                 detail1 := s.time.seconds.setWidth 16, detail2 := (s.time.seconds >>> 16).setWidth 16 }))
       ∧ (s.time.ms ≠ 999 → exec .secondsRollover s = .next s))
    ∧ (∀ s : State,
        ∀ (tag : Half) (seconds : Long), s.linkIdle = true →
          exec (.timeSet tag seconds) s = .next
            (accept 0x50 tag
              (byte4 s.time.seconds.toNat ++ byte2 s.time.ms ++ byte1 s.time.valid.toNat ++ byte4 seconds.toNat)
              { s with time := { s.time with staged := some seconds } }))

/-- A tick that brings no timer to its limit, ends no second and finds no grant whose drain or isolation is decided
advances every running timer by one and changes nothing else: silence with RUN high, gate pulses toward their end,
no-flow and settle timers, valve checks, poll timers of robots that are not OFF, alike and supervision timers, the drain
timers of the grants in DRAINING, valve-open milliseconds and the gap timer (R34, R51, R77, R79, R80, R86, R97, R109,
R114, R133, R134, R151, R158, R177). -/
def Obligations.QuietTickAdvancesTimers : Prop :=
  ∀ s : State,
    s.time.ms < 999 → s.time.ahead = [] →
    (∀ n : CameraId, s.cameras[n].silence < 1999) →
    (∀ (g : GateId) (left : Nat), s.gates[g].output = some left → 2 ≤ left) →
    (∀ (r : RobotId) (j : Job), s.robots[r].job = some j → j.noFlowTimer < 199 ∧ j.settleTimer + 1 < j.recipe.settle) →
    (∀ r : RobotId, s.robots[r].pollTimer < 4) →
    (∀ (r : RobotId) (ms : Nat), s.doses[r].check = some ms → ms < 49) →
    (∀ r : RobotId, s.doses[r].check = none → s.pins.feedback[r] = s.doses[r].valve) →
    (∀ r : RobotId, s.counters[valveCounter r].remainder < 999) →
    (∀ ms : Nat, s.mainSwitch.alike = some ms → ms < 30) →
    (∀ (g : GroupId) (ms : Nat), s.groups[g].timer = some ms → ms < 30) →
    (∀ (i : PlaceId) (g : Grant), s.access.grants[i] = some g →
      (g.state = .draining →
        g.drainTimer < 9999 ∧ ∃ r : RobotId, g.covers s.robots[r].zone = true ∧ s.robots[r].job ≠ none)
      ∧ (g.kind ≠ .jog →
        (g.state = .isolating ∨ g.state = .isOpen ∨ g.state = .overdue →
          ∀ z : GroupId, g.covers z = true → s.groups[z].state ≠ .faultWeld)
        ∧ (g.state = .isolating →
          ∃ z : GroupId, g.covers z = true ∧ s.groups[z].state ≠ .isOpen
            ∧ (s.groups[z].state ≠ .faultPullin ∨ s.pins.mirror[z] = true)))) →
    (∀ r : RobotId, s.robots[r].held = true → available s r = false) →
    (∀ ms : Nat, s.link.gap = some ms → ms < 3) →
    exec .msTick s = .next
      { s with
        time := { s.time with ms := s.time.ms + 1 }
        cameras := Vector.ofFn fun n : CameraId =>
          { s.cameras[n] with
            silence :=
              if s.pins.run = true ∧ (s.cameras[n].state = .ready ∨ s.cameras[n].state = .notReady) then
                s.cameras[n].silence + 1
              else s.cameras[n].silence }
        gates := Vector.ofFn fun g : GateId =>
          { s.gates[g] with output := s.gates[g].output.map fun left => left - 1 }
        robots := Vector.ofFn fun r : RobotId =>
          { s.robots[r] with
            pollTimer := if s.robots[r].mode = .off then s.robots[r].pollTimer else s.robots[r].pollTimer + 1
            job := s.robots[r].job.map fun j =>
              { j with
                noFlowTimer := if j.state = .filling then j.noFlowTimer + 1 else j.noFlowTimer
                settleTimer := if j.state = .settling then j.settleTimer + 1 else j.settleTimer } }
        doses := Vector.ofFn fun r : RobotId => { s.doses[r] with check := s.doses[r].check.map fun ms => ms + 1 }
        mainSwitch := { s.mainSwitch with alike := s.mainSwitch.alike.map fun ms => ms + 1 }
        groups := Vector.ofFn fun g : GroupId => { s.groups[g] with timer := s.groups[g].timer.map fun ms => ms + 1 }
        access :=
          { s.access with
            grants := Vector.ofFn fun i : PlaceId => s.access.grants[i].map fun g =>
              { g with drainTimer := if g.state = .draining then g.drainTimer + 1 else g.drainTimer } }
        counters := Vector.ofFn fun i : CounterId =>
          { s.counters[i] with
            remainder :=
              if ∃ r : RobotId, i = valveCounter r ∧ s.doses[r].valve = true then s.counters[i].remainder + 1
              else s.counters[i].remainder }
        link := { s.link with gap := s.link.gap.map fun ms => ms + 1 } }

/-! ## The conveyor, the pitch and the track -/

/-- A counted edge with the counter below P−1 adds one to the counter, samples INF for the infeed flag inside the
window, both ends included, and then lets the two gates and after them the six cameras act on the phase that is reached
(R1, R2, R14, R37, R50; the gates' and the cameras' part is stated in PhasesTriggerAndFire, and that the gates come
first is the model's choice, notes/assumptions/7.md). With no gate's fire and no camera's slot at that phase, nothing
else changes. A fall of RUN closes the run window and keeps everything else; with RUN low no edge is counted, and a rise
of RUN or a stray edge that finds it high changes nothing, which are the model's choice (R4, notes/assumptions/3.md).
With RUN low an ENC edge is a stray edge: it changes neither the pitch counter nor the infeed flag, the first of a
stopped period sets the stray flag and raises STRAY_MOTION with the counter value held, a further one changes nothing,
and the rise of RUN clears the flag, after which the edges are counted (R3). -/
def Obligations.CountedEdgesAdvanceThePitch : Prop :=
  (∀ (s : State) (inf : Bool), s.pins.run = true → s.pitch.counter + 1 < s.pitch.length →
     let sampled : State :=
       { s with pitch :=
           { s.pitch with
             counter := s.pitch.counter + 1
             infeed :=
               s.pitch.infeed || (inf && decide (s.pitch.windowStart ≤ s.pitch.counter + 1)
                 && decide (s.pitch.counter + 1 ≤ s.pitch.windowEnd)) } }
     exec (.encCountedEdge inf) s =
         .next (forEach (allUnits 6) triggerAt (forEach (allUnits 2) fireAt sampled))
       ∧ ((∀ g : GateId, s.gates[g].cfg.phase = s.pitch.counter + 1 →
           s.gates[g].pendingFire = none ∨ s.gates[g].cfg.enabled = false) →
         (∀ n : CameraId, s.cameras[n].cfg.phase = s.pitch.counter + 1 →
           (s.slotAt s.cameras[n].cfg.position).awaits n = false ∨ s.cameras[n].cfg.enabled = false) →
         exec (.encCountedEdge inf) s = .next sampled))
    ∧ (∀ s : State,
        exec .runFall s = .next { s with pins := { s.pins with run := false } }
          ∧ (s.pins.run = false → ∀ inf : Bool, exec (.encCountedEdge inf) s = .next s)
          ∧ (s.pins.run = true → exec .runRise s = .next s ∧ exec .strayEdge s = .next s))
    ∧ (∀ s : State, s.pins.run = false →
        (s.pitch.stray = false →
          exec .strayEdge s = .next
            (raiseEvent .strayMotion 0 (detail s.pitch.counter) 0 { s with pitch := { s.pitch with stray := true } }))
          ∧ (s.pitch.stray = true → exec .strayEdge s = .next s)
          ∧ exec .runRise s = .next
            { s with pins := { s.pins with run := true }, pitch := { s.pitch with stray := false } })

/-- The counted edge that completes a pitch brings the counter to 0 and makes a boundary: every staged setting becomes
active, every slot below L−1 moves on by one position with its ticket and its occupancy, the new slot at position 0 has
the next ticket and is OCCUPIED exactly if the infeed flag was set, the flag starts the new pitch from the sample at
phase 0, and the created tallies rise (R1, R7, R13 to R15). It is the staged values, the advance, then the cameras, the
gates and the filler, each in its own stages, and last what reaches its phase at 0 (R2, R13, R39, R42, R36, R48, R76,
R75, R70, R73; their parts are stated in ArrivalsAreTakenAtTheBoundary and FillEntryAssignsOrSkips). That the cameras
come before the gates and the gates before the filler at the boundary, the gates before the cameras at a phase, and gate
A's fire that was not made is dropped before gate B's, is the model's choice (notes/assumptions/7.md, 37.md); that the
grants are judged once after each kind of limit, and the held robots once after arming, is its reading
(notes/assumptions/17.md). -/
def Obligations.BoundaryAdvancesTheTrack : Prop :=
  ∀ (s : State) (inf : Bool), s.pins.run = true → s.pitch.counter + 1 = s.pitch.length → s.track.length ≤ 128 →
    let advanced : State := advance (activateStaged { s with pitch := { s.pitch with counter := 0 } })
    let seen : State :=
      forEach (allUnits 6) arriveAt
        (forEach (allUnits 6) deadlineCheck (forEach (allUnits 6) neverTriggered advanced))
    let judged : State :=
      forEach (allUnits 2) judgeSlot
        (forEach (allUnits 2) expireConfirm
          (forEach (allUnits 2) ageConfirm (forEach (allUnits 2) dropPending seen)))
    let left : State := judgeGrants (forEach (allUnits 8) exitLimit judged)
    let late : State := judgeGrants (forEach (allUnits 8) approachLimit left)
    let served : State := assignEntry (judgeReleases (forEach (allUnits 8) armRobot late))
    ∃ t : State, exec (.encCountedEdge inf) s = .next t
      ∧ t =
        forEach (allUnits 6) triggerAt
          (forEach (allUnits 2) fireAt
            { served with pitch := { served.pitch with infeed := inf && decide (s.pitch.windowStart = 0) } })
      ∧ t.pitch =
        { s.pitch with counter := 0, infeed := inf && decide (s.pitch.windowStart = 0) }
      ∧ t.track.nextTicket = s.track.nextTicket + 1 ∧ t.track.length = s.track.length
      ∧ (t.slotAt 0).ticket = s.track.nextTicket
      ∧ (t.slotAt 0).occupancy = (if s.pitch.infeed = true then .occupied else .empty)
      ∧ (∀ p : Nat, p + 1 < s.track.length →
        (t.slotAt (p + 1)).ticket = (s.slotAt p).ticket ∧ (t.slotAt (p + 1)).occupancy = (s.slotAt p).occupancy)
      ∧ t.track.tallies.created = min (s.track.tallies.created + 1) maxLong
      ∧ t.track.tallies.createdOccupied =
        (if s.pitch.infeed = true then min (s.track.tallies.createdOccupied + 1) maxLong
          else s.track.tallies.createdOccupied)
      ∧ t.track.tallies.rejectedConfirmed = s.track.tallies.rejectedConfirmed
      ∧ (∀ n : CameraId, t.cameras[n].staged = CameraStaged.absent
        ∧ t.cameras[n].cfg =
          { s.cameras[n].cfg with
            phase := s.cameras[n].staged.phase.getD s.cameras[n].cfg.phase
            mask := s.cameras[n].staged.mask.getD s.cameras[n].cfg.mask
            required := s.cameras[n].staged.required.getD s.cameras[n].cfg.required
            deadline := s.cameras[n].staged.deadline.getD s.cameras[n].cfg.deadline })
      ∧ (∀ g : GateId, t.gates[g].staged = GateStaged.absent
        ∧ t.gates[g].cfg =
          { s.gates[g].cfg with
            phase := s.gates[g].staged.phase.getD s.gates[g].cfg.phase
            width := s.gates[g].staged.width.getD s.gates[g].cfg.width
            mask := s.gates[g].staged.mask.getD s.gates[g].cfg.mask
            window := s.gates[g].staged.window.getD s.gates[g].cfg.window })
      ∧ keepsBut [.pitch, .track, .cameras, .gates, .stops, .robots, .doses, .bus, .groups, .access, .counters, .events]
        s t

/-- What the boundary does at a camera. An OCCUPIED slot that has arrived at the position of an enabled camera gains its
AWAITED entry at the end of the verdict list, MISSING at once with UNVERIFIED for a required camera where the camera is
not READY; that an entry which an earlier position of the camera left gives way is the model's reading (R17, R35, R36,
notes/assumptions/21.md). A slot one past the position of an enabled camera that has no outstanding entry has its
AWAITED entry made MISSING (R39). At a gate. A pending fire of an enabled gate that was not made is dropped with reason
2; every confirm entry ages by one; and the OCCUPIED slot at the position of an enabled gate that has a class of its
mask or is to be rejected already gets this gate as its deciding gate and is its pending fire (R48, R49). With another
slot, or a disabled camera or gate, each of these changes nothing. -/
def Obligations.ArrivalsAreTakenAtTheBoundary : Prop :=
  (∀ (n : CameraId) (s : State),
     let c := s.cameras[n]
     let p := c.cfg.position
     let sl := s.slotAt p
     let others := sl.verdicts.filter fun e => decide (e.camera ≠ n)
     let arrived := c.cfg.enabled = true ∧ p < s.track.length ∧ sl.occupancy = .occupied
     (arrived → c.state = .ready →
       arriveAt n s = putSlot p { sl with verdicts := others ++ [{ camera := n, verdict := .awaited }] } s)
       ∧ (arrived → c.state ≠ .ready →
         arriveAt n s =
           putSlot p
             { sl with
               verdicts := others ++ [{ camera := n, verdict := .missing }]
               defects := if c.cfg.required = true then sl.defects ||| 0x8000 else sl.defects } s)
       ∧ (¬ arrived → arriveAt n s = s))
    ∧ (∀ (n : CameraId) (s : State),
        let c := s.cameras[n]
        let p := c.cfg.position + 1
        let passed := c.cfg.enabled = true ∧ p < s.track.length ∧ ∀ o ∈ c.outstanding, o.ticket ≠ (s.slotAt p).ticket
        (passed → neverTriggered n s = putSlot p ((s.slotAt p).miss n c.cfg.required) s)
          ∧ (¬ passed → neverTriggered n s = s))
    ∧ (∀ (g : GateId) (s : State),
        let gt := s.gates[g]
        let p := gt.cfg.position
        let sl := s.slotAt p
        let chosen := gt.cfg.enabled = true ∧ p < s.track.length ∧ sl.occupancy = .occupied
          ∧ (sl.defects &&& gt.cfg.mask ≠ 0 ∨ sl.decision ≠ none)
        (∀ t : Half, gt.pendingFire = some t → gt.cfg.enabled = true →
          dropPending g s = unconfirm g .notFired t { s with gates := s.gates.set g { gt with pendingFire := none } })
          ∧ (gt.pendingFire = none ∨ gt.cfg.enabled = false → dropPending g s = s)
          ∧ ageConfirm g s =
            { s with
              gates := s.gates.set g
                { gt with confirm := gt.confirm.map fun e => { ticket := e.ticket, age := e.age + 1 } } }
          ∧ (chosen →
            judgeSlot g s =
              putSlot p { sl with decision := some g }
                { s with gates := s.gates.set g { gt with pendingFire := some sl.ticket } })
          ∧ (¬ chosen → judgeSlot g s = s))

/-- What the boundary does at fill entry. A robot in PRODUCTION whose group is CLOSED is armed, and no other changes
(R70). An OCCUPIED slot with decision NONE at e goes to the lowest-numbered available robot: the staged recipe becomes
active first, and its estimate is kept, within the new limit, only where target and K-factor stay; the slot becomes
PENDING with its fill robot and no volume, the job is created in APPROACH with the slot's ticket and the active recipe,
and FILL_START is raised (R17, R73, R92, R93). With no robot available the slot becomes SKIPPED with class 14, no fill
robot and no volume, and the fills-skipped tally rises (R17, R20, R73). Any other slot changes nothing. -/
def Obligations.FillEntryAssignsOrSkips : Prop :=
  (∀ (r : RobotId) (s : State),
     (s.robots[r].mode = .production → s.groups[s.robots[r].zone].state = .closed →
       armRobot r s = { s with robots := s.robots.set r { s.robots[r] with armed := true } })
       ∧ (s.robots[r].mode ≠ .production ∨ s.groups[s.robots[r].zone].state ≠ .closed → armRobot r s = s))
    ∧ (∀ s : State, ticketsConsecutive s → s.fill.entry < s.track.length →
        let e := s.fill.entry
        let sl := s.slotAt e
        (sl.occupancy = .occupied → sl.decision = none →
          (∀ (r : RobotId) (recipe : Recipe), available s r = true → (∀ q : RobotId, q < r → available s q = false) →
            let d := s.doses[r]
            let given (dose : Dose) : State :=
              raiseCommand r (.fillStart sl.ticket)
                (putSlot e { sl with fill := .pending, robot := some r, volume := none }
                  { s with
                    doses := s.doses.set r dose
                    robots := s.robots.set r
                      { s.robots[r] with
                        job := some
                          { ticket := sl.ticket, state := .approach, opened := false, recipe := recipe, close := none
                            settleTimer := 0, noFlowTimer := 0 } } })
            (d.staged = none → d.active = some recipe → assignEntry s = given d)
            ∧ (∀ old : Recipe, d.staged = some recipe → d.active = some old →
              assignEntry s =
                given
                  { d with
                    active := some recipe, staged := none
                    estimate :=
                      if old.target = recipe.target ∧ old.kFactor = recipe.kFactor then
                        min d.estimate (16 * recipe.afterflowMax)
                      else 16 * recipe.initial })
            ∧ (d.staged = some recipe → d.active = none →
              assignEntry s =
                given { d with active := some recipe, staged := none, estimate := 16 * recipe.initial }))
          ∧ ((∀ r : RobotId, available s r = false) →
            ∃ t : State, assignEntry s = t
              ∧ t.slotAt e =
                { sl with fill := .skipped, robot := none, volume := none, defects := sl.defects ||| 0x4000 }
              ∧ (∀ q : Nat, q < 128 → q ≠ e → t.slotAt q = s.slotAt q)
              ∧ t.track.tallies =
                { s.track.tallies with fillsSkipped := min (s.track.tallies.fillsSkipped + 1) maxLong }
              ∧ t.track.head = s.track.head ∧ t.track.nextTicket = s.track.nextTicket
              ∧ t.track.length = s.track.length ∧ keepsBut [.track] s t))
          ∧ (sl.occupancy ≠ .occupied ∨ sl.decision ≠ none → assignEntry s = s))

/-- The discharge of a slot, by its occupancy and decision: an OCCUPIED slot with decision REJECT raises ESCAPE with its
deciding gate, ticket and defect set, sets the ESCAPE cause and counts as escaped; an OCCUPIED slot with decision NONE
counts as accepted, and as passed with defects if it has any; a REMOVED or EMPTY slot changes nothing (R18, R19, R58).
Before a slot is judged its outstanding entries leave the cameras' lists and their numbers become late, and its confirm
entries leave as rejects not confirmed with reason 1, gate A's first (R18, R41, R43, R55); the late list holds 16
numbers at most, the newest last (R41). A longer track gains EMPTY slots at the discharge end with consecutive tickets,
and a shorter one loses its last slots by discharge, one position after another from the highest down; the slots that
stay keep their records, and the head and the next ticket keep their values (R11). -/
def Obligations.DischargeAndLengthChange : Prop :=
  (∀ (s : State) (sl : Slot),
     (∀ g : GateId, sl.occupancy = .occupied → sl.decision = some g →
       judgeLeaving sl s =
         (let told := raiseEvent .escape g.val sl.ticket sl.defects s
         { told with
           stops := { s.stops with escape := true }
           track := { s.track with tallies :=
             { s.track.tallies with escapes := min (s.track.tallies.escapes + 1) maxLong } } }))
       ∧ (sl.occupancy = .occupied → sl.decision = none →
         judgeLeaving sl s =
           { s with track := { s.track with tallies :=
               { s.track.tallies with
                 accepted := min (s.track.tallies.accepted + 1) maxLong
                 passedDefects :=
                   if sl.defects = 0 then s.track.tallies.passedDefects
                   else min (s.track.tallies.passedDefects + 1) maxLong } } })
       ∧ (sl.occupancy = .removed ∨ sl.occupancy = .empty → judgeLeaving sl s = s))
    ∧ (∀ (s : State) (p : Nat),
        let t := (s.slotAt p).ticket
        let retired : State :=
          { s with
            cameras := Vector.ofFn fun n : CameraId =>
              { s.cameras[n] with
                outstanding := s.cameras[n].outstanding.filter fun o => decide (o.ticket ≠ t)
                late :=
                  ((s.cameras[n].outstanding.filter fun o => decide (o.ticket = t)).map Outstanding.number).foldl addLate
                    s.cameras[n].late } }
        let expired (g : GateId) (u : State) : State :=
          if (u.gates[g].confirm.any fun e => e.ticket == t) = true then
            unconfirm g .discharged t
              { u with
                gates := u.gates.set g
                  { u.gates[g] with confirm := u.gates[g].confirm.filter fun e => decide (e.ticket ≠ t) } }
          else u
        discharge p s = judgeLeaving ((expired 1 (expired 0 retired)).slotAt p) (expired 1 (expired 0 retired)))
    ∧ (∀ (late : List Byte) (number : Byte),
        addLate late number = (if late.length < 16 then late else late.drop 1) ++ [number])
    ∧ (∀ (s : State) (l : Nat), l ≤ 128 → s.track.length ≤ 128 →
        let t := changeLength l s
        t.track.length = l ∧ t.track.head = s.track.head ∧ t.track.nextTicket = s.track.nextTicket
          ∧ (ticketsConsecutive s → ∀ p : Nat, p < l → p < s.track.length → t.slotAt p = s.slotAt p)
          ∧ (l = s.track.length → t = s)
          ∧ keepsBut [.track, .cameras, .gates, .stops, .events] s t
          ∧ (l + 1 < s.track.length → t = changeLength l (changeLength (s.track.length - 1) s))
          ∧ (s.track.length ≤ l →
            (∀ p : Nat, p < s.track.length → t.slotAt p = s.slotAt p)
              ∧ (0 < s.track.length → ∀ p : Nat, s.track.length ≤ p → p < l →
                t.slotAt p = Slot.fresh ((s.slotAt 0).ticket - BitVec.ofNat 16 p))
              ∧ keepsBut [.track] s t)
          ∧ (l + 1 = s.track.length →
            t = { discharge l s with track := { (discharge l s).track with length := l } }))

/-! ## Cameras and gates at their phases -/

/-- When a camera's phase is reached while its slot waits for it and has no outstanding entry: READY with an OCCUPIED
slot and fewer than 16 outstanding entries, TRGn is pulsed, the number leaves the late list, the entry joins the
outstanding list, the trigger number advances and one trigger is counted; with 16 entries the slot's entry is made
MISSING and TRIGGER_OVERRUN is raised; with the camera not READY the entry is made MISSING; with the slot REMOVED
nothing happens (R37, R38). At any other moment nothing happens (R2). When a gate's phase is reached while a fire is
pending: the fire is no longer pending, the slot becomes FIRED, its ticket joins the confirm list with age 0, the output
is energised for the active width, also where it still was from an earlier fire, and one actuation is counted; at any
other moment nothing happens (R2, R50, R51). -/
def Obligations.PhasesTriggerAndFire : Prop :=
  (∀ (n : CameraId) (s : State),
     let c := s.cameras[n]
     let sl := s.slotAt c.cfg.position
     let reached := c.cfg.enabled = true ∧ s.pitch.counter = c.cfg.phase ∧ c.cfg.position < s.track.length
       ∧ sl.awaits n = true ∧ c.hasOutstanding sl.ticket = false
     (reached → c.state = .ready → sl.occupancy = .occupied → c.outstanding.length < 16 →
       triggerAt n s = countOn (cameraCounter n)
         { s with
           cameras := s.cameras.set n
             { c with
               pulse := true, late := c.late.filter fun m => m != c.trigger
               outstanding := c.outstanding ++ [{ number := c.trigger, ticket := sl.ticket }]
               trigger := c.trigger + 1 } })
       ∧ (reached → c.state = .ready → sl.occupancy = .occupied → 16 ≤ c.outstanding.length →
         triggerAt n s = raiseEvent .triggerOverrun n.val sl.ticket (c.trigger.setWidth 16)
           (editSlotAt c.cfg.position (fun sl => sl.miss n c.cfg.required) s))
       ∧ (reached → c.state ≠ .ready →
         triggerAt n s = editSlotAt c.cfg.position (fun sl => sl.miss n c.cfg.required) s)
       ∧ (reached → c.state = .ready → sl.occupancy ≠ .occupied → triggerAt n s = s)
       ∧ (¬ reached → triggerAt n s = s))
    ∧ (∀ (g : GateId) (t : Half) (p : Nat) (s : State),
        (s.gates[g].pendingFire = some t → s.positionOf t = some p → s.gates[g].cfg.enabled = true →
          s.pitch.counter = s.gates[g].cfg.phase →
          fireAt g s = countOn (gateCounter g)
            { editSlotAt p (fun sl => { sl with reject := .fired }) s with
              gates := s.gates.set g
                { s.gates[g] with
                  pendingFire := none, output := some s.gates[g].cfg.width
                  confirm := s.gates[g].confirm ++ [{ ticket := t, age := 0 }] } })
          ∧ (s.gates[g].pendingFire = none ∨ s.gates[g].cfg.enabled = false ∨ s.pitch.counter ≠ s.gates[g].cfg.phase →
            fireAt g s = s))

/-! ## Cameras -/

/-- Making an entry MISSING settles the camera's AWAITED entry and adds UNVERIFIED exactly if the camera is required;
the ticket, the occupancy, the fill, the decision and the other cameras' entries keep their values, and neither a
REMOVED slot nor one without an AWAITED entry of the camera is marked (R35). VERDICT_DEADLINE: every slot at or beyond c
+ d that still awaits the camera is made MISSING, its outstanding entry is removed and its number joins the late list at
the end, of 16 the oldest being removed first (R41), so that the numbers it adds are in the list afterwards unless more
than 16 entries were outstanding; the camera's state, trigger number and settings, every other slot and every other
camera are kept. That the slot farthest downstream comes first is the model's reading (notes/assumptions/31.md). A
disabled camera has no deadline (R42). -/
def Obligations.MissingAndDeadline : Prop :=
  (∀ (sl : Slot) (n : CameraId) (required : Bool),
     (sl.occupancy = .removed → sl.miss n required = sl)
       ∧ ((∀ e ∈ sl.verdicts, e.camera = n → e.verdict ≠ .awaited) → sl.miss n required = sl)
       ∧ (sl.occupancy ≠ .removed → (∃ e ∈ sl.verdicts, e.camera = n ∧ e.verdict = .awaited) →
         sl.miss n required =
           { sl with
             verdicts := sl.verdicts.map fun e =>
               if e.camera = n ∧ e.verdict = .awaited then { camera := n, verdict := .missing } else e
             defects := if required = true then sl.defects ||| 0x8000 else sl.defects }))
    ∧ (∀ (n : CameraId) (s : State), ticketsConsecutive s →
        (s.cameras[n].cfg.enabled = false → exec (.verdictDeadline n) s = .next s)
          ∧ (s.cameras[n].cfg.enabled = true →
            ∃ t : State, exec (.verdictDeadline n) s = .next t
              ∧ (∀ p : Nat, p < s.track.length →
                t.slotAt p =
                  if s.cameras[n].cfg.position + s.cameras[n].cfg.deadline ≤ p then
                    (s.slotAt p).miss n s.cameras[n].cfg.required
                  else s.slotAt p)
              ∧ (let late :=
                  (List.range s.track.length).reverse.filter fun p =>
                    decide (s.cameras[n].cfg.position + s.cameras[n].cfg.deadline ≤ p) && (s.slotAt p).awaits n
                let ended :=
                  late.flatMap fun p => s.cameras[n].outstanding.filter fun o => decide (o.ticket = (s.slotAt p).ticket)
                t.cameras = s.cameras.set n
                  { s.cameras[n] with
                    outstanding := s.cameras[n].outstanding.filter fun o => decide (o ∉ ended)
                    late := (ended.map Outstanding.number).foldl addLate s.cameras[n].late })
              ∧ (∀ o ∈ s.cameras[n].outstanding, o ∉ t.cameras[n].outstanding → o.number ∈ t.cameras[n].late
                ∨ 16 < s.cameras[n].outstanding.length)
              ∧ t.track.head = s.track.head ∧ t.track.nextTicket = s.track.nextTicket ∧ t.track.length = s.track.length
              ∧ t.track.tallies = s.track.tallies ∧ keepsBut [.track, .cameras] s t))

/-- VERDICT on the port of an enabled camera that is between records. A trigger number with an outstanding entry: the
entry leaves the list, and the slot's entry becomes PASS or DEFECT with the received classes 0 to 11, by whether they
share a class with the active mask, and the shared classes join the defect set; a REMOVED slot is not changed. Any other
number raises UNMATCHED_VERDICT, with 1 if it was late and then leaves the late list (R29, R40, R41). That the bits of
an incomplete byte standing in the port are dropped is the model's choice (notes/assumptions/52.md). -/
def Obligations.VerdictIsMatchedByNumber : Prop :=
  ∀ (n : CameraId) (trigger : Byte) (classes : ClassSet) (s : State),
    s.cameras[n].cfg.enabled = true → s.cameras[n].receiver = .idle →
    let taken : State :=
      { s with
        pins := { s.pins with deselected := s.pins.deselected.set n false }
        cameras := s.cameras.set n { s.cameras[n] with bits := [], receiver := .idle, silence := 0 } }
    (∀ (o : Outstanding) (p : Nat),
      (s.cameras[n].outstanding.find? fun o => o.number == trigger) = some o → s.positionOf o.ticket = some p →
      exec (.verdict n trigger classes) s = .next
        (putSlot p
          (let sl := s.slotAt p
          let received := classes &&& 0x0FFF
          let shared := received &&& s.cameras[n].cfg.mask
          if sl.occupancy = .removed then sl
          else
            { sl with
              defects := sl.defects ||| shared
              verdicts := sl.verdicts.map fun e =>
                if e.camera = n ∧ e.verdict = .awaited then
                  { camera := n, verdict := if shared = 0 then .pass received else .defect received }
                else e })
          (taken.mapCamera n fun c => { c with outstanding := c.outstanding.filter fun o => o.number != trigger })))
      ∧ ((s.cameras[n].outstanding.find? fun o => o.number == trigger) = none →
        exec (.verdict n trigger classes) s = .next
          (raiseEvent .unmatchedVerdict n.val (trigger.setWidth 16)
            (if trigger ∈ s.cameras[n].late then 1 else 0)
            (taken.mapCamera n fun c => { c with late := c.late.filter fun m => m != trigger })))

/-- The STATUS records on the port of an enabled camera that is between records. READY makes every entry outstanding
MISSING, renumbers the triggers from 0, clears both lists and makes the camera READY, with CAMERA_READY where it was not
READY or had entries outstanding (R32). NOT_READY makes a READY camera NOT_READY with CAMERA_NOT_READY and the number of
entries outstanding, keeps the lists and the trigger number, and changes no other state (R33). Any other value raises
UNKNOWN_RECORD and changes no state (R31). Each sets the silence timer to 0. CAMERA_LOST: the tick that brings the
silence timer of a camera in READY or NOT_READY to 2,000 ms with RUN high makes it LOST, with the state left and the
number of outstanding entries in the event; the lists and the trigger number are kept (R34). TRIGGER_PULSE_END ends the
pulse and nothing else (R37). That CAMERA_LOST is sent ahead of its tick is the model's choice (notes/assumptions/6.md),
and that the grants and the held robots are judged after it is its reading (notes/assumptions/17.md). That the bits of
an incomplete byte standing in the port are dropped is the model's choice (notes/assumptions/52.md). -/
def Obligations.StatusRecordsSetTheCamera : Prop :=
  (∀ (n : CameraId) (value : Byte) (s : State),
     s.cameras[n].cfg.enabled = true → s.cameras[n].receiver = .idle →
     let old := s.cameras[n]
     let c := { old with bits := [], receiver := PortReceiver.idle, silence := 0 }
     let pins := { s.pins with deselected := s.pins.deselected.set n false }
     let taken (c : Camera) : State := { s with pins := pins, cameras := s.cameras.set n c }
     (ticketsConsecutive s →
       ∃ t : State,
         exec (.statusReady n) s = .next
           (if old.state = .ready ∧ old.outstanding = [] then t
             else raiseEvent .cameraReady n.val (detail old.state.code) (detail old.outstanding.length) t)
           ∧ t.pins = pins
           ∧ t.cameras = s.cameras.set n { c with state := .ready, trigger := 0, outstanding := [], late := [] }
           ∧ (∀ p : Nat, p < s.track.length →
             t.slotAt p =
               if (s.slotAt p).ticket ∈ old.outstanding.map Outstanding.ticket then
                 (s.slotAt p).miss n old.cfg.required
               else s.slotAt p)
           ∧ t.track.head = s.track.head ∧ t.track.nextTicket = s.track.nextTicket ∧ t.track.length = s.track.length
           ∧ t.track.tallies = s.track.tallies ∧ keepsBut [.pins, .track, .cameras] s t)
       ∧ (old.state = .ready →
         exec (.statusNotReady n) s = .next
           (raiseEvent .cameraNotReady n.val 2 (detail old.outstanding.length) (taken { c with state := .notReady })))
       ∧ (old.state ≠ .ready → exec (.statusNotReady n) s = .next (taken c))
       ∧ (value ≠ 1 → value ≠ 2 →
         exec (.statusUnknownValue n value) s = .next
           (raiseEvent .unknownRecord n.val 0x3C (value.setWidth 16) (taken c))))
    ∧ (∀ (n : CameraId) (s : State),
        (s.pins.run = true → s.cameras[n].state = .ready ∨ s.cameras[n].state = .notReady → s.cameras[n].silence = 1999 →
          exec (.cameraLost n) s = .next
            (settle
              (raiseEvent .cameraLost n.val (detail s.cameras[n].state.code) (detail s.cameras[n].outstanding.length)
                { s with cameras := s.cameras.set n { s.cameras[n] with silence := 2000, state := .lost } })))
          ∧ exec (.triggerPulseEnd n) s = .next { s with cameras := s.cameras.set n { s.cameras[n] with pulse := false } })

/-- Bytes on the port of an enabled camera. A known kind byte starts a record, after BROKEN_RECORD if one was in
progress; an unknown one makes the receiver discard and raises UNKNOWN_RECORD, after BROKEN_RECORD in the same way; a
parameter byte joins the record that still wants more, and the one that completes a record does what that record does on
a port between records, the class bytes of a VERDICT coming high byte first; a parameter byte is counted as stray in
IDLE, and is dropped in DISCARDING (R29, R30). Eight clock edges with CSELn low, the most significant bit first, make
one byte: a kind byte if CKNDn is low at the eighth, a parameter byte if it is high, whatever CKNDn showed before (R27).
A rise of CSELn discards the bits of a byte that is not complete and keeps the record in progress, its parameters, the
camera state and the lists; a clock edge that completes no byte adds one bit and changes nothing else of the port (R27,
R28). A port of a disabled camera takes no byte: whatever its camera sends, the camera's record keeps its value and
nothing but the level of CSELn changes (R25, R27). That the bits of an incomplete byte standing in the port are dropped
is the model's choice (notes/assumptions/52.md). -/
def Obligations.PortBytesAssembleRecords : Prop :=
  (∀ (n : CameraId) (value : Byte) (s : State), s.cameras[n].cfg.enabled = true →
     let taken (c : Camera) : State :=
       { s with
         pins := { s.pins with deselected := s.pins.deselected.set n false }
         cameras := s.cameras.set n c }
     let c := { s.cameras[n] with bits := [] }
     (∀ kind : RecordKind, recordOfKind value = some kind →
       exec (.cameraKindByte n value) s = .next
         (match s.cameras[n].receiver with
           | .collecting old params =>
             raiseEvent .brokenRecord n.val (old.code.setWidth 16) (detail params.length)
               (taken { c with receiver := .collecting kind [] })
           | .idle | .discarding => taken { c with receiver := .collecting kind [] }))
       ∧ (recordOfKind value = none → (∀ k ps, s.cameras[n].receiver ≠ .collecting k ps) →
         exec (.cameraKindByte n value) s = .next
           (raiseEvent .unknownRecord n.val (value.setWidth 16) 0 (taken { c with receiver := .discarding })))
       ∧ (∀ (kind : RecordKind) (params : List Byte), recordOfKind value = none →
         s.cameras[n].receiver = .collecting kind params →
         exec (.cameraKindByte n value) s = .next
           (raiseEvent .unknownRecord n.val (value.setWidth 16) 0
             (raiseEvent .brokenRecord n.val (kind.code.setWidth 16) (detail params.length)
               (taken { c with receiver := .discarding }))))
       ∧ (s.cameras[n].receiver = .idle →
         exec (.strayParameter n value) s = .next (taken { c with strayCount := min (s.cameras[n].strayCount + 1) 65535 })
           ∧ exec (.cameraParameterByte n value) s = exec (.strayParameter n value) s)
       ∧ (s.cameras[n].receiver = .discarding → exec (.cameraParameterByte n value) s = .next (taken c))
       ∧ (∀ (kind : RecordKind) (params : List Byte), s.cameras[n].receiver = .collecting kind params →
         params.length + 1 < kind.params →
         exec (.cameraParameterByte n value) s = .next
           (taken { c with receiver := .collecting kind (params ++ [value]) }))
       ∧ (let between : State := { s with cameras := s.cameras.set n { s.cameras[n] with receiver := .idle } }
         (∀ trigger high : Byte, s.cameras[n].receiver = .collecting .verdict [trigger, high] →
           exec (.cameraParameterByte n value) s = exec (.verdict n trigger (high ++ value)) between)
         ∧ (s.cameras[n].receiver = .collecting .status [] →
           exec (.cameraParameterByte n value) s =
             if value = 1 then exec (.statusReady n) between
             else if value = 2 then exec (.statusNotReady n) between
             else exec (.statusUnknownValue n value) between)))
    ∧ (∀ (n : CameraId) (value : Byte) (k0 k1 k2 k3 k4 k5 k6 kind : Bool) (s : State),
        s.cameras[n].cfg.enabled = true → s.cameras[n].bits = [] →
        runAll
            [.cameraClockEdge n (value.getLsbD 7) k0, .cameraClockEdge n (value.getLsbD 6) k1,
              .cameraClockEdge n (value.getLsbD 5) k2, .cameraClockEdge n (value.getLsbD 4) k3,
              .cameraClockEdge n (value.getLsbD 3) k4, .cameraClockEdge n (value.getLsbD 2) k5,
              .cameraClockEdge n (value.getLsbD 1) k6, .cameraClockEdge n (value.getLsbD 0) kind] s =
          if kind = true then exec (.cameraParameterByte n value) s else exec (.cameraKindByte n value) s)
    ∧ (∀ (n : CameraId) (s : State), s.cameras[n].cfg.enabled = true →
        exec (.cameraSelectRise n) s = .next
            { s with
              pins := { s.pins with deselected := s.pins.deselected.set n true }
              cameras := s.cameras.set n { s.cameras[n] with bits := [] } }
          ∧ ∀ data kindHigh : Bool, s.cameras[n].bits.length < 7 →
            exec (.cameraClockEdge n data kindHigh) s = .next
              { s with
                pins := { s.pins with deselected := s.pins.deselected.set n false }
                cameras := s.cameras.set n { s.cameras[n] with bits := s.cameras[n].bits ++ [data] } })
    ∧ (∀ (n : CameraId) (value : Byte) (data kindHigh : Bool) (s : State), s.cameras[n].cfg.enabled = false →
        exec (.cameraKindByte n value) s = .next { s with pins := { s.pins with deselected := s.pins.deselected.set n false } }
          ∧ exec (.cameraParameterByte n value) s = .next
            { s with pins := { s.pins with deselected := s.pins.deselected.set n false } }
          ∧ exec (.cameraClockEdge n data kindHigh) s = .next
            { s with pins := { s.pins with deselected := s.pins.deselected.set n false } }
          ∧ exec (.cameraSelectRise n) s = .next
            { s with pins := { s.pins with deselected := s.pins.deselected.set n true } })

/-! ## Gates -/

/-- GATE_CONFIRM at an enabled gate. With entries in its confirm list it confirms the oldest: the slot becomes CONFIRMED
and REMOVED, the rejected-confirmed tally rises, the count of consecutive unconfirmed rejects is 0 and the latch is kept
(R53). With the list empty it raises UNEXPECTED_REJECT with the ticket at the gate's position and the pitch counter, and
changes no slot and no count (R54). A disabled gate ignores it (R46). CONFIRM_EXPIRY: the entries whose age has reached
the confirm window leave the list, in its order, as rejects that are not confirmed, for reason 0, and the younger
entries stay; with none of that age it changes nothing (R48, R52, R55). GATE_PULSE_END: the tick that reaches the end
time de-energises the output (R51), and sent before that tick it changes nothing; that the grants and the held robots
are judged after it is the model's reading (notes/assumptions/17.md). That CONFIRM_EXPIRY with nothing expired and
GATE_PULSE_END off its tick change nothing, and that the row is sent ahead of its tick, are the model's choice
(notes/assumptions/3.md, 6.md). A reject that leaves without confirmation: the slot becomes UNCONFIRMED and
REJECT_UNCONFIRMED carries the reason; the reasons 0 and 1 raise the gate's count, which stays at 255, and the count
that reaches 2 with the latch clear sets the latch, raises GATE_FAULT and adds the GATE_FAULT cause (R55). -/
def Obligations.RejectsAreConfirmedOrNot : Prop :=
  (∀ (g : GateId) (s : State),
     (∀ (e : ConfirmEntry) (rest : List ConfirmEntry) (p : Nat), s.gates[g].cfg.enabled = true →
       s.gates[g].confirm = e :: rest → s.positionOf e.ticket = some p →
       exec (.gateConfirm g) s = .next
         ((editSlotAt p (fun sl => { sl with reject := .confirmed, occupancy := .removed })
           { s with gates := s.gates.set g { s.gates[g] with confirm := rest, unconfirmed := 0 } }).mapTallies
             fun tl => { tl with rejectedConfirmed := min (tl.rejectedConfirmed + 1) maxLong }))
       ∧ (s.gates[g].cfg.enabled = true → s.gates[g].confirm = [] →
         exec (.gateConfirm g) s = .next
           (raiseEvent .unexpectedReject g.val (s.slotAt s.gates[g].cfg.position).ticket (detail s.pitch.counter) s))
       ∧ (s.gates[g].cfg.enabled = false → exec (.gateConfirm g) s = .next s))
    ∧ (∀ (g : GateId) (s : State),
        (∀ expired younger : List ConfirmEntry, s.gates[g].confirm = expired ++ younger →
          (∀ e ∈ expired, s.gates[g].cfg.window ≤ e.age) → (∀ e ∈ younger, e.age < s.gates[g].cfg.window) →
          exec (.confirmExpiry g) s = .next
            (forEach expired (fun e t => unconfirm g .window e.ticket t)
              { s with gates := s.gates.set g { s.gates[g] with confirm := younger } }))
          ∧ ((∀ y ∈ s.gates[g].confirm, y.age < s.gates[g].cfg.window) → exec (.confirmExpiry g) s = .next s)
          ∧ (s.gates[g].output = some 1 →
            exec (.gatePulseEnd g) s = .next
              (settle { s with gates := s.gates.set g { s.gates[g] with output := none } }))
          ∧ (∀ left : Nat, s.gates[g].output = some (left + 2) → exec (.gatePulseEnd g) s = .next s))
    ∧ (∀ (g : GateId) (t : Half) (p : Nat) (s : State), s.positionOf t = some p →
        let marked (why : Half) : State :=
          raiseEvent .rejectUnconfirmed g.val t why (editSlotAt p (fun sl => { sl with reject := .unconfirmed }) s)
        let counted : Gate := { s.gates[g] with unconfirmed := min (s.gates[g].unconfirmed + 1) 255 }
        unconfirm g .notFired t s = marked 2 ∧ unconfirm g .reconfigured t s = marked 3
          ∧ (s.gates[g].unconfirmed = 0 ∨ s.gates[g].latch = true →
            unconfirm g .window t s = (marked 0).mapGate g (fun _ => counted)
              ∧ unconfirm g .discharged t s = (marked 1).mapGate g (fun _ => counted))
          ∧ (1 ≤ s.gates[g].unconfirmed → s.gates[g].latch = false →
            unconfirm g .window t s =
              addGateFault (raiseEvent .gateFault g.val t (detail (min (s.gates[g].unconfirmed + 1) 255))
                ((marked 0).mapGate g fun _ => { counted with latch := true }))
              ∧ unconfirm g .discharged t s =
                addGateFault (raiseEvent .gateFault g.val t (detail (min (s.gates[g].unconfirmed + 1) 255))
                  ((marked 1).mapGate g fun _ => { counted with latch := true }))))

/-! ## The robot bus -/

/-- BUS_TRANSACTION_START on a free bus: a pending broadcast HOLD goes first; then, of the robots that are not LOST, the
oldest queued command other than POLL whose turn comes first; then the POLL entries, round-robin after the robot polled
last. FILL_START takes the pitch counter as its phase. On a bus that is not free nothing begins (R82, R84).
BROADCAST_HOLD_SENT: every robot that is not OFF has its held flag set, the broadcast is pending no longer and the bus
is free (R83); that the grants and the robots are then judged, for RELEASE among them, is the model's reading
(notes/assumptions/17.md). That a POLL entry keeps its place while its transaction runs is the model's choice
(notes/assumptions/49.md). -/
def Obligations.BusServesInOrder : Prop :=
  (∀ s : State,
     (s.bus.transaction = none → s.bus.clockHeldBy = none →
       (s.bus.broadcast = true →
         exec .busTransactionStart s = .next { s with bus := { s.bus with transaction := some .broadcastHold } })
       ∧ (∀ (r : RobotId) (e : BusEntry), s.bus.broadcast = false → s.robots[r].mode ≠ .lost →
         (s.bus.queues[r].places.find? fun e => !e.command.isPoll) = some e →
         (∀ (q : RobotId) (y : BusEntry), q ≠ r → s.robots[q].mode ≠ .lost →
           (s.bus.queues[q].places.find? fun e => !e.command.isPoll) = some y → e.turn < y.turn) →
         exec .busTransactionStart s = .next
           { s with bus :=
               { s.bus with transaction := some (.addressed r e.serial e.command s.pitch.counter) } })
       ∧ (∀ (k : Fin 8) (e : BusEntry), s.bus.broadcast = false →
         (∀ q : RobotId, s.robots[q].mode = .lost ∨ ∀ y ∈ s.bus.queues[q].places, y.command = .poll) →
         (∀ l : Fin 8, l < k → ∀ y ∈ s.bus.queues[s.bus.lastPolled + 1 + l].places, y.command ≠ .poll) →
         (s.bus.queues[s.bus.lastPolled + 1 + k].places.find? fun e => e.command.isPoll) = some e →
         exec .busTransactionStart s = .next
           { s with bus :=
               { s.bus with
                 transaction := some (.addressed (s.bus.lastPolled + 1 + k) e.serial .poll s.pitch.counter)
                 lastPolled := s.bus.lastPolled + 1 + k } }))
       ∧ (s.bus.transaction ≠ none ∨ s.bus.clockHeldBy ≠ none → exec .busTransactionStart s = .next s))
    ∧ (∀ s : State, s.bus.transaction = some .broadcastHold → s.bus.clockHeldBy = none →
        exec .broadcastHoldSent s = .next
          (settle
            { s with
              bus := { s.bus with transaction := none, broadcast := false }
              robots := Vector.ofFn fun r : RobotId =>
                { s.robots[r] with held := s.robots[r].held || decide (s.robots[r].mode ≠ .off) } }))

/-- A command raised for a robot takes a free place, or the place of the older of two POLL entries, or waits; for a LOST
robot it is discarded, FILL_ABORT excepted (R85). A POLL never waits (R86). COMMAND_TRANSACTION_DONE. Acknowledged: the
entry leaves, a waiting command moves up, the failure count is 0, but for a LOST robot, whose count stays until a poll
succeeds, HOLD sets the held flag and RELEASE clears it (R85, R87, R88; that it sets the count of a robot in OFF to 0,
and that the grants and the held robots are judged at every end of a transaction, are the model's reading,
notes/assumptions/16.md, 17.md). Not acknowledged: the first failure of an entry, and every further one of a FILL_ABORT
of a robot that is not OFF, keeps it in its place, marked as failed with its turn at this moment; any other second
failure removes it; and the failure is counted as FailuresLoseTheRobot states, which is not at all for a robot in OFF
(R84, R85, R87). That a POLL entry keeps its place while its transaction runs, where a newer one may replace it, is the
model's choice (notes/assumptions/49.md). -/
def Obligations.CommandsAreQueuedAndSent : Prop :=
  (∀ (r : RobotId) (c : BusCommand) (s : State),
     let entry : BusEntry := { serial := s.bus.moment, turn := s.bus.moment, command := c, failed := false }
     let q := s.bus.queues[r]
     let withQueue (q : RobotQueue) : State :=
       { s with bus := { s.bus with queues := s.bus.queues.set r q, moment := s.bus.moment + 1 } }
     (s.robots[r].mode = .lost → c ≠ .fillAbort → raiseCommand r c s = s)
       ∧ (s.robots[r].mode ≠ .lost ∨ c = .fillAbort →
         (q.places.length < 2 → raiseCommand r c s = withQueue { q with places := q.places ++ [entry] })
         ∧ (∀ a b : BusEntry, q.places = [a, b] → a.command = .poll → b.command = .poll →
           raiseCommand r c s = withQueue { q with places := [b, entry] })
         ∧ (∀ a b : BusEntry, q.places = [a, b] → a.command ≠ .poll ∨ b.command ≠ .poll →
           raiseCommand r c s = withQueue { q with waiting := q.waiting ++ [entry] }))
       ∧ (c = .poll →
         (q.places.length < 2 → raisePoll r s = withQueue { q with places := q.places ++ [entry] })
         ∧ (∀ a b : BusEntry, q.places = [a, b] → a.command = .poll → b.command = .poll →
           raisePoll r s = withQueue { q with places := [b, entry] })
         ∧ (∀ a b : BusEntry, q.places = [a, b] → a.command ≠ .poll ∨ b.command ≠ .poll →
           raisePoll r s = withQueue q)))
    ∧ (∀ (r : RobotId) (serial phase : Nat) (c : BusCommand) (s : State),
        s.bus.transaction = some (.addressed r serial c phase) → s.bus.clockHeldBy = none → c ≠ .poll →
        let q := s.bus.queues[r]
        let removed : State :=
          { s with bus :=
              { s.bus with
                transaction := none, queues := s.bus.queues.set r (q.keep fun e => decide (e.serial ≠ serial)) } }
        let deferred : State :=
          { s with bus :=
              { s.bus with
                transaction := none, moment := s.bus.moment + 1
                queues := s.bus.queues.set r
                  { q with places := q.places.map fun e =>
                      if e.serial = serial then { e with failed := true, turn := s.bus.moment } else e } } }
        exec (.commandTransactionDone true) s = .next
            (settle
              { removed with
                robots := s.robots.set r
                  { s.robots[r] with
                    failures := if s.robots[r].mode = .lost then s.robots[r].failures else 0
                    held := if c = .hold then true else if c = .release then false else s.robots[r].held } })
          ∧ ((∀ e ∈ q.places, e.serial ≠ serial) →
            exec (.commandTransactionDone false) s = .next
              (settle (countFailure r { s with bus := { s.bus with transaction := none } })))
          ∧ ∀ e : BusEntry, (q.places.find? fun e => e.serial == serial) = some e →
            (e.failed = false ∨ (e.command = .fillAbort ∧ s.robots[r].mode ≠ .off) →
              exec (.commandTransactionDone false) s = .next (settle (countFailure r deferred)))
            ∧ (e.failed = true → e.command ≠ .fillAbort ∨ s.robots[r].mode = .off →
              exec (.commandTransactionDone false) s = .next (settle (countFailure r removed))))

/-- POLL_DONE. A successful POLL leaves the queue and is recorded as the last status with a failure count of 0. It moves
a job in APPROACH of a robot that is not LOST to FILLING if it reports IN_POSITION; FAULT makes a robot in MANUAL,
PRODUCTION or SERVICE FAULTED with the code reported. For a LOST robot it ends the loss: the robot becomes FAULTED with
the code reported, or else MANUAL with no fault reason, and its held flag is set, with ROBOT_MODE. A POLL that fails
leaves the queue and the last status as it was, and counts as a failure, as FailuresLoseTheRobot states (R65, R66, R74,
R82, R86, R87). That the end of a POLL of a robot that has become OFF meanwhile is recorded in the same way is the
model's reading (notes/assumptions/14.md), and so is that the grants and the held robots are judged after a poll that
fails too (notes/assumptions/17.md). That a POLL entry leaves the queue at the end of its transaction is the model's
choice (notes/assumptions/49.md). -/
def Obligations.PollsAreRecorded : Prop :=
  ∀ (r : RobotId) (serial phase : Nat) (statusByte codeByte : Byte) (s : State),
    s.bus.transaction = some (.addressed r serial .poll phase) → s.bus.clockHeldBy = none →
    let freed : State :=
      { s with bus :=
          { s.bus with
            transaction := none
            queues := s.bus.queues.set r (s.bus.queues[r].keep fun e => decide (e.serial ≠ serial)) } }
    let seen (st : RobotStatus) : State :=
      freed.mapRobot r fun rb => { rb with lastStatus := some st, failures := 0 }
    let back (st : RobotStatus) : Host.Outcome State Fault Refusal :=
      .next
        (settle
          (raiseEvent .robotMode r.val 1 6
            (freed.mapRobot r fun rb =>
              { rb with lastStatus := some st, failures := 0, mode := .manual, reason := none, held := true })))
    let failed : Host.Outcome State Fault Refusal := .next (settle (countFailure r freed))
    (s.robots[r].mode ≠ .lost →
      exec (.pollDone true 1 codeByte) s = .next (settle (seen .retracted))
        ∧ exec (.pollDone true 2 codeByte) s = .next (settle (seen .moving))
        ∧ exec (.pollDone true 3 codeByte) s = .next (settle (startFilling r (seen .inPosition)))
        ∧ exec (.pollDone true 4 codeByte) s = .next (settle (seen .jogging))
        ∧ (codeByte ≠ 0 →
          exec (.pollDone true 5 codeByte) s = .next
            (settle
              (if s.robots[r].mode = .off ∨ s.robots[r].mode = .faulted then seen (.fault codeByte)
                else enterFaulted r (.robot codeByte) (seen (.fault codeByte))))))
      ∧ (s.robots[r].mode = .lost →
        exec (.pollDone true 1 codeByte) s = back .retracted ∧ exec (.pollDone true 2 codeByte) s = back .moving
          ∧ exec (.pollDone true 3 codeByte) s = back .inPosition ∧ exec (.pollDone true 4 codeByte) s = back .jogging
          ∧ (codeByte ≠ 0 →
            exec (.pollDone true 5 codeByte) s = .next
              (settle
                (raiseEvent .robotMode r.val 5 6
                  (freed.mapRobot r fun rb =>
                    { rb with
                      lastStatus := some (.fault codeByte), failures := 0, mode := .faulted
                      reason := some (.robot codeByte), held := true })))))
      ∧ exec (.pollDone false statusByte codeByte) s = failed ∧ exec (.pollDone true 5 0) s = failed
      ∧ (statusByte = 0 ∨ 5 < statusByte.toNat → exec (.pollDone true statusByte codeByte) s = failed)

/-- The third failure in a row makes a robot that is not OFF LOST: its job, if any, is aborted as
FailedJobsLeaveTheirMark states, ROBOT_LOST follows with the mode left and 1 if a job was aborted and 0 if none was, the
armed, resume and jog flags are cleared, the fault reason is BUS, ROBOT_MODE follows, and its queued commands are
dropped but for POLL entries and FILL_ABORT (R66, R69, R85, R87); that those still waiting for a place are dropped with
them is the model's choice (notes/assumptions/39.md). A failure of a robot in OFF is not counted, and the count of a
LOST robot stays at 3 (R87). CLOCK_HOLD_TIMEOUT: the first full millisecond fails the transaction that runs, a POLL or
another command, as PollsAreRecorded and CommandsAreQueuedAndSent state, and leaves the clock held; a broadcast HOLD
that runs neither succeeds nor fails by it (R83); each further one counts one more failed transaction of the robot that
holds it. ROBOT_CLOCK_RELEASE frees the bus. POLL_TIMER: the tick that brings the poll timer of a robot that is not OFF
to 5 ms raises a POLL (R82, R86, R87). That a robot holds the clock from CLOCK_HOLD_TIMEOUT on, and that the grants and
the held robots are judged after it, is the model's reading (notes/assumptions/15.md, 17.md); that POLL_TIMER is sent
ahead of its tick, and that a COUNTER_STATE of the abort comes before ROBOT_LOST, is its choice (notes/assumptions/6.md,
47.md). That a POLL entry leaves the queue at the end of its transaction is the model's choice
(notes/assumptions/49.md). -/
def Obligations.FailuresLoseTheRobot : Prop :=
  (∀ (r : RobotId) (s : State),
     (s.robots[r].mode = .off → countFailure r s = s)
       ∧ (s.robots[r].mode = .lost →
         countFailure r s =
           { s with
             robots := s.robots.set r
               { s.robots[r] with failures := min (s.robots[r].failures + 1) 3 } }))
    ∧ (∀ (r : RobotId) (s : State), s.robots[r].mode ≠ .off → s.robots[r].mode ≠ .lost →
     (s.robots[r].failures = 2 → ∃ t : State,
       countFailure r s = t ∧ t.robots[r].mode = .lost ∧ t.robots[r].failures = 3 ∧ t.robots[r].job = none
         ∧ t.robots[r].armed = false ∧ t.robots[r].resume = false ∧ t.robots[r].jog = false
         ∧ t.robots[r].reason = some .bus ∧ t.robots[r].held = s.robots[r].held
         ∧ t.robots[r].lastStatus = s.robots[r].lastStatus
         ∧ (∀ q : RobotId, q ≠ r → t.robots[q] = s.robots[q] ∧ t.doses[q] = s.doses[q])
         ∧ (∀ e ∈ t.bus.queues[r].entries, e.command = .poll ∨ e.command = .fillAbort)
         ∧ (s.events.queue.length + 3 ≤ 64 → s.robots[r].job = none →
           t.events.queue = s.events.queue ++
             [{ sequence := s.events.nextSequence, seconds := s.time.seconds, ms := s.time.ms, valid := s.time.valid
                kind := .robotLost, unit := r.val, detail1 := detail s.robots[r].modeCode, detail2 := 0 },
               { sequence := s.events.nextSequence + 1, seconds := s.time.seconds, ms := s.time.ms
                 valid := s.time.valid, kind := .robotMode, unit := r.val, detail1 := 6
                 detail2 := detail s.robots[r].modeCode }])
         ∧ (let aborted : State := failJob r .aborted .aborted s
           t.track = aborted.track ∧ t.doses = aborted.doses ∧ t.counters = aborted.counters
             ∧ t.events =
               (raiseEvent .robotMode r.val 6 (detail s.robots[r].modeCode)
                 (raiseEvent .robotLost r.val (detail s.robots[r].modeCode)
                   (if s.robots[r].job = none then 0 else 1) aborted)).events
             ∧ t.bus =
               { aborted.bus with
                 queues := aborted.bus.queues.set r
                   (aborted.bus.queues[r].keep fun e => decide (e.command = .poll ∨ e.command = .fillAbort)) })
         ∧ keepsBut [.track, .robots, .doses, .bus, .counters, .events] s t)
       ∧ (s.robots[r].failures < 2 →
         countFailure r s =
           { s with robots := s.robots.set r { s.robots[r] with failures := s.robots[r].failures + 1 } }))
    ∧ (∀ (r k : RobotId) (serial phase : Nat) (c : BusCommand) (s : State),
        s.bus.transaction = some (.addressed k serial c phase) → s.bus.clockHeldBy = none →
        let q := s.bus.queues[k]
        let freed (queue : RobotQueue) (moment : Nat) : State :=
          { s with bus :=
              { s.bus with transaction := none, queues := s.bus.queues.set k queue, moment := moment } }
        let removed : State := freed (q.keep fun e => decide (e.serial ≠ serial)) s.bus.moment
        let deferred : State :=
          freed
            { q with places := q.places.map fun e =>
                if e.serial = serial then { e with failed := true, turn := s.bus.moment } else e }
            (s.bus.moment + 1)
        let held (u : State) : Host.Outcome State Fault Refusal :=
          .next (settle { u with bus := { u.bus with clockHeldBy := some r } })
        (c = .poll → exec (.clockHoldTimeout r) s = held (countFailure k removed))
          ∧ (c ≠ .poll → (∀ e ∈ q.places, e.serial ≠ serial) →
            exec (.clockHoldTimeout r) s = held (countFailure k (freed q s.bus.moment)))
          ∧ ∀ e : BusEntry, c ≠ .poll → (q.places.find? fun e => e.serial == serial) = some e →
            (e.failed = false ∨ (e.command = .fillAbort ∧ s.robots[k].mode ≠ .off) →
              exec (.clockHoldTimeout r) s = held (countFailure k deferred))
            ∧ (e.failed = true → e.command ≠ .fillAbort ∨ s.robots[k].mode = .off →
              exec (.clockHoldTimeout r) s = held (countFailure k removed)))
    ∧ (∀ (r : RobotId) (s : State),
        (s.bus.transaction = some .broadcastHold → s.bus.clockHeldBy = none →
          exec (.clockHoldTimeout r) s = .next (settle { s with bus := { s.bus with clockHeldBy := some r } }))
          ∧ (s.bus.clockHeldBy = some r →
            exec (.clockHoldTimeout r) s = .next (settle (countFailure r s))
              ∧ exec (.robotClockRelease r) s = .next { s with bus := { s.bus with clockHeldBy := none } })
          ∧ (s.robots[r].mode ≠ .off → s.robots[r].pollTimer = 4 → s.time.ahead = [] →
            exec (.pollTimer r) s = .next
              (settle
                (raisePoll r
                  { s with
                    robots := s.robots.set r { s.robots[r] with pollTimer := 0 }
                    time := { s.time with ahead := [.poll r] } }))))

/-! ## Fills -/

/-- A job in APPROACH enters FILLING: the close count is computed from its recipe and the estimate, the flow count is 0,
the window opens, the valve is energised and its open check starts, the no-flow timer starts and the drip count is 0.
Any other job, and no job, is left as it is (R74, R81, R95, R96). FLOW_PULSE. With the window open it adds one to the
flow count, up to 1,048,575; in FILLING it restarts the no-flow timer, and the pulse that brings the count to the close
count de-energises the valve, starts its close check and moves the job to SETTLING. With the window closed it is a drip,
and the 51st raises VALVE_LEAK (R74, R80, R81, R96). -/
def Obligations.FlowClosesTheValve : Prop :=
  (∀ (r : RobotId) (s : State),
     (∀ j : Job, s.robots[r].job = some j → j.state = .approach → s.doses[r].valve = false →
       startFilling r s =
         { s with
           robots := s.robots.set r
             { s.robots[r] with
               job := some
                 { j with
                   state := .filling, opened := true, close := some (closeCalc j.recipe s.doses[r].estimate)
                   noFlowTimer := 0 } }
           doses := s.doses.set r
             { s.doses[r] with valve := true, check := some 0, flow := 0, window := true, drip := 0 } })
       ∧ ((∀ j : Job, s.robots[r].job = some j → j.state ≠ .approach) → startFilling r s = s))
    ∧ (∀ (r : RobotId) (s : State),
        (∀ j : Job, s.doses[r].window = true → s.robots[r].job = some j →
          let flow := min (s.doses[r].flow + 1) 1048575
          (j.state = .filling → flow < j.closing.count →
            exec (.flowPulse r) s = .next
              { s with
                doses := s.doses.set r { s.doses[r] with flow := flow }
                robots := s.robots.set r { s.robots[r] with job := some { j with noFlowTimer := 0 } } })
          ∧ (j.state = .filling → j.closing.count ≤ flow → s.doses[r].valve = true →
            exec (.flowPulse r) s = .next
              { s with
                doses := s.doses.set r { s.doses[r] with flow := flow, valve := false, check := some 0 }
                robots := s.robots.set r
                  { s.robots[r] with
                    job := some { j with state := .settling, settleTimer := 0, noFlowTimer := 0 } } })
          ∧ (j.state = .settling →
            exec (.flowPulse r) s = .next { s with doses := s.doses.set r { s.doses[r] with flow := flow } }))
          ∧ (s.doses[r].window = false →
            exec (.flowPulse r) s = .next
              (let counted : State :=
                { s with doses := s.doses.set r { s.doses[r] with drip := min (s.doses[r].drip + 1) 65535 } }
              if s.doses[r].drip = 50 then raiseEvent .valveLeak r.val 51 0 counted else counted)))

/-- A job that ends as TIMEOUT or ABORTED: the valve is de-energised, its close check starts if it was energised, and
the window is closed; the slot's outcome is set, class 14 is added, and the volume is written if the valve had opened
and absent otherwise; one fill cycle is counted and the last-fill record replaced if it had; FILL_ABORT is raised, as
CommandsAreQueuedAndSent states; the robot holds no job and keeps its mode; no estimate is learned (R75, R76, R78, R79,
R99, R104, R17). A robot without a job is left as it is. -/
def Obligations.FailedJobsLeaveTheirMark : Prop :=
  ∀ (r : RobotId) (outcome : FillOutcome) (ending : Ending) (s : State),
    (s.robots[r].job = none → failJob r outcome ending s = s)
    ∧ ∀ (j : Job) (p : Nat), s.robots[r].job = some j → s.positionOf j.ticket = some p → p < 128 →
    let t := failJob r outcome ending s
    t.robots = s.robots.set r { s.robots[r] with job := none }
      ∧ t.slotAt p =
        (let sl := s.slotAt p
        { sl with
          fill := outcome, defects := sl.defects ||| 0x4000
          volume :=
            if j.opened = true then
              some { tenths := min (fillVolume s.doses[r].flow j.recipe.kFactor) 65535, cut := false }
            else none })
      ∧ slotsKeptBut p s t
      ∧ t.doses[r].valve = false ∧ t.doses[r].window = false ∧ t.doses[r].estimate = s.doses[r].estimate
      ∧ t.doses[r].flow = s.doses[r].flow ∧ t.doses[r].active = s.doses[r].active
      ∧ t.doses[r].staged = s.doses[r].staged ∧ t.doses[r].drip = s.doses[r].drip
      ∧ t.doses[r].check = (if s.doses[r].valve = true then some 0 else s.doses[r].check)
      ∧ (j.opened = false → t.doses[r].lastFill = s.doses[r].lastFill ∧ t.counters = s.counters)
      ∧ (j.opened = true →
        t.counters[cycleCounter r].total = min (s.counters[cycleCounter r].total + 1) maxLong
          ∧ t.doses[r].lastFill =
            some
              { ticket := j.ticket, ending := ending, close := j.closing, flow := s.doses[r].flow
                volume := fillVolume s.doses[r].flow j.recipe.kFactor, fillClass := none, afterflow := none
                learning := .notLearned, estimateAfter := s.doses[r].estimate })
      ∧ (∀ q : RobotId, q ≠ r → t.doses[q] = s.doses[q] ∧ t.bus.queues[q] = s.bus.queues[q])
      ∧ (∀ i : CounterId, i ≠ cycleCounter r → t.counters[i] = s.counters[i])
      ∧ t.bus = (raiseCommand r .fillAbort s).bus
      ∧ keepsBut [.track, .robots, .doses, .bus, .counters, .events] s t

/-- A job that reports, at the end of its settle time or by a cut settle: the window closes; the slot gets its outcome,
its volume with the settle cut flag, and class 12 or 13 by the class; FILL_DONE is raised, as CommandsAreQueuedAndSent
states; one fill cycle is counted; the estimate is learned from a settle that was not cut and is no outlier, and
AFTERFLOW_OUTLIER is raised with the robot, the actual afterflow, held at 65,535, and the estimate for an outlier that
was not cut, and for no other fill; the last-fill record is replaced; the robot holds no job (R77, R98 to R104). -/
def Obligations.ReportedJobsAreJudgedAndLearned : Prop :=
  ∀ (r : RobotId) (j : Job) (p : Nat) (cut : Bool) (s : State),
    s.robots[r].job = some j → s.positionOf j.ticket = some p → p < 128 →
    let t := reportJob r cut s
    let flow := s.doses[r].flow
    let v := fillVolume flow j.recipe.kFactor
    let afterflow := flow - j.closing.count
    let estimate := s.doses[r].estimate
    let outlier := 4 * estimate + 1024 < 16 * afterflow
    let low := (v : Int) < (j.recipe.target : Int) - j.recipe.underTol
    let high := j.recipe.target + j.recipe.overTol < v
    t.robots = s.robots.set r { s.robots[r] with job := none }
      ∧ t.slotAt p =
        (let sl := s.slotAt p
        { sl with
          fill := if low then .under else if high then .over else .ok
          volume := some { tenths := min v 65535, cut := cut }
          defects := sl.defects ||| (if low then 0x1000 else if high then 0x2000 else 0) })
      ∧ slotsKeptBut p s t
      ∧ t.doses[r].window = false ∧ t.doses[r].valve = s.doses[r].valve ∧ t.doses[r].flow = flow
      ∧ t.doses[r].active = s.doses[r].active ∧ t.doses[r].staged = s.doses[r].staged
      ∧ t.doses[r].drip = s.doses[r].drip ∧ t.doses[r].check = s.doses[r].check
      ∧ t.doses[r].estimate =
        (if cut = true ∨ outlier then estimate else learnedEstimate j.recipe afterflow estimate)
      ∧ t.doses[r].lastFill =
        some
          { ticket := j.ticket, ending := if cut = true then .cut else .reported, close := j.closing, flow := flow
            volume := v, fillClass := some (if low then .under else if high then .over else .ok)
            afterflow := some afterflow
            learning := if cut = true then .notLearned else if outlier then .outlier else .learned
            estimateAfter := t.doses[r].estimate }
      ∧ t.events =
        (if cut = false ∧ outlier then
            raiseEvent .afterflowOutlier r.val (detail afterflow) (detail estimate)
              (countOn (cycleCounter r) s)
          else countOn (cycleCounter r) s).events
      ∧ t.counters[cycleCounter r].total = min (s.counters[cycleCounter r].total + 1) maxLong
      ∧ (∀ i : CounterId, i ≠ cycleCounter r → t.counters[i] = s.counters[i])
      ∧ (∀ q : RobotId, q ≠ r → t.doses[q] = s.doses[q] ∧ t.bus.queues[q] = s.bus.queues[q])
      ∧ t.bus = (raiseCommand r .fillDone s).bus
      ∧ keepsBut [.track, .robots, .doses, .bus, .counters, .events] s t

/-- The commands that end a job: SETTLE_END at the tick that reaches the settle time, NO_FLOW at the tick that brings
the no-flow timer to 200 ms, FILL_EXIT_LIMIT at the slot one beyond x, which cuts a settle and times out any other job,
and FILL_APPROACH_LIMIT at e + a, which leaves a job that is no longer in APPROACH (R75 to R77, R80). The tick of a
no-flow end still counts its millisecond of valve-open time, as ValvesAreSupervised states (R97). That SETTLE_END and
NO_FLOW are sent ahead of their tick, and that a COUNTER_STATE of the abort comes before NO_FLOW, is the model's choice
(notes/assumptions/6.md, 47.md). That the COUNTER_STATE of the valve-open time counted so comes after the grants and the
robots are judged is the model's choice (notes/assumptions/50.md). -/
def Obligations.JobsMeetTheirLimits : Prop :=
  ∀ (r : RobotId) (j : Job) (s : State), s.robots[r].job = some j →
    (j.state = .settling → j.settleTimer + 1 = j.recipe.settle →
      exec (.settleEnd r) s = .next
        (settle (reportJob r false
          { s with
            robots := s.robots.set r
              { s.robots[r] with job := some { j with settleTimer := j.recipe.settle } } })))
      ∧ (j.state = .filling → j.noFlowTimer = 199 →
        exec (.noFlow r) s = .next
          (countClosed s <| settle
            (raiseEvent .noFlow r.val j.ticket (detail s.doses[r].flow)
              (failJob r .aborted .aborted
                { s with
                  robots := s.robots.set r
                    { s.robots[r] with job := some { j with noFlowTimer := 200 } } }))))
      ∧ (s.positionOf j.ticket = some (s.fill.exit + 1) →
        exec (.fillExitLimit r) s = .next
          (settle (if j.state = .settling then reportJob r true s else failJob r .timeout .timeout s)))
      ∧ (s.positionOf j.ticket = some (s.fill.entry + s.fill.approach) →
        exec (.fillApproachLimit r) s = .next
          (settle (if j.state = .approach then failJob r .timeout .timeout s else s)))

/-- The commands of the valve supervision: the check that reaches 50 ms without agreement is the valve fault VALVE_OPEN
or VALVE_CLOSE by the level of VLVn, with agreement it ends; VFBn reaching agreement ends a running check, and VFBn
leaving it outside the checks is VALVE_STUCK; and the tick that brings the valve-open remainder to 1,000 counts one
second (R79, R97, R158). That a check whose feedback agrees already runs on to its 50 ms, ends there without a fault,
and takes a feedback that leaves and rejoins within it as no fault, is the model's reading (notes/assumptions/12.md). A
valve that such an expiry de-energises, alone of the eight, still has the millisecond of this tick counted, and with the
remainder at 999 one second; with no valve de-energised nothing is added (R97, R158). That the expiries are sent ahead
of their tick is the model's choice (notes/assumptions/6.md). A valve fault of a robot in any mode but OFF and FAULTED
raises VALVE_FAULT with the reason and the mode left and makes the robot FAULTED: its job is aborted, which leaves its
slot and its fill as R78 states, its armed, resume and jog flags are cleared, a robot that was LOST has its failure
count 0 and its held flag set. In OFF and FAULTED it changes nothing (R65, R66, R78, R79). That the COUNTER_STATE of the
valve-open time counted so comes after the grants and the robots are judged is the model's choice
(notes/assumptions/50.md). -/
def Obligations.ValvesAreSupervised : Prop :=
  (∀ (r : RobotId) (s : State),
     (s.doses[r].check = some 49 →
       let ended : State := { s with doses := s.doses.set r { s.doses[r] with check := none } }
       (s.pins.feedback[r] = s.doses[r].valve → exec (.valveCheckExpiry r) s = .next (settle ended))
       ∧ (s.pins.feedback[r] ≠ s.doses[r].valve →
         exec (.valveCheckExpiry r) s = .next
           (countClosed s <| settle (valveFault r (if s.doses[r].valve = true then .valveOpen else .valveClose) ended))))
       ∧ (∀ showsOpen : Bool, s.pins.feedback[r] ≠ showsOpen →
         let read : State := { s with pins := { s.pins with feedback := s.pins.feedback.set r showsOpen } }
         (s.doses[r].check ≠ none → showsOpen = s.doses[r].valve →
           exec (.valveFeedbackChange r showsOpen) s = .next
             (settle { read with doses := s.doses.set r { s.doses[r] with check := none } }))
         ∧ (s.doses[r].check ≠ none → showsOpen ≠ s.doses[r].valve →
           exec (.valveFeedbackChange r showsOpen) s = .next (settle read))
         ∧ (s.doses[r].check = none → showsOpen ≠ s.doses[r].valve →
           exec (.valveFeedbackChange r showsOpen) s = .next (settle (valveFault r .valveStuck read))))
       ∧ (s.doses[r].valve = true → s.counters[valveCounter r].remainder = 999 → s.time.ahead = [] →
         exec (.valveTimeSecond r) s = .next
           (settle
             (countOn (valveCounter r)
               { s with
                 counters := s.counters.set (valveCounter r) { s.counters[valveCounter r] with remainder := 0 }
                 time := { s.time with ahead := [.valveTime r] } }))))
    ∧ (∀ s t : State,
        ((∀ r : RobotId, s.doses[r].valve = true → t.doses[r].valve = true) → countClosed s t = t)
          ∧ ∀ r : RobotId, s.doses[r].valve = true → t.doses[r].valve = false → t.time.ahead = [] →
            (∀ q : RobotId, q ≠ r → s.doses[q].valve = true → t.doses[q].valve = true) →
            let taken (remainder : Nat) : State :=
              { t with
                counters := t.counters.set (valveCounter r)
                  { t.counters[valveCounter r] with remainder := remainder }
                time := { t.time with ahead := [.valveTime r] } }
            (t.counters[valveCounter r].remainder < 999 →
              countClosed s t = settle (taken (t.counters[valveCounter r].remainder + 1)))
            ∧ (t.counters[valveCounter r].remainder = 999 →
              countClosed s t = settle (countOn (valveCounter r) (taken 0))))
    ∧ (∀ (r : RobotId) (why : FaultReason) (s : State),
        (s.robots[r].mode = .off ∨ s.robots[r].mode = .faulted → valveFault r why s = s)
          ∧ (s.robots[r].mode ≠ .off → s.robots[r].mode ≠ .faulted → s.robots[r].job = none →
            s.events.queue.length + 2 ≤ 64 →
            valveFault r why s =
              { s with
                robots := s.robots.set r
                  { s.robots[r] with
                    mode := .faulted, armed := false, resume := false, jog := false, reason := some why
                    failures := if s.robots[r].mode = .lost then 0 else s.robots[r].failures
                    held := s.robots[r].held || decide (s.robots[r].mode = .lost) }
                events :=
                  { s.events with
                    queue := s.events.queue ++
                      [{ sequence := s.events.nextSequence, seconds := s.time.seconds, ms := s.time.ms
                         valid := s.time.valid, kind := .valveFault, unit := r.val, detail1 := detail why.code
                         detail2 := detail s.robots[r].modeCode },
                        { sequence := s.events.nextSequence + 1, seconds := s.time.seconds, ms := s.time.ms
                          valid := s.time.valid, kind := .robotMode, unit := r.val, detail1 := 5
                          detail2 := detail s.robots[r].modeCode }]
                    nextSequence := s.events.nextSequence + 2
                    account := { s.events.account with raised := s.events.account.raised + 2 } } })
          ∧ (s.robots[r].mode ≠ .off → s.robots[r].mode ≠ .faulted →
            (valveFault r why s).robots[r].mode = .faulted ∧ (valveFault r why s).robots[r].job = none
              ∧ (valveFault r why s).robots[r].reason = some why
              ∧ (∀ q : RobotId, q ≠ r → (valveFault r why s).robots[q] = s.robots[q])
              ∧ jobsAborted (fun q => decide (q = r)) s (valveFault r why s)
              ∧ keepsBut [.track, .robots, .doses, .bus, .counters, .events] s (valveFault r why s)))

/-- The arithmetic of a dose: N is T × K / 10,000 rounded half up and lies in 10..500,000 for a recipe in range (R94); C
lies within min(M, N)..N and is N − â where that is at least min(M, N) (R95); restoring division gives exactly the whole
part of (F × 10,000 + floor(K / 2)) / K, at most 10,485,800 (R99); and a learned estimate stays within 0..16 × Amax, at
16 × A itself for a shift of 0 within that range (R103). -/
def Obligations.DoseArithmetic : Prop :=
  (∀ r : Recipe, r.inRange = true →
    targetPulses r = (r.target * r.kFactor + 5000) / 10000 ∧ 10 ≤ targetPulses r ∧ targetPulses r ≤ 500000)
    ∧ (∀ (r : Recipe) (e : Nat),
      let n := targetPulses r
      let c := (closeCalc r e).count
      (closeCalc r e).targetPulses = n ∧ (closeCalc r e).rounded = (e + 8) / 16
        ∧ min r.minOpen n ≤ c ∧ c ≤ n
        ∧ (min r.minOpen n + (e + 8) / 16 ≤ n → c = n - (e + 8) / 16)
        ∧ (n < min r.minOpen n + (e + 8) / 16 → c = min r.minOpen n))
    ∧ (∀ f k : Nat, f ≤ 1048575 → 1000 ≤ k → k ≤ 100000 → fillVolume f k = (f * 10000 + k / 2) / k ∧ fillVolume f k ≤ 10485800)
    ∧ (∀ (r : Recipe) (a e : Nat),
      learnedEstimate r a e ≤ 16 * r.afterflowMax
        ∧ (r.shift = 0 → a ≤ r.afterflowMax → learnedEstimate r a e = 16 * a)
        ∧ (e ≤ 16 * r.afterflowMax → e ≤ 16 * a →
          learnedEstimate r a e = min (e + (16 * a - e) / 2 ^ r.shift) (16 * r.afterflowMax))
        ∧ (16 * a ≤ e → learnedEstimate r a e = min (e - (e - 16 * a) / 2 ^ r.shift) (16 * r.afterflowMax)))

/-! ## The main switch and the power groups -/

/-- A change of the contacts. To the ON pair: ON at once, SWITCH_ON where it was not, no group changes and no cause is
removed. To the OFF pair: OFF at once, SWITCH_OFF where it was not, and from DISCREPANT nothing further. To ALIKE: the
state is kept and the alike timer starts from 0; from one ALIKE reading to the other nothing changes but the levels
(R108, R111). SWITCH_DISCREPANCY: the tick that brings the alike timer to 31 ms makes the switch DISCREPANT, stops the
timer, sets the latch, adds DISCREPANCY and SWITCH, raises SWITCH_DISCREPANCY with the state left and the level of the
contacts, and cuts the power where the state left is ON; the valves it closes have the millisecond of this tick counted,
as ValvesAreSupervised states (R97, R109, R110). That the row is sent ahead of its tick is the model's choice
(notes/assumptions/6.md). That the COUNTER_STATE of the valve-open time counted so comes after the grants and the robots
are judged is the model's choice (notes/assumptions/50.md). -/
def Obligations.ContactsMoveTheSwitch : Prop :=
  (∀ (s : State) (msa msb : Bool), ¬ (s.pins.msa = msa ∧ s.pins.msb = msb) →
     let read : State := { s with pins := { s.pins with msa := msa, msb := msb } }
     let switched (st : SwitchState) (alike : Option Nat) : State :=
       { read with mainSwitch := { s.mainSwitch with state := st, alike := alike } }
     (msa = true → msb = false →
       exec (.mainSwitchContactChange msa msb) s = .next
         (settle
           (if s.mainSwitch.state = .on then switched .on none
             else raiseEvent .switchOn 0 (detail s.mainSwitch.state.code) 0 (switched .on none))))
       ∧ (msa = false → msb = true → s.mainSwitch.state ≠ .on →
         exec (.mainSwitchContactChange msa msb) s = .next
           (settle
             (if s.mainSwitch.state = .off then switched .off none
               else raiseEvent .switchOff 0 2 0 (switched .off none))))
       ∧ (msa = false → msb = true → s.mainSwitch.state = .on →
         exec (.mainSwitchContactChange msa msb) s = .next
           (settle (cutPower (raiseEvent .switchOff 0 1 0
             { switched .off none with stops := { s.stops with switchOff := true } }))))
       ∧ (msa = msb → s.pins.msa ≠ s.pins.msb →
         exec (.mainSwitchContactChange msa msb) s = .next (settle (switched s.mainSwitch.state (some 0))))
       ∧ (msa = msb → s.pins.msa = s.pins.msb →
         exec (.mainSwitchContactChange msa msb) s = .next (settle read)))
    ∧ (∀ s : State, s.mainSwitch.alike = some 30 →
        let told : State :=
          raiseEvent .switchDiscrepancy 0 (detail s.mainSwitch.state.code)
            (if s.pins.msa = true ∧ s.pins.msb = true then 1 else 0)
            { s with
              mainSwitch := { state := .discrepant, alike := none, latch := true }
              stops := { s.stops with switchOff := true, discrepancy := true } }
        exec .switchDiscrepancy s = .next
          (countClosed s (settle (if s.mainSwitch.state = .on then cutPower told else told))))

/-- The switch leaving ON opens every CLOSED or CLOSING group, so that no coil stays energised, leaves the other groups
as they are, ends every job in a zone that left CLOSED and disarms its robots, and raises a broadcast HOLD; robots of
other zones keep their records (R110, R119, R124). Each such job leaves its slot ABORTED with class 14 and, if its valve
had opened, its volume, its valve de-energised with the close check started, its window closed, its fill cycle counted
and FILL_ABORT raised (R78, R79, R157). -/
def Obligations.CutPowerDropsEveryCoil : Prop :=
  ∀ s : State,
    (∀ g : GroupId,
      coil (cutPower s) g = false
        ∧ (coil s g = false → (cutPower s).groups[g] = s.groups[g])
        ∧ (coil s g = true →
          (cutPower s).groups[g] =
            if s.pins.mirror[g] = true then { state := .opening, timer := some 0 }
            else { state := .isOpen, timer := none }))
      ∧ (∀ r : RobotId,
        (s.groups[s.robots[r].zone].state = .closed →
          (cutPower s).robots[r] = { s.robots[r] with job := none, armed := false })
          ∧ (s.groups[s.robots[r].zone].state ≠ .closed → (cutPower s).robots[r] = s.robots[r]))
      ∧ jobsAborted (fun r => decide (s.groups[s.robots[r].zone].state = .closed)) s (cutPower s)
      ∧ (cutPower s).bus.broadcast = true
      ∧ keepsBut [.track, .robots, .doses, .bus, .groups, .counters, .events] s (cutPower s)

/-- A change of KFn: CLOSING becomes CLOSED on a report of closed, OPENING becomes OPEN on a report of open, each with
GROUP_STATE; a report of open in CLOSED and a report of closed in OPEN or FAULT_PULLIN start the supervision timer, and
the contrary report stops it; in the other cases the level alone changes (R117, R118, R120, R121, R123). The four
expiries of a group's supervision: 150 ms in CLOSING and more than 30 ms of a report of open in CLOSED make it
FAULT_PULLIN, with causes 0 and 1; 100 ms in OPENING and 100 ms of a report of closed in OPEN or FAULT_PULLIN make it
FAULT_WELD, with causes 0 and 1. The fault's event comes before GROUP_STATE, and a group that falls out of CLOSED has
its zone's jobs aborted and its valves' millisecond of this tick counted, as ValvesAreSupervised states (R97, R114,
R117, R118, R120, R121, R123, R124). That these rows are sent ahead of their tick, and that a COUNTER_STATE of an abort
comes after PULLIN_FAULT and GROUP_STATE, is the model's choice (notes/assumptions/6.md, 47.md). That the COUNTER_STATE
of the valve-open time counted so comes after the grants and the robots are judged is the model's choice
(notes/assumptions/50.md). Leaving CLOSED disarms the zone's robots and ends their jobs, and changes no other robot.
Each such job leaves its slot ABORTED with class 14 and, if its valve had opened, its volume, its valve de-energised
with the close check started, its window closed, its fill cycle counted and FILL_ABORT raised (R78, R79, R157). -/
def Obligations.ContactorsAreSupervised : Prop :=
  (∀ (s : State) (g : GroupId) (reportsClosed : Bool), s.pins.mirror[g] ≠ reportsClosed →
     let read : State := { s with pins := { s.pins with mirror := s.pins.mirror.set g reportsClosed } }
     let entered (st : GroupState) : State :=
       raiseEvent .groupState g.val (detail st.code) (detail s.groups[g].state.code)
         { read with groups := s.groups.set g { state := st, timer := none } }
     let timed (timer : Option Nat) : State :=
       { read with groups := s.groups.set g { s.groups[g] with timer := timer } }
     exec (.mirrorContactChange g reportsClosed) s = .next
       (settle
         (match s.groups[g].state, reportsClosed with
           | .closing, true => entered .closed
           | .opening, false => entered .isOpen
           | .closed, false => timed (some 0)
           | .closed, true => timed none
           | .isOpen, true => timed (some 0)
           | .isOpen, false => timed none
           | .faultPullin, true => timed (some 0)
           | .faultPullin, false => timed none
           | .closing, false => read
           | .opening, true => read
           | .faultWeld, _ => read)))
    ∧ (∀ (s : State) (g : GroupId),
        let late (ms : Nat) : State := { s with groups := s.groups.set g { s.groups[g] with timer := some ms } }
        let total := detail s.counters[contactorCounter g].total
        (s.groups[g] = { state := .closing, timer := some 149 } →
          exec (.pullinTimeout g) s = .next
            (settle (enterGroup g .faultPullin (raiseEvent .pullinFault g.val 0 0 (late 150)))))
          ∧ (s.groups[g] = { state := .closed, timer := some 30 } →
            exec (.fallOut g) s = .next
              (countClosed s <| settle (leaveClosed [g] (enterGroup g .faultPullin
                (raiseEvent .pullinFault g.val 1
                  (detail ((allUnits 8).countP fun r => s.robots[r].zone == g && s.robots[r].job.isSome)) (late 31))))))
          ∧ (s.groups[g] = { state := .opening, timer := some 99 } →
            exec (.dropoutTimeout g) s = .next
              (settle (enterGroup g .faultWeld (raiseEvent .weldFault g.val 0 total (late 100)))))
          ∧ (s.groups[g] = { state := .isOpen, timer := some 99 } ∨ s.groups[g] = { state := .faultPullin, timer := some 99 } →
            exec (.weldDetected g) s = .next
              (settle (enterGroup g .faultWeld (raiseEvent .weldFault g.val 1 total (late 100)))))
          ∧ ∀ (st : GroupState) (u : State),
            enterGroup g st u =
              raiseEvent .groupState g.val (detail st.code) (detail u.groups[g].state.code)
                { u with
                  groups := u.groups.set g
                    { state := st
                      timer :=
                        match st with
                        | .closing | .opening => some 0
                        | .closed => if u.pins.mirror[g] = true then none else some 0
                        | .isOpen | .faultPullin => if u.pins.mirror[g] = true then some 0 else none
                        | .faultWeld => none } })
    ∧ (∀ (zones : List GroupId) (s : State),
        let aborted (r : RobotId) : Bool := zones.contains s.robots[r].zone
        jobsAborted aborted s (leaveClosed zones s)
          ∧ (∀ r : RobotId,
            (leaveClosed zones s).robots[r] =
              if aborted r = true then { s.robots[r] with job := none, armed := false } else s.robots[r])
          ∧ keepsBut [.track, .robots, .doses, .bus, .counters, .events] s (leaveClosed zones s))

/-! ## Service access -/

/-- DOOR_CHANGE. An opening that no grant in OPEN or OVERDUE releases is an intrusion of its zone, or of the cabinet for
DOORC; an opening that some grant releases sets the door-opened flag of every grant in OPEN or OVERDUE that holds the
door, and of no other (R127, R137, R146, R147). A closing ends, in increasing place, every grant in OVERDUE or
AWAITING_CLOSE that holds the door and has all its doors closed now, and changes no other grant; with no live grant it
changes the door alone (R139, R141). A zone intrusion with the latch clear: the latch is set, INTRUSION carries how it
came and the jobs aborted, every robot of the zone in PRODUCTION or SERVICE becomes MANUAL with no job, armed, resume
and jog flags cleared, the zone's group has its coil de-energised, and robots of other zones keep their records. With
the latch set nothing changes (R68, R119, R146). A cabinet intrusion with the latch clear sets it, adds
CABINET_INTRUSION, raises INTRUSION for the cabinet with the number of zone latches about to be set, then lets each zone
be intruded in increasing number, which leaves every zone latch set, and last raises a broadcast HOLD; the switch and
the grants keep their state. With the latch set nothing changes (R147). That INTRUSION also comes before a COUNTER_STATE
of the aborts is the model's choice (notes/assumptions/47.md). An intrusion ends every job of the zones whose latch it
sets. Each such job leaves its slot ABORTED with class 14 and, if its valve had opened, its volume, its valve
de-energised with the close check started, its window closed, its fill cycle counted and FILL_ABORT raised (R78, R79,
R157). -/
def Obligations.DoorsOpenReleasedOrIntruded : Prop :=
  (∀ (s : State) (d : DoorId),
     (s.pins.doors[d] = false →
       let read : State := { s with pins := { s.pins with doors := s.pins.doors.set d true } }
       (doorReleased s d = false → ∀ z : GroupId, d = zoneDoor z →
         exec (.doorChange d true) s = .next (settle (zoneIntrusion z 0 read)))
       ∧ (doorReleased s d = false → d = cabinetDoor →
         exec (.doorChange d true) s = .next (settle (cabinetIntrusion 0 1 read)))
       ∧ (doorReleased s d = true →
         exec (.doorChange d true) s = .next
           (settle
             { read with
               access :=
                 { s.access with
                   grants := Vector.ofFn fun i : PlaceId => s.access.grants[i].map fun g =>
                     { g with doorOpened := g.doorOpened || (g.releasing && g.hasDoor d) } } })))
       ∧ (s.pins.doors[d] = true →
         let read : State := { s with pins := { s.pins with doors := s.pins.doors.set d false } }
         exec (.doorChange d false) s = .next (settle (forEach (allUnits 8) (endClosedGrant d) read))
           ∧ ((∀ i : PlaceId, s.access.grants[i] = none) →
             exec (.doorChange d false) s = .next (settle read))))
    ∧ (∀ (d : DoorId) (i : PlaceId) (s : State),
        (∀ g : Grant, s.access.grants[i] = some g → g.state = .overdue ∨ g.state = .awaitingClose →
          g.hasDoor d = true → (∀ k : DoorId, g.hasDoor k = true → s.pins.doors[k] = false) →
          endClosedGrant d i s = endGrant i g s)
          ∧ ((∀ g : Grant, s.access.grants[i] = some g →
              (g.state ≠ .overdue ∧ g.state ≠ .awaitingClose) ∨ g.hasDoor d = false
                ∨ ∃ k : DoorId, g.hasDoor k = true ∧ s.pins.doors[k] = true) →
            endClosedGrant d i s = s))
    ∧ (∀ (how zoneHow : Half) (s : State),
        (s.access.cabinetLatch = true → cabinetIntrusion how zoneHow s = s)
          ∧ (s.access.cabinetLatch = false →
            let told : State :=
              raiseEvent .intrusion 4 how (detail ((allUnits 4).countP fun z => !s.access.zoneLatch[z]))
                { s with
                  access := { s.access with cabinetLatch := true }
                  stops := { s.stops with cabinetIntrusion := true } }
            let intruded : State := forEach (allUnits 4) (fun z u => zoneIntrusion z zoneHow u) told
            cabinetIntrusion how zoneHow s = { intruded with bus := { intruded.bus with broadcast := true } }
              ∧ intruded.access = { s.access with cabinetLatch := true, zoneLatch := Vector.replicate 4 true }
              ∧ (fillsPowered s →
                jobsAborted (fun r => !s.access.zoneLatch[s.robots[r].zone]) s intruded
                  ∧ ∀ r : RobotId,
                    intruded.robots[r].job =
                      if s.access.zoneLatch[s.robots[r].zone] = true then s.robots[r].job else none)
              ∧ keepsBut [.track, .robots, .doses, .bus, .groups, .access, .stops, .counters, .events] s intruded))
    ∧ (∀ (z : GroupId) (how : Half) (s : State),
        (s.access.zoneLatch[z] = true → zoneIntrusion z how s = s)
          ∧ (s.access.zoneLatch[z] = false → fillsPowered s →
            ∃ t : State, zoneIntrusion z how s = t
              ∧ t.access = { s.access with zoneLatch := s.access.zoneLatch.set z true }
              ∧ coil t z = false ∧ (∀ k : GroupId, k ≠ z → t.groups[k] = s.groups[k])
              ∧ jobsAborted (fun r => decide (s.robots[r].zone = z)) s t
              ∧ (∀ r : RobotId, s.robots[r].zone ≠ z → t.robots[r] = s.robots[r])
              ∧ (∀ r : RobotId, s.robots[r].zone = z →
                t.robots[r] =
                  { s.robots[r] with
                    armed := false, resume := false, job := none
                    jog := if s.robots[r].mode = .service then false else s.robots[r].jog
                    mode :=
                      if s.robots[r].mode = .production ∨ s.robots[r].mode = .service then .manual
                      else s.robots[r].mode })
              ∧ (s.events.queue.length < 64 →
                t.events.queue[s.events.queue.length]? =
                  some (s.recordOf .intrusion z.val how
                    (detail ((allUnits 8).countP fun r => s.robots[r].zone == z && s.robots[r].job.isSome))))
              ∧ keepsBut [.track, .robots, .doses, .bus, .groups, .access, .counters, .events] s t))

/-- The drain of a grant ends when no robot of its covered zones holds a job: its robots in MANUAL or PRODUCTION enter
SERVICE, but for zones whose latch is set, with the resume flag telling PRODUCTION and the jog flag telling JOG; a JOG
grant then enters OPEN and opens no group, and the others enter ISOLATING and leave no covered coil energised. DRAIN_END
asks for it, and the 10,000th tick of the drain aborts the jobs that are left, after which the drains are judged in
increasing place with this one among them (R67, R133 to R135, R144, R145); the valves closed so have the millisecond of
this tick counted, as ValvesAreSupervised states (R97). That DRAIN_LIMIT is sent ahead of its tick, and that of several
welded groups the lowest is named, are the model's choice (notes/assumptions/6.md, 42.md). ISOLATION_COMPLETE: a
ZONE_ENTRY or CABINET grant in ISOLATING enters OPEN when every covered group is OPEN, or FAULT_PULLIN with its
contactor reported open; a covered group that is FAULT_WELD makes it ISOLATION_FAILED in ISOLATING, OPEN and OVERDUE,
with the lowest such group in the event; otherwise it waits (R135, R136, R144). That the COUNTER_STATE of the valve-open
time counted so comes after the grants and the robots are judged is the model's choice (notes/assumptions/50.md). Each
job that the drain limit aborts leaves its slot ABORTED with class 14 and, if its valve had opened, its volume, its
valve de-energised with the close check started, its window closed, its fill cycle counted and FILL_ABORT raised (R78,
R79, R157). -/
def Obligations.DrainsAndIsolation : Prop :=
  (∀ (s : State) (i : PlaceId) (g : Grant), s.access.grants[i] = some g → g.state = .draining →
     (drained s g = true →
       judgeDrain i s = endDrain i g s ∧ exec (.drainEnd i) s = .next (settle (endDrain i g s)))
       ∧ (drained s g = false → judgeDrain i s = s ∧ exec (.drainEnd i) s = .next (settle s))
       ∧ (drained s g = false → g.drainTimer = 9999 →
         ∃ aborted : State,
           (∀ r : RobotId,
             aborted.robots[r] =
               { s.robots[r] with job := if g.covers s.robots[r].zone = true then none else s.robots[r].job })
             ∧ aborted.access =
               { s.access with grants := s.access.grants.set i (some { g with drainTimer := 10000 }) }
             ∧ keepsBut [.track, .robots, .doses, .bus, .access, .counters, .events] s aborted
             ∧ jobsAborted (fun r => g.covers s.robots[r].zone) s aborted
             ∧ drained aborted { g with drainTimer := 10000 } = true
             ∧ exec (.drainLimit i) s = .next (countClosed s (settle aborted)))
       ∧ (drained s g = true →
         ∃ t : State, endDrain i g s = t
           ∧ t.access =
             { s.access with grants :=
                 s.access.grants.set i (some { g with state := if g.kind = .jog then .isOpen else .isolating }) }
           ∧ (∀ r : RobotId,
             (g.covers s.robots[r].zone = true → s.access.zoneLatch[s.robots[r].zone] = false →
               s.robots[r].mode = .manual ∨ s.robots[r].mode = .production →
               t.robots[r] =
                 { s.robots[r] with
                   mode := .service, resume := decide (s.robots[r].mode = .production), armed := false
                   jog := decide (g.kind = .jog) })
             ∧ (g.covers s.robots[r].zone = false → t.robots[r] = s.robots[r])
             ∧ t.robots[r].job = s.robots[r].job)
           ∧ (g.kind = .jog → t.groups = s.groups)
           ∧ (g.kind ≠ .jog → ∀ z : GroupId,
             (g.covers z = true → coil t z = false) ∧ (g.covers z = false → t.groups[z] = s.groups[z]))
           ∧ keepsBut [.robots, .bus, .groups, .access, .events] s t))
    ∧ (∀ (s : State) (i : PlaceId) (g : Grant), s.access.grants[i] = some g → g.kind ≠ .jog →
        exec (.isolationComplete i) s = .next (settle (judgeIsolation i s))
          ∧ ((∀ z : GroupId, g.covers z = true → s.groups[z].state ≠ .faultWeld) →
          exec (.isolationComplete i) s = .next
            (settle
              (if g.state = .isolating ∧ ∀ z : GroupId, g.covers z = true →
                  s.groups[z].state = .isOpen ∨ s.groups[z].state = .faultPullin ∧ s.pins.mirror[z] = false then
                enterGrant i g .isOpen s
              else s)))
          ∧ (∀ z : GroupId, g.state = .isolating ∨ g.state = .isOpen ∨ g.state = .overdue → g.covers z = true →
            s.groups[z].state = .faultWeld →
            (∀ y : GroupId, y < z → g.covers y = true → s.groups[y].state ≠ .faultWeld) →
            exec (.isolationComplete i) s = .next
              (settle (enterGrant i g .isolationFailed
                (raiseEvent .isolationFailed i.val (detail z.val) g.number s))))
          ∧ ∀ (st : GrantState) (u : State),
            enterGrant i g st u =
              raiseEvent .grantState (i.val + 8 * st.code) (g.badge.setWidth 16) ((g.badge >>> 16).setWidth 16)
                { u with access := { u.access with grants := u.access.grants.set i (some { g with state := st }) } })

/-- GRANT_EXPIRY, as the rollover that brings the uptime to the grant's expiry: a grant in DRAINING or ISOLATING ends;
one in OPEN ends with all its doors closed, and with a door open becomes OVERDUE with GRANT_OVERDUE and the number of
open doors; the other states go on (R138, R153). That GRANT_EXPIRY is sent ahead of its rollover, and off the grant's
own expiry changes no grant, is the model's choice (notes/assumptions/3.md, 6.md, 43.md). A grant that ends leaves its
place empty, its robots in SERVICE leave it where their zone is covered by no other grant and its latch is clear, to
PRODUCTION with the resume flag set and to MANUAL without it, unarmed and with the jog flag clear, and GRANT_STATE says
ENDED. Robots that are not in SERVICE, or whose zone stays locked, keep their records, and no group is closed (R67,
R130, R143, R144). -/
def Obligations.GrantsExpireAndEnd : Prop :=
  (∀ (s : State) (i : PlaceId) (g : Grant), s.access.grants[i] = some g → s.time.ms = 999 →
     (s.time.uptime + 1 ≠ g.expiry → exec (.grantExpiry i) s = .next (settle s))
       ∧ (s.time.uptime + 1 = g.expiry →
         (g.state = .draining ∨ g.state = .isolating →
           exec (.grantExpiry i) s = .next (settle (endGrant i g s)))
         ∧ (g.state = .isOpen → openDoors s g = 0 → exec (.grantExpiry i) s = .next (settle (endGrant i g s)))
         ∧ (g.state = .isOpen → openDoors s g ≠ 0 →
           exec (.grantExpiry i) s = .next
             (settle (enterGrant i g .overdue (raiseEvent .grantOverdue i.val g.number (detail (openDoors s g)) s))))
         ∧ (g.state = .overdue ∨ g.state = .awaitingClose ∨ g.state = .isolationFailed →
           exec (.grantExpiry i) s = .next (settle s))))
    ∧ (∀ (s : State) (i : PlaceId) (g : Grant), s.access.grants[i] = some g →
        ∃ t : State, endGrant i g s = t
          ∧ t.access = { s.access with grants := s.access.grants.set i none }
          ∧ (∀ r : RobotId,
            let z := s.robots[r].zone
            let free := g.covers z = true ∧ s.access.zoneLatch[z] = false
              ∧ ∀ (k : PlaceId) (h : Grant), k ≠ i → s.access.grants[k] = some h → h.covers z = false
            (free → s.robots[r].mode = .service →
              t.robots[r] =
                { s.robots[r] with
                  mode := if s.robots[r].resume = true then .production else .manual
                  armed := false, resume := false, jog := false })
            ∧ (¬ free ∨ s.robots[r].mode ≠ .service → t.robots[r] = s.robots[r]))
          ∧ (t.events.queue.length < 64 → ∃ e : EventRecord, t.events.queue.getLast? = some e ∧ e.kind = .grantState
            ∧ e.unit = i.val + 48 ∧ e.detail1 = g.badge.setWidth 16 ∧ e.detail2 = (g.badge >>> 16).setWidth 16)
          ∧ keepsBut [.robots, .bus, .access, .events] s t)

/-! ## The host link -/

/-- A byte taken on RXD: in HUNT 0xB7 starts a frame and any other value changes nothing; in LENGTH 3..240 opens the
body and any other value abandons the frame, counts it and returns to HUNT; in BODY a byte that is not the last joins
the frame and sets the gap timer to 0 (R176, R177). LENGTH_ABANDON is the same byte. FRAME_CHECKED: the byte that
completes a frame ends it whatever the check finds. A mismatch is counted and dropped; a frame that matches joins the
buffer if it holds fewer than two, and is counted as overrun if it holds two (R176, R178, R179). GAP_TIMEOUT: the tick
that brings the gap timer to 4 abandons the frame and counts it (R177). REPLY_SENT leaves the transmitter idle (R180).
REQUEST_TAKEN: with a reply still to be sent nothing is taken, nor with an empty buffer, which is the model's choice
(notes/assumptions/3.md); a KIND that names no request is refused with UNKNOWN_KIND; a kind whose fields have another
size than the table's is refused with BAD_LENGTH; and an unknown FAULT_CLEAR target is refused with BAD_FIELD. Each
refusal carries no fields and takes the frame from the buffer alone (R180 to R182, R187); that the sum of KIND and 0x80
wraps for a KIND of 0x80 or above is the model's choice (notes/assumptions/44.md), and so is that GAP_TIMEOUT is sent
ahead of its tick (notes/assumptions/6.md); that the grants and the held robots are judged after it is its reading
(notes/assumptions/17.md). -/
def Obligations.BytesBecomeCheckedFrames : Prop :=
  (∀ (s : State) (b : Byte),
     (s.link.receiver = .hunt → b = 0xB7 →
       exec (.rxdByteTaken b) s = .next { s with link := { s.link with receiver := .length, gap := some 0 } })
       ∧ (s.link.receiver = .hunt → b ≠ 0xB7 → exec (.rxdByteTaken b) s = .next s)
       ∧ (s.link.receiver = .length → 3 ≤ b.toNat → b.toNat ≤ 240 →
         exec (.rxdByteTaken b) s = .next { s with link := { s.link with receiver := .body b [], gap := some 0 } })
       ∧ (s.link.receiver = .length → b.toNat < 3 ∨ 240 < b.toNat →
         exec (.rxdByteTaken b) s = .next
           { s with link :=
               { s.link with
                 receiver := .hunt, gap := none, lengthErrors := min (s.link.lengthErrors + 1) 65535 } }
         ∧ exec (.lengthAbandon b) s = exec (.rxdByteTaken b) s)
       ∧ ∀ (len : Byte) (bytes : List Byte), s.link.receiver = .body len bytes → bytes.length + 1 < len.toNat + 2 →
         exec (.rxdByteTaken b) s = .next
           { s with link := { s.link with receiver := .body len (bytes ++ [b]), gap := some 0 } })
    ∧ (∀ (s : State),
        (∀ (b len : Byte) (bytes : List Byte), s.link.receiver = .body len bytes → bytes.length + 1 = len.toNat + 2 →
          let whole := bytes ++ [b]
          let ended : Link := { s.link with receiver := .hunt, gap := none }
          let agrees : Prop :=
            frameCheck (len :: whole.take len.toNat) = whole.getD len.toNat 0 ++ whole.getD (len.toNat + 1) 0
          (¬ agrees →
            exec (.frameChecked b) s = .next
              { s with link := { ended with checkErrors := min (s.link.checkErrors + 1) 65535 } })
          ∧ (agrees → s.link.buffer.length < 2 →
            exec (.frameChecked b) s = .next
              { s with link :=
                  { ended with
                    buffer := s.link.buffer ++
                      [{ kind := whole.getD 0 0, tag := whole.getD 2 0 ++ whole.getD 1 0
                         fields := (whole.take len.toNat).drop 3 }] } })
          ∧ (agrees → 2 ≤ s.link.buffer.length →
            exec (.frameChecked b) s = .next
              { s with link := { ended with overrunErrors := min (s.link.overrunErrors + 1) 65535 } })
          ∧ exec (.rxdByteTaken b) s = exec (.frameChecked b) s)
          ∧ (s.link.gap = some 3 →
            exec .gapTimeout s = .next
              (settle
                { s with link :=
                    { s.link with receiver := .hunt, gap := none, gapErrors := min (s.link.gapErrors + 1) 65535 } }))
          ∧ exec .replySent s = .next { s with link := { s.link with sending := none } })
    ∧ (∀ s : State,
        (s.link.sending ≠ none ∨ s.link.buffer = [] → exec .requestTaken s = .next s)
          ∧ ∀ (f : Frame) (rest : List Frame), s.link.sending = none → s.link.buffer = f :: rest →
            let answered (code : ReplyCode) : Host.Outcome State Fault Refusal :=
              .next
                { s with link :=
                    { s.link with
                      buffer := rest
                      sending := some { kind := f.kind + 0x80, tag := f.tag, code := code, fields := [] } } }
            ((∀ c : Instr, ∀ y : Frame, requestFrame c = some y → y.kind ≠ f.kind) →
              exec .requestTaken s = answered .unknownKind)
            ∧ (∀ (c : Instr) (y : Frame), requestFrame c = some y → y.kind = f.kind → y.fields.length ≠ f.fields.length →
              exec .requestTaken s = answered .badLength)
            ∧ (∀ target number : Byte, f.kind = 0x33 → f.fields = [target, number] → 5 < target.toNat →
              exec .requestTaken s = answered .badField))

/-- The reading requests IDENT, STATUS, POWER_READ and TIME_READ, and TRACK_READ, ROBOT_READ, GRANT_READ and
COUNTER_READ of a place in range, taken with the link idle, are answered OK with their record and change nothing but the
reply (R21, R89, R126, R150, R156, R167, R183, R184). Their replies carry as many bytes as the tables of chapter 11
give. -/
def Obligations.ReadsChangeNothing : Prop :=
  ∀ (s : State) (tag : Half), s.linkIdle = true →
    let answered (kind : Byte) (fields : List Byte) : Host.Outcome State Fault Refusal :=
      .next
        { s with link := { s.link with sending := some { kind := kind, tag := tag, code := .ok, fields := fields } } }
    (exec (.ident tag) s = answered 0x81 (identRecord s) ∧ (identRecord s).length = 14)
      ∧ (exec (.status tag) s = answered 0x82 (statusRecord s) ∧ (statusRecord s).length = 100)
      ∧ (exec (.powerRead tag) s = answered 0xB2 (powerRecord s) ∧ (powerRecord s).length = 36)
      ∧ (∃ fields : List Byte, exec (.timeRead tag) s = answered 0xD1 fields ∧ fields.length = 16)
      ∧ (∀ p : Byte, p.toNat < s.track.length →
        exec (.trackRead tag p) s = answered 0x94 (slotRecord p.toNat s.track.length (s.slotAt p.toNat))
          ∧ (slotRecord p.toNat s.track.length (s.slotAt p.toNat)).length =
            17 + 4 * (s.slotAt p.toNat).verdicts.length)
      ∧ (∀ r : RobotId, exec (.robotRead tag (BitVec.ofNat 8 r.val)) s = answered 0xA3 (robotRecord s r)
        ∧ (robotRecord s r).length = 111)
      ∧ (∀ i : PlaceId, exec (.grantRead tag (BitVec.ofNat 8 i.val)) s = answered 0xC3 (grantRecord s i)
        ∧ (grantRecord s i).length = 39)
      ∧ (∀ i : CounterId, exec (.counterRead tag (BitVec.ofNat 8 i.val)) s = answered 0xE3 (counterRecord s i)
        ∧ (counterRecord s i).length = 25)

/-! ## Requests of the track side -/

/-- TRACK_CONFIG, taken with the link idle. Repeating the active values it is accepted and changes nothing, RUN high or
low; taken with RUN high and a value that differs it is refused with RUNNING, before the checks of R9, which is the
model's reading (notes/assumptions/18.md). With RUN low and a value that differs, every staged value becomes active
first, and the new values are checked with them: settings that fail the checks of R9 are refused with BAD_FIELD, which
activates nothing, and settings that pass are written, every phase at or above the new P is clamped, the deadlines and
confirm windows made active are judged, and last L changes (R6, R8 to R11, R42, R52; that order is the model's reading,
notes/assumptions/20.md; that the cameras' deadlines come before the gates' expiries, and gate A's before gate B's, is
its choice, notes/assumptions/38.md). The clamps set each phase at or above P to P−1 with PHASE_CLAMPED, cameras, gates
and the infeed window in increasing unit, and a counter at or above P to P−1 without an event (R10). So with L
unchanged, nothing staged, every phase below the new P and no slot past a deadline or a confirm window, P and the window
are set and the counter is clamped, and nothing else changes. -/
def Obligations.TrackConfigSetsThePitch : Prop :=
  (∀ (s : State) (tag pitch start stop : Half) (length : Byte), s.linkIdle = true →
     let request : Instr := .trackConfig tag pitch length start stop
     let differs := pitch.toNat ≠ s.pitch.length ∨ length.toNat ≠ s.track.length ∨ start.toNat ≠ s.pitch.windowStart
       ∨ stop.toNat ≠ s.pitch.windowEnd
     let pitched (u : State) : State :=
       { u with pitch :=
           { s.pitch with length := pitch.toNat, windowStart := start.toNat, windowEnd := stop.toNat } }
     let written : State :=
       pitched
         { s with
           cameras := Vector.ofFn fun n : CameraId =>
             { s.cameras[n] with
               cfg :=
                 { s.cameras[n].cfg with
                   phase := s.cameras[n].staged.phase.getD s.cameras[n].cfg.phase
                   mask := s.cameras[n].staged.mask.getD s.cameras[n].cfg.mask
                   required := s.cameras[n].staged.required.getD s.cameras[n].cfg.required
                   deadline := s.cameras[n].staged.deadline.getD s.cameras[n].cfg.deadline }
               staged := CameraStaged.absent }
           gates := Vector.ofFn fun g : GateId =>
             { s.gates[g] with
               cfg :=
                 { s.gates[g].cfg with
                   phase := s.gates[g].staged.phase.getD s.gates[g].cfg.phase
                   width := s.gates[g].staged.width.getD s.gates[g].cfg.width
                   mask := s.gates[g].staged.mask.getD s.gates[g].cfg.mask
                   window := s.gates[g].staged.window.getD s.gates[g].cfg.window }
               staged := GateStaged.absent } }
     let passes := settingsOk { written with track := { s.track with length := length.toNat } } = true
     (¬ differs → settingsOk s = true → exec request s = .next (accept 0x10 tag [] s))
       ∧ (differs → s.pins.run = true → exec request s = .next (refuse 0x10 tag .running s))
       ∧ (differs → s.pins.run = false → ¬ passes → exec request s = .next (refuse 0x10 tag .badField s))
       ∧ (differs → s.pins.run = false → passes →
         exec request s = .next
           (accept 0x10 tag []
             (changeLength length.toNat
               (forEach (allUnits 2) expireConfirm (forEach (allUnits 6) deadlineCheck (clampAll written))))))
       ∧ (differs → s.pins.run = false → length.toNat = s.track.length → settingsOk (pitched s) = true →
         start.toNat < pitch.toNat → stop.toNat < pitch.toNat →
         (∀ n : CameraId, s.cameras[n].staged = CameraStaged.absent ∧ s.cameras[n].cfg.phase < pitch.toNat
           ∧ ∀ p : Nat, s.cameras[n].cfg.position + s.cameras[n].cfg.deadline ≤ p → p < s.track.length →
             (s.slotAt p).awaits n = false) →
         (∀ g : GateId, s.gates[g].staged = GateStaged.absent ∧ s.gates[g].cfg.phase < pitch.toNat
           ∧ ∀ e ∈ s.gates[g].confirm, e.age < s.gates[g].cfg.window) →
         exec request s = .next
           (accept 0x10 tag []
             { s with pitch :=
                 { s.pitch with
                   length := pitch.toNat, windowStart := start.toNat, windowEnd := stop.toNat
                   counter := min s.pitch.counter (pitch.toNat - 1) } })))
    ∧ (∀ s : State,
        let top := s.pitch.length - 1
        let phases : List (Nat × Nat) :=
          ((allUnits 6).map fun n : CameraId => (n.val, s.cameras[n].cfg.phase))
            ++ ((allUnits 2).map fun g : GateId => (6 + g.val, s.gates[g].cfg.phase))
            ++ [(8, s.pitch.windowStart), (9, s.pitch.windowEnd)]
        let told : State :=
          forEach (phases.filter fun x => decide (s.pitch.length ≤ x.2))
            (fun x u => raiseEvent .phaseClamped x.1 (detail x.2) (detail top) u) s
        clampAll s =
          { s with
            pitch :=
              { s.pitch with
                counter := min s.pitch.counter top, windowStart := min s.pitch.windowStart top
                windowEnd := min s.pitch.windowEnd top }
            cameras := Vector.ofFn fun n : CameraId =>
              { s.cameras[n] with cfg := { s.cameras[n].cfg with phase := min s.cameras[n].cfg.phase top } }
            gates := Vector.ofFn fun g : GateId =>
              { s.gates[g] with cfg := { s.gates[g].cfg with phase := min s.gates[g].cfg.phase top } }
            events := told.events })

/-- CAMERA_CONFIG of fields in range, taken with the link idle; a written position 0 is 1. With RUN high a change of
enabled or position is refused with RUNNING, and running settings that pass the checks are staged. With RUN low they
become active at once and other staged values stay; enabling makes the camera WAITING with lists, trigger number,
receiver and counts cleared; disabling or moving an enabled camera makes its AWAITED entries MISSING, by the old or the
new required flag, and empties its lists. A phase at or above P is clamped with PHASE_CLAMPED, and settings that fail
the checks are refused with BAD_FIELD (R6 to R10, R24, R25). That a moved camera's entries become MISSING by the new
required flag and a disabled one's by the old, and that RUNNING comes before the checks, are the model's reading
(notes/assumptions/18.md, 19.md). -/
def Obligations.CameraConfigStagesOrActs : Prop :=
  ∀ (s : State) (tag : Half) (n : CameraId) (position deadline : Byte) (phase mask : Half) (required : Bool),
    s.linkIdle = true → 1 ≤ deadline.toNat → deadline.toNat ≤ 15 → mask &&& 0xF000 = 0 →
    let place := max 1 position.toNat
    let old := s.cameras[n]
    let flag (b : Bool) : Byte := if b = true then 1 else 0
    let request (enabled : Bool) : Instr :=
      .cameraConfig tag (BitVec.ofNat 8 n.val) (flag enabled) position phase mask (flag required) deadline
    let settings (enabled : Bool) : CameraSettings :=
      { enabled := enabled, position := place, phase := phase.toNat, mask := mask, required := required
        deadline := deadline.toNat }
    let withSettings (enabled : Bool) : State :=
      { s with cameras := s.cameras.set n { old with cfg := settings enabled, staged := CameraStaged.absent } }
    let othersUnstaged := (∀ k : CameraId, k ≠ n → s.cameras[k].staged = CameraStaged.absent)
      ∧ ∀ g : GateId, s.gates[g].staged = GateStaged.absent
    let othersCalm := (∀ k : CameraId, k ≠ n → s.cameras[k].cfg.phase < s.pitch.length
        ∧ ∀ p : Nat, s.cameras[k].cfg.position + s.cameras[k].cfg.deadline ≤ p → p < s.track.length →
          (s.slotAt p).awaits k = false)
      ∧ (∀ g : GateId, s.gates[g].cfg.phase < s.pitch.length ∧ ∀ e ∈ s.gates[g].confirm, e.age < s.gates[g].cfg.window)
      ∧ s.pitch.windowStart < s.pitch.length ∧ s.pitch.windowEnd < s.pitch.length ∧ s.pitch.counter < s.pitch.length
    let ownCalm := ∀ p : Nat, place + deadline.toNat ≤ p → p < s.track.length → (s.slotAt p).awaits n = false
    (∀ enabled : Bool, s.pins.run = true → enabled ≠ old.cfg.enabled ∨ place ≠ old.cfg.position →
      exec (request enabled) s = .next (refuse 0x11 tag .running s))
      ∧ (∀ enabled : Bool, s.pins.run = false ∨ (enabled = old.cfg.enabled ∧ place = old.cfg.position) →
        othersUnstaged → settingsOk (withSettings enabled) = false →
        exec (request enabled) s = .next (refuse 0x11 tag .badField s))
      ∧ (s.pins.run = true → place = old.cfg.position → settingsOk (withSettings old.cfg.enabled) = true →
        let staged (phase : Nat) : State :=
          { s with
            cameras := s.cameras.set n
              { old with staged :=
                  { phase := some phase, mask := some mask, required := some required
                    deadline := some deadline.toNat } } }
        (phase.toNat < s.pitch.length →
          exec (request old.cfg.enabled) s = .next (accept 0x11 tag [] (staged phase.toNat)))
        ∧ (s.pitch.length ≤ phase.toNat →
          exec (request old.cfg.enabled) s = .next
            (accept 0x11 tag []
              (raiseEvent .phaseClamped n.val (detail phase.toNat) (detail (s.pitch.length - 1))
                (staged (s.pitch.length - 1))))))
      ∧ (s.pins.run = false → place = old.cfg.position → othersCalm → ownCalm →
        settingsOk (withSettings old.cfg.enabled) = true →
        let active (phase : Nat) : State :=
          { s with
            cameras := s.cameras.set n
              { old with cfg := { settings old.cfg.enabled with phase := phase }, staged := CameraStaged.absent } }
        (phase.toNat < s.pitch.length →
          exec (request old.cfg.enabled) s = .next (accept 0x11 tag [] (active phase.toNat)))
        ∧ (s.pitch.length ≤ phase.toNat →
          exec (request old.cfg.enabled) s = .next
            (accept 0x11 tag []
              (raiseEvent .phaseClamped n.val (detail phase.toNat) (detail (s.pitch.length - 1))
                (active (s.pitch.length - 1))))))
      ∧ (s.pins.run = false → old.cfg.enabled = false → phase.toNat < s.pitch.length → othersUnstaged → othersCalm →
        ownCalm → settingsOk (withSettings true) = true →
        exec (request true) s = .next
          (accept 0x11 tag []
            { s with
              cameras := s.cameras.set n
                { old with
                  cfg := settings true, staged := CameraStaged.absent, state := .waiting, trigger := 0
                  outstanding := [], late := [], silence := 0, receiver := .idle, bits := [], strayCount := 0 } }))
      ∧ (∀ enabled : Bool, s.pins.run = false → old.cfg.enabled = true → enabled = false ∨ place ≠ old.cfg.position →
        phase.toNat < s.pitch.length → othersUnstaged → othersCalm → settingsOk (withSettings enabled) = true →
        ∃ t : State, exec (request enabled) s = .next (accept 0x11 tag [] t)
          ∧ t.cameras = s.cameras.set n
            (if enabled = true then
              { old with cfg := settings true, staged := CameraStaged.absent, outstanding := [], late := [] }
            else
              { old with
                cfg := settings false, staged := CameraStaged.absent, outstanding := [], late := [], state := .off
                receiver := .idle, bits := [], pulse := false })
          ∧ (∀ p : Nat, p < 128 →
            t.slotAt p =
              if p < s.track.length then (s.slotAt p).miss n (if enabled = true then required else old.cfg.required)
              else s.slotAt p)
          ∧ t.track.head = s.track.head ∧ t.track.nextTicket = s.track.nextTicket ∧ t.track.length = s.track.length
          ∧ t.track.tallies = s.track.tallies ∧ keepsBut [.track, .cameras] s t)

/-- GATE_CONFIG of fields in range and FILLER_CONFIG, taken with the link idle. GATE_CONFIG: with RUN high a change of
enabled or position is refused with RUNNING, and running settings that pass the checks, gate A's confirm window against
gate B's position among them, are staged. With RUN low, settings that leave an enabled gate where it is, or that concern
a disabled gate, become active at once and keep its lists, output, count and latch; disabling or moving an enabled gate
drops its confirm entries and its pending fire with reason 3, keeps the count and the latch, and de-energises the output
of a gate that is disabled (R6 to R10, R45, R46). FILLER_CONFIG: repeating the active values it is accepted and changes
nothing; with RUN high a change is refused with RUNNING, with RUN low and a job held with STATE, and with values that
fail the checks with BAD_FIELD; otherwise, with nothing staged and nothing past a limit, it sets the three values (R6,
R9, R71). That the confirm entries leave before the pending fire, and that RUNNING and STATE come before the checks, are
the model's reading (notes/assumptions/18.md, 20.md). -/
def Obligations.GateAndFillerConfig : Prop :=
  (∀ (s : State) (tag : Half) (g : GateId) (position width window : Byte) (phase mask : Half),
     s.linkIdle = true → 1 ≤ width.toNat → width.toNat ≤ 250 → 1 ≤ window.toNat → window.toNat ≤ 8 →
     let old := s.gates[g]
     let flag (b : Bool) : Byte := if b = true then 1 else 0
     let request (enabled : Bool) : Instr :=
       .gateConfig tag (BitVec.ofNat 8 g.val) (flag enabled) position phase width mask window
     let settings (enabled : Bool) : GateSettings :=
       { enabled := enabled, position := position.toNat, phase := phase.toNat, width := width.toNat, mask := mask
         window := window.toNat }
     let withSettings (enabled : Bool) : State :=
       { s with gates := s.gates.set g { old with cfg := settings enabled, staged := GateStaged.absent } }
     let checked (enabled : Bool) := settingsOk (withSettings enabled) = true ∧ gateWindowOk (withSettings enabled) = true
     let othersUnstaged := (∀ k : CameraId, s.cameras[k].staged = CameraStaged.absent)
       ∧ ∀ k : GateId, k ≠ g → s.gates[k].staged = GateStaged.absent
     let othersCalm := (∀ k : CameraId, s.cameras[k].cfg.phase < s.pitch.length
         ∧ ∀ p : Nat, s.cameras[k].cfg.position + s.cameras[k].cfg.deadline ≤ p → p < s.track.length →
           (s.slotAt p).awaits k = false)
       ∧ (∀ k : GateId, k ≠ g → s.gates[k].cfg.phase < s.pitch.length
         ∧ ∀ e ∈ s.gates[k].confirm, e.age < s.gates[k].cfg.window)
       ∧ s.pitch.windowStart < s.pitch.length ∧ s.pitch.windowEnd < s.pitch.length ∧ s.pitch.counter < s.pitch.length
     (∀ enabled : Bool, s.pins.run = true → enabled ≠ old.cfg.enabled ∨ position.toNat ≠ old.cfg.position →
       exec (request enabled) s = .next (refuse 0x12 tag .running s))
       ∧ (∀ enabled : Bool, s.pins.run = false ∨ (enabled = old.cfg.enabled ∧ position.toNat = old.cfg.position) →
         othersUnstaged → ¬ checked enabled → exec (request enabled) s = .next (refuse 0x12 tag .badField s))
       ∧ (s.pins.run = true → position.toNat = old.cfg.position → checked old.cfg.enabled →
         let staged (phase : Nat) : State :=
           { s with
             gates := s.gates.set g
               { old with staged :=
                   { phase := some phase, width := some width.toNat, mask := some mask
                     window := some window.toNat } } }
         (phase.toNat < s.pitch.length →
           exec (request old.cfg.enabled) s = .next (accept 0x12 tag [] (staged phase.toNat)))
         ∧ (s.pitch.length ≤ phase.toNat →
           exec (request old.cfg.enabled) s = .next
             (accept 0x12 tag []
               (raiseEvent .phaseClamped (6 + g.val) (detail phase.toNat) (detail (s.pitch.length - 1))
                 (staged (s.pitch.length - 1))))))
       ∧ (∀ enabled : Bool, s.pins.run = false →
         (enabled = old.cfg.enabled ∧ position.toNat = old.cfg.position) ∨ (old.cfg.enabled = false ∧ othersUnstaged) →
         phase.toNat < s.pitch.length → othersCalm → (∀ e ∈ old.confirm, e.age < window.toNat) → checked enabled →
         exec (request enabled) s = .next (accept 0x12 tag [] (withSettings enabled)))
       ∧ (∀ enabled : Bool, s.pins.run = false → old.cfg.enabled = true →
         enabled = false ∨ position.toNat ≠ old.cfg.position → phase.toNat < s.pitch.length → othersUnstaged →
         othersCalm → checked enabled → ticketsConsecutive s →
         let tickets := old.confirm.map ConfirmEntry.ticket ++ old.pendingFire.toList
         ∃ t : State, exec (request enabled) s = .next (accept 0x12 tag [] t)
           ∧ t.gates = s.gates.set g
             { old with
               cfg := settings enabled, staged := GateStaged.absent, confirm := [], pendingFire := none
               output := if enabled = true then old.output else none }
           ∧ (∀ p : Nat, p < s.track.length →
             t.slotAt p =
               if (s.slotAt p).ticket ∈ tickets then { s.slotAt p with reject := .unconfirmed } else s.slotAt p)
           ∧ (∀ (k : Nat) (ticket : Half), tickets[k]? = some ticket → s.events.queue.length + k < 64 →
             t.events.queue[s.events.queue.length + k]? = some
               { s.recordOf .rejectUnconfirmed g.val ticket 3 with
                 sequence := s.events.nextSequence + BitVec.ofNat 16 k })
           ∧ t.track.head = s.track.head ∧ t.track.nextTicket = s.track.nextTicket ∧ t.track.length = s.track.length
           ∧ t.track.tallies = s.track.tallies ∧ keepsBut [.track, .gates, .events] s t))
    ∧ (∀ (s : State) (tag : Half) (entry exit approach : Byte), s.linkIdle = true →
        let new : FillSection := { entry := entry.toNat, exit := exit.toNat, approach := approach.toNat }
        let request : Instr := .fillerConfig tag entry exit approach
        (new = s.fill → settingsOk s = true → exec request s = .next (accept 0x13 tag [] s))
          ∧ (new ≠ s.fill → s.pins.run = true → exec request s = .next (refuse 0x13 tag .running s))
          ∧ (∀ r : RobotId, new ≠ s.fill → s.pins.run = false → s.robots[r].job ≠ none →
            exec request s = .next (refuse 0x13 tag .state s))
          ∧ (new ≠ s.fill → s.pins.run = false → (∀ r : RobotId, s.robots[r].job = none) →
            (∀ k : CameraId, s.cameras[k].staged = CameraStaged.absent ∧ s.cameras[k].cfg.phase < s.pitch.length
              ∧ ∀ p : Nat, p < s.track.length → (s.slotAt p).awaits k = false) →
            (∀ g : GateId, s.gates[g].staged = GateStaged.absent ∧ s.gates[g].cfg.phase < s.pitch.length
              ∧ s.gates[g].confirm = []) →
            s.pitch.windowStart < s.pitch.length → s.pitch.windowEnd < s.pitch.length →
            s.pitch.counter < s.pitch.length →
            exec request s = .next
              (if settingsOk { s with fill := new } = true then accept 0x13 tag [] { s with fill := new }
                else refuse 0x13 tag .badField s)))

/-- Taken with the link idle: TRACK_TALLY answers with the seven tallies as they stand and clears them if the flag is
set (R20). TRACK_FLUSH is refused with RUNNING while RUN is high; with RUN low it makes every slot EMPTY with its ticket
kept, empties the cameras' and gates' lists, aborts every job, which leaves its valve de-energised with the close check
started, its window closed, its fill cycle counted if its valve had opened, and FILL_ABORT raised, keeps head, next
ticket, length and tallies, and answers with the slots it found OCCUPIED or REMOVED and those of them to be rejected
(R22, R43, R61, R78, R79, R157). -/
def Obligations.TallyAndFlush : Prop :=
  ∀ (s : State) (tag : Half), s.linkIdle = true →
    exec (.trackTally tag 0) s = .next (accept 0x15 tag s.track.tallies.bytes s)
      ∧ exec (.trackTally tag 1) s = .next
        (accept 0x15 tag s.track.tallies.bytes
          { s with track := { s.track with tallies := ⟨0, 0, 0, 0, 0, 0, 0⟩ } })
      ∧ (s.pins.run = true → exec (.trackFlush tag) s = .next (refuse 0x16 tag .running s))
      ∧ (s.pins.run = false → s.track.length ≤ 128 →
        ∃ (u : State) (fields : List Byte),
          exec (.trackFlush tag) s = .next (accept 0x16 tag fields (settle u))
            ∧ fields =
              [BitVec.ofNat 8 ((List.range s.track.length).countP fun p => (s.slotAt p).occupancy != .empty),
                BitVec.ofNat 8 ((List.range s.track.length).countP fun p =>
                  (s.slotAt p).occupancy != .empty && (s.slotAt p).decision.isSome)]
            ∧ (∀ p : Nat, p < s.track.length → u.slotAt p = Slot.fresh (s.slotAt p).ticket)
            ∧ u.track.head = s.track.head ∧ u.track.nextTicket = s.track.nextTicket
            ∧ u.track.length = s.track.length ∧ u.track.tallies = s.track.tallies
            ∧ (∀ n : CameraId, u.cameras[n] = { s.cameras[n] with outstanding := [], late := [] })
            ∧ (∀ g : GateId, u.gates[g] = { s.gates[g] with confirm := [], pendingFire := none })
            ∧ (∀ r : RobotId, u.robots[r] = { s.robots[r] with job := none }) ∧ fillsAborted (fun _ => true) s u
            ∧ keepsBut [.track, .cameras, .gates, .robots, .doses, .bus, .counters, .events] s u)

/-! ## Requests of the robots and of the cabinet -/

/-- Taken with the link idle: ROBOT_CONFIG of an OFF robot with no queued command sets its zone and an address that no
other robot has and that lies in 1..30, and nothing else; an address out of range or in use is refused with BAD_FIELD,
and a robot in use with STATE (R62). RECIPE_LOAD of a recipe in range becomes active at once for a robot with no job and
no active recipe, with 16 × A0 as its estimate, and is staged otherwise; a recipe out of range is refused (R91 to R93).
-/
def Obligations.RobotConfigAndRecipes : Prop :=
  ∀ (s : State) (tag : Half) (r : RobotId), s.linkIdle = true →
    (∀ (z : GroupId) (address : Byte),
      let request : Instr := .robotConfig tag (BitVec.ofNat 8 r.val) (BitVec.ofNat 8 z.val) address
      let allowed := 1 ≤ address.toNat ∧ address.toNat ≤ 30
        ∧ ∀ q : RobotId, q ≠ r → s.robots[q].address ≠ address.toNat
      (¬ allowed → exec request s = .next (refuse 0x20 tag .badField s))
      ∧ (allowed → s.robots[r].mode ≠ .off ∨ s.bus.queues[r].entries ≠ [] →
        exec request s = .next (refuse 0x20 tag .state s))
      ∧ (allowed → s.robots[r].mode = .off → s.bus.queues[r].entries = [] →
        exec request s = .next
          (accept 0x20 tag []
            { s with robots := s.robots.set r { s.robots[r] with zone := z, address := address.toNat } })))
      ∧ ∀ (target underTol overTol minOpen afterflowMax settle initial : Half) (kFactor : Long) (shift : Byte),
        let request : Instr :=
          .recipeLoad tag (BitVec.ofNat 8 r.val) target kFactor underTol overTol minOpen afterflowMax shift settle initial
        let recipe : Recipe :=
          { target := target.toNat, kFactor := kFactor.toNat, underTol := underTol.toNat, overTol := overTol.toNat
            minOpen := minOpen.toNat, afterflowMax := afterflowMax.toNat, shift := shift.toNat
            settle := settle.toNat, initial := initial.toNat }
        (recipe.inRange = false → exec request s = .next (refuse 0x21 tag .badField s))
          ∧ (recipe.inRange = true → s.robots[r].job = none → s.doses[r].active = none →
            exec request s = .next
              (accept 0x21 tag [1]
                { s with
                  doses := s.doses.set r
                    { s.doses[r] with active := some recipe, staged := none, estimate := 16 * initial.toNat } }))
          ∧ (recipe.inRange = true → s.robots[r].job ≠ none ∨ s.doses[r].active ≠ none →
            exec request s = .next
              (accept 0x21 tag [0] { s with doses := s.doses.set r { s.doses[r] with staged := some recipe } }))

/-- ROBOT_MODE, taken with the link idle. Naming the present mode it is accepted and changes nothing; in a locked zone
it is refused with STATE; OFF to MANUAL starts the polls with a failure count of 0; MANUAL to OFF drops the POLL
entries; MANUAL to PRODUCTION is refused with UNLOADED for an unloaded counter, with STATE without an active recipe or a
last status of RETRACTED, and otherwise leaves the robot in PRODUCTION, unarmed; every other change is refused with
STATE. PRODUCTION to MANUAL aborts the job the robot holds, if any, and disarms it. Each change raises ROBOT_MODE (R64,
R69, R78, R86). -/
def Obligations.RobotModeFollowsTheTable : Prop :=
  ∀ (s : State) (tag : Half) (r : RobotId), s.linkIdle = true →
    let request (mode : Byte) : Instr := .robotMode tag (BitVec.ofNat 8 r.val) mode
    let refused (code : ReplyCode) : Host.Outcome State Fault Refusal := .next (refuse 0x22 tag code s)
    let changed (new old : Half) (u : State) : Host.Outcome State Fault Refusal :=
      .next (accept 0x22 tag [] (settle (raiseEvent .robotMode r.val new old u)))
    let isLocked := locked s s.robots[r].zone
    let unloaded := s.counters[cycleCounter r].state = .unloaded ∨ s.counters[valveCounter r].state = .unloaded
    let ready := s.doses[r].active ≠ none ∧ s.robots[r].lastStatus = some .retracted
    ((s.robots[r].mode = .off → exec (request 0) s = .next (accept 0x22 tag [] s))
      ∧ (s.robots[r].mode = .manual → exec (request 1) s = .next (accept 0x22 tag [] s))
      ∧ (s.robots[r].mode = .production → exec (request 2) s = .next (accept 0x22 tag [] s)))
      ∧ (∀ mode : Byte, 2 < mode.toNat → exec (request mode) s = refused .badField)
      ∧ (isLocked = true →
        (s.robots[r].mode ≠ .off → exec (request 0) s = refused .state)
          ∧ (s.robots[r].mode ≠ .manual → exec (request 1) s = refused .state)
          ∧ (s.robots[r].mode ≠ .production → exec (request 2) s = refused .state))
      ∧ (isLocked = false →
        (s.robots[r].mode = .off →
          exec (request 2) s = refused .state
            ∧ exec (request 1) s = changed 1 0
              { s with
                robots := s.robots.set r { s.robots[r] with mode := .manual, failures := 0, pollTimer := 0 }
                time := { s.time with ahead := s.time.ahead.filter fun share => share != .poll r } })
        ∧ (s.robots[r].mode = .manual →
          exec (request 0) s = changed 0 1
              { s with
                robots := s.robots.set r { s.robots[r] with mode := .off }
                bus :=
                  { s.bus with queues :=
                      s.bus.queues.set r (s.bus.queues[r].keep fun e => !e.command.isPoll) } }
            ∧ (unloaded → exec (request 2) s = refused .unloaded)
            ∧ (¬ unloaded → ¬ ready → exec (request 2) s = refused .state)
            ∧ (¬ unloaded → ready →
              exec (request 2) s = changed 2 1
                { s with robots := s.robots.set r { s.robots[r] with mode := .production, armed := false } }))
        ∧ (s.robots[r].mode = .production →
          exec (request 0) s = refused .state
            ∧ exec (request 1) s = changed 1 2
              { failJob r .aborted .aborted s with
                robots := s.robots.set r { s.robots[r] with mode := .manual, armed := false, job := none } })
        ∧ (s.robots[r].mode = .service ∨ s.robots[r].mode = .faulted ∨ s.robots[r].mode = .lost →
          exec (request 0) s = refused .state ∧ exec (request 1) s = refused .state
            ∧ exec (request 2) s = refused .state))

/-- GROUP_CLOSE and GROUP_OPEN, taken with the link idle. The first failing check of the close decides its reply, in the
rule's order; a close that passes in OPEN makes the group CLOSING, counts one operation and, with a report of closed
already standing, makes it CLOSED; in CLOSING and CLOSED it changes nothing. An open is always accepted: it leaves no
coil energised and answers with the group's state (R115 to R117, R119). That the operation is counted between the two
GROUP_STATE events is the model's choice (notes/assumptions/41.md). An open of a CLOSED group disarms its zone's robots
and aborts their jobs (R124). Each such job leaves its slot ABORTED with class 14 and, if its valve had opened, its
volume, its valve de-energised with the close check started, its window closed, its fill cycle counted and FILL_ABORT
raised (R78, R79, R157). -/
def Obligations.GroupsCloseAndOpen : Prop :=
  ∀ (s : State) (tag : Half) (g : GroupId), s.linkIdle = true →
    let request : Instr := .groupClose tag (BitVec.ofNat 8 g.val)
    let st := s.groups[g].state
    let counter := s.counters[contactorCounter g].state
    let refused (code : ReplyCode) : Host.Outcome State Fault Refusal := .next (refuse 0x30 tag code s)
    let faulty := st = .faultPullin ∨ st = .faultWeld
    let switched := s.mainSwitch.state = .on ∧ s.pins.msa = true ∧ s.pins.msb = false ∧ s.mainSwitch.latch = false
    (faulty → exec request s = refused .state)
      ∧ (¬ faulty → locked s g = true ∨ ¬ switched → exec request s = refused .interlock)
      ∧ (¬ faulty → locked s g = false → switched →
        (counter = .unloaded → exec request s = refused .unloaded)
        ∧ (counter = .overrun → exec request s = refused .interlock)
        ∧ (counter ≠ .unloaded → counter ≠ .overrun →
          (st = .opening → exec request s = refused .state)
          ∧ (st = .closing ∨ st = .closed → exec request s = .next (accept 0x30 tag [] s))
          ∧ (st = .isOpen →
            exec request s = .next
              (accept 0x30 tag []
                (settle
                  (let closing := countOn (contactorCounter g)
                    (raiseEvent .groupState g.val 1 0
                      { s with groups := s.groups.set g { state := .closing, timer := some 0 } })
                  if s.pins.mirror[g] = true then
                    raiseEvent .groupState g.val 2 1
                      { closing with groups := s.groups.set g { state := .closed, timer := none } }
                  else closing))))))
      ∧ ∃ u : State, exec (.groupOpen tag (BitVec.ofNat 8 g.val)) s = .next
          (accept 0x31 tag [BitVec.ofNat 8 (settle u).groups[g].state.code] (settle u))
        ∧ coil u g = false ∧ (coil s g = false → u = s)
        ∧ (coil s g = true → u.groups[g].state = if s.pins.mirror[g] = true then .opening else .isOpen)
        ∧ jobsAborted (fun r => decide (s.robots[r].zone = g ∧ st = .closed)) s u
        ∧ (∀ k : GroupId, k ≠ g → u.groups[k] = s.groups[k])
        ∧ (∀ r : RobotId, s.robots[r].zone ≠ g ∨ st ≠ .closed → u.robots[r] = s.robots[r])
        ∧ (∀ r : RobotId, s.robots[r].zone = g → st = .closed →
          u.robots[r] = { s.robots[r] with job := none, armed := false })
        ∧ keepsBut [.track, .robots, .doses, .bus, .groups, .counters, .events] s u

/-- FAULT_CLEAR naming a gate clears its latch and its count whether the latch was set or not, and changes no cause, no
confirm entry and no slot; two further counted rejects latch the gate again (R56). FAULT_CLEAR naming the switch is
taken by the contact pair: with the ON pair or the OFF pair the latch is cleared, whether it was set or not, with ALIKE
it is refused with STATE and the latch kept; no cause and no switch state changes, and the DISCREPANCY cause leaves with
the next LINE_RELEASE taken with the latch clear (R112). The requests are taken with the link idle. -/
def Obligations.GateAndSwitchFaultsAreCleared : Prop :=
  ∀ (s : State) (tag : Half), s.linkIdle = true →
    (∀ g : GateId,
      exec (.faultClearGate tag (BitVec.ofNat 8 g.val)) s = .next
          (accept 0x33 tag []
            { s with gates := s.gates.set g { s.gates[g] with latch := false, unconfirmed := 0 } })
        ∧ ∀ (first second : Half) (t : State),
          t.gates[g].latch = false → t.gates[g].unconfirmed = 0 →
          (unconfirm g .window second (unconfirm g .window first t)).gates[g].latch = true)
      ∧ (s.pins.msa ≠ s.pins.msb →
        exec (.faultClearSwitch tag 0) s = .next
          (accept 0x33 tag [] { s with mainSwitch := { s.mainSwitch with latch := false } }))
      ∧ (s.pins.msa = s.pins.msb → exec (.faultClearSwitch tag 0) s = .next (refuse 0x33 tag .state s))
      ∧ (s.mainSwitch.latch = false →
        ∃ t : State, exec (.lineRelease tag) s = .next t ∧ t.stops.discrepancy = false ∧ keepsBut [.stops, .link] s t)

/-- Taken with the link idle: FAULT_CLEAR naming a zone or the cabinet is accepted with its door closed and clears its
own latch alone, whether it was set or not; with the door open it is refused with STATE (R148). FAULT_CLEAR naming a
robot makes a FAULTED robot that does not report FAULT MANUAL, and is refused with STATE otherwise (R65). FAULT_CLEAR
naming a group makes a FAULT_PULLIN group OPEN, and a FAULT_WELD group OPEN with its contactor reported open, and is
refused with STATE otherwise (R122). LINE_RELEASE removes every cause whose condition no longer holds and keeps the
others (R59). LSTOP is asserted while the set holds a cause, and released by LINE_RELEASE alone, directly or as the
oldest frame of the buffer, and only where no cause stays (R58 to R60). -/
def Obligations.LatchesFaultsAndCausesAreCleared : Prop :=
  (∀ (s : State) (tag : Half), s.linkIdle = true →
     (∀ z : GroupId,
       (s.pins.doors[zoneDoor z] = false →
         exec (.faultClearZone tag (BitVec.ofNat 8 z.val)) s = .next
           (accept 0x33 tag []
             (settle { s with access := { s.access with zoneLatch := s.access.zoneLatch.set z false } })))
       ∧ (s.pins.doors[zoneDoor z] = true →
         exec (.faultClearZone tag (BitVec.ofNat 8 z.val)) s = .next (refuse 0x33 tag .state s)))
       ∧ (s.pins.doors[cabinetDoor] = false →
         exec (.faultClearCabinet tag 0) s = .next
           (accept 0x33 tag [] { s with access := { s.access with cabinetLatch := false } }))
       ∧ (s.pins.doors[cabinetDoor] = true →
         exec (.faultClearCabinet tag 0) s = .next (refuse 0x33 tag .state s)))
    ∧ (∀ (s : State) (tag : Half), s.linkIdle = true →
        (∀ r : RobotId,
          let faulty := ∃ code : Byte, s.robots[r].lastStatus = some (.fault code)
          let request : Instr := .faultClearRobot tag (BitVec.ofNat 8 r.val)
          (s.robots[r].mode = .faulted → ¬ faulty →
            exec request s = .next
              (accept 0x33 tag []
                (settle
                  (raiseEvent .robotMode r.val 1 5
                    { s with robots := s.robots.set r { s.robots[r] with mode := .manual, reason := none } }))))
          ∧ (s.robots[r].mode ≠ .faulted ∨ faulty → exec request s = .next (refuse 0x33 tag .state s)))
          ∧ (∀ g : GroupId,
            let clears := s.groups[g].state = .faultPullin ∨ (s.groups[g].state = .faultWeld ∧ s.pins.mirror[g] = false)
            let request : Instr := .faultClearGroup tag (BitVec.ofNat 8 g.val)
            (clears → exec request s = .next (accept 0x33 tag [] (settle (enterGroup g .isOpen s))))
            ∧ (¬ clears → exec request s = .next (refuse 0x33 tag .state s)))
          ∧ ∃ (t : State) (reply : Reply), exec (.lineRelease tag) s = .next t ∧ t.link.sending = some reply
            ∧ reply.code = .ok ∧ reply.fields = [BitVec.ofNat 8 (setNumber t.stops.flags)]
            ∧ t.stops.escape = false
            ∧ t.stops.gateFault = (s.stops.gateFault && (s.gates[(0 : GateId)].latch || s.gates[(1 : GateId)].latch))
            ∧ t.stops.switchOff = (s.stops.switchOff && decide (s.mainSwitch.state ≠ .on))
            ∧ t.stops.discrepancy = (s.stops.discrepancy && s.mainSwitch.latch)
            ∧ t.stops.cabinetIntrusion = (s.stops.cabinetIntrusion && s.access.cabinetLatch)
            ∧ (lstop t = true ↔
              (s.stops.gateFault = true ∧ (s.gates[(0 : GateId)].latch = true ∨ s.gates[(1 : GateId)].latch = true))
                ∨ (s.stops.switchOff = true ∧ s.mainSwitch.state ≠ .on)
                ∨ (s.stops.discrepancy = true ∧ s.mainSwitch.latch = true)
                ∨ (s.stops.cabinetIntrusion = true ∧ s.access.cabinetLatch = true))
            ∧ keepsBut [.stops, .link] s t)
    ∧ (∀ s : State,
        lstop s = true ↔
          s.stops.escape = true ∨ s.stops.gateFault = true ∨ s.stops.switchOff = true ∨ s.stops.discrepancy = true
            ∨ s.stops.cabinetIntrusion = true)
    ∧ (∀ (c : Instr) (s t : State), exec c s = .next t → lstop s = true → lstop t = false →
        (∃ tag : Half, c = .lineRelease tag)
          ∨ (c = .requestTaken ∧ s.link.sending = none
            ∧ ∃ (f : Frame) (rest : List Frame), s.link.buffer = f :: rest ∧ f.kind = 0x34 ∧ f.fields = []))

/-! ## Requests of service access, counters and events -/

/-- Taken with the link idle: GRANT_REQUEST that passes every check takes the lowest empty place with the next grant
number, in DRAINING, with its expiry 60 times the duration after the uptime, and the number that follows is one no live
grant carries; a CABINET grant covers all four zones. A full table is refused with FULL, an empty zone set with STATE, a
covered weld or a grant of the other sort with INTERLOCK, and a duration or a zone set out of range with BAD_FIELD
(R129, R131, R132). -/
def Obligations.GrantRequestsTakeAPlace : Prop :=
  ∀ (s : State) (tag duration : Half) (kind zones : Byte) (badge : Long) (k : GrantKind),
    s.linkIdle = true → kindField kind = some k →
    let request : Instr := .grantRequest tag kind zones badge duration
    let refused (code : ReplyCode) : Host.Outcome State Fault Refusal := .next (refuse 0x40 tag code s)
    let set : ZoneSet := if k = .cabinet then 0xF else zones.setWidth 4
    let ranged := 1 ≤ duration.toNat ∧ duration.toNat ≤ 480 ∧ (k = .cabinet ∨ zones.toNat < 16)
    let welded := ∃ z : GroupId, set.getLsbD z.val = true ∧ s.groups[z].state = .faultWeld
    let conflict := ∃ (i : PlaceId) (g : Grant), s.access.grants[i] = some g ∧ g.zones &&& set ≠ 0
      ∧ ((k = .jog ∧ g.kind ≠ .jog) ∨ (k ≠ .jog ∧ g.kind = .jog))
    (¬ ranged → exec request s = refused .badField)
      ∧ (ranged → (∀ i : PlaceId, s.access.grants[i] ≠ none) → exec request s = refused .full)
      ∧ ∀ i : PlaceId, ranged → s.access.grants[i] = none → (∀ y : PlaceId, y < i → s.access.grants[y] ≠ none) →
        (set = 0 → exec request s = refused .state)
        ∧ (set ≠ 0 → welded ∨ conflict → exec request s = refused .interlock)
        ∧ (set ≠ 0 → ¬ welded → ¬ conflict →
          let g : Grant :=
            { number := s.access.nextNumber, kind := k, zones := set, badge := badge, duration := duration.toNat
              drainStart := s.time.uptime, expiry := s.time.uptime + BitVec.ofNat 32 (60 * duration.toNat)
              drainTimer := 0, state := .draining, doorOpened := false }
          ∃ placed granted : State,
            placed.access.grants = s.access.grants.set i (some g)
              ∧ placed.access.zoneLatch = s.access.zoneLatch ∧ placed.access.cabinetLatch = s.access.cabinetLatch
              ∧ numberLive placed placed.access.nextNumber = false
              ∧ keepsBut [.access, .events] s placed ∧ granted = settle placed
              ∧ exec request s = .next
                (accept 0x40 tag
                  (byte1 i.val ++ byte2 s.access.nextNumber.toNat ++ byte1 (stateAfter granted i)
                    ++ byte4 g.expiry.toNat) granted))

/-- GRANT_END and GRANT_EXTEND by number, taken with the link idle. A number no live grant carries is NOT_FOUND.
DRAINING and ISOLATION_FAILED end at once; ISOLATING, OPEN and OVERDUE end with every door closed and otherwise wait in
AWAITING_CLOSE, where a further GRANT_END changes nothing (R140). GRANT_EXTEND adds its minutes to the remaining time,
up to 28,800 s in all, from DRAINING, ISOLATING and OPEN, and counts from now and returns to OPEN from OVERDUE; it is
refused with STATE in the other states (R142). -/
def Obligations.GrantsAreEndedAndExtended : Prop :=
  ∀ (s : State) (tag number minutes : Half), s.linkIdle = true →
    ((∀ (i : PlaceId) (g : Grant), s.access.grants[i] = some g → g.number ≠ number) →
      exec (.grantEnd tag number) s = .next (refuse 0x41 tag .notFound s)
        ∧ (1 ≤ minutes.toNat → minutes.toNat ≤ 480 →
          exec (.grantExtend tag number minutes) s = .next (refuse 0x42 tag .notFound s)))
      ∧ ∀ (i : PlaceId) (g : Grant), grantsDistinct s → s.access.grants[i] = some g → g.number = number →
        let ended : State := endGrant i g s
        let waits : State := enterGrant i g .awaitingClose s
        (g.state = .draining ∨ g.state = .isolationFailed →
          exec (.grantEnd tag number) s = .next (accept 0x41 tag [6] (settle ended)))
        ∧ (g.state = .isolating ∨ g.state = .isOpen ∨ g.state = .overdue →
          (openDoors s g = 0 → exec (.grantEnd tag number) s = .next (accept 0x41 tag [6] (settle ended)))
          ∧ (openDoors s g ≠ 0 → exec (.grantEnd tag number) s = .next (accept 0x41 tag [4] (settle waits))))
        ∧ (g.state = .awaitingClose → exec (.grantEnd tag number) s = .next (accept 0x41 tag [4] (settle s)))
        ∧ (1 ≤ minutes.toNat → minutes.toNat ≤ 480 →
          (g.state = .awaitingClose ∨ g.state = .isolationFailed →
            exec (.grantExtend tag number minutes) s = .next (refuse 0x42 tag .state s))
          ∧ (g.state = .draining ∨ g.state = .isolating ∨ g.state = .isOpen →
            let seconds := min ((g.expiry - s.time.uptime).toNat + 60 * minutes.toNat) 28800
            let expiry := s.time.uptime + BitVec.ofNat 32 seconds
            exec (.grantExtend tag number minutes) s = .next
              (accept 0x42 tag (byte1 g.state.code ++ byte4 expiry.toNat)
                (settle
                  { s with
                    access :=
                      { s.access with
                        grants := s.access.grants.set i
                          (some { g with expiry := expiry, duration := (seconds + 59) / 60 }) } })))
          ∧ (g.state = .overdue →
            let expiry := s.time.uptime + BitVec.ofNat 32 (60 * minutes.toNat)
            exec (.grantExtend tag number minutes) s = .next
              (accept 0x42 tag (2 :: byte4 expiry.toNat)
                (settle (enterGrant i { g with expiry := expiry, duration := minutes.toNat } .isOpen s)))))

/-- A count raises a total by one, up to its limit, computes the state afresh, and raises COUNTER_STATE exactly where
the state's rank rises; every other counter keeps its record (R159, R161, R162). COUNTER_LOAD adds its total to the
counts gathered while UNLOADED, up to the limit, and is refused with STATE for a loaded counter (R163). COUNTER_LIMITS
sets limits and margin, and the zone for counters 20 to 27 alone; a margin above 50 or a warn limit above the due limit
is refused with BAD_FIELD (R160). COUNTER_RESET under a qualifying grant clears total and remainder, and is refused with
INTERLOCK without one (R164). Each computes the state afresh, raises COUNTER_STATE for a higher rank and answers with
the record (R161, R162). The requests are taken with the link idle. -/
def Obligations.CountersCountAndAreSet : Prop :=
  (∀ (s : State) (i : CounterId),
     let c := { s.counters[i] with total := min (s.counters[i].total + 1) maxLong }
     let new := if c.state = .unloaded then .unloaded else c.computed
     let counted : State := { s with counters := s.counters.set i { c with state := new } }
     countOn i s =
       if s.counters[i].state.code < new.code then
         raiseEvent .counterState i.val (detail new.code) (detail s.counters[i].state.code) counted
       else counted)
    ∧ (∀ (s : State) (tag : Half) (i : CounterId), s.linkIdle = true →
        let number : Byte := BitVec.ofNat 8 i.val
        let stored (kind : Byte) (c : Counter) : Host.Outcome State Fault Refusal :=
          let u := settle
            (if s.counters[i].state.code < c.state.code then
              raiseEvent .counterState i.val (detail c.state.code) (detail s.counters[i].state.code)
                { s with counters := s.counters.set i c }
            else { s with counters := s.counters.set i c })
          .next (accept kind tag (counterRecord u i) u)
        let afresh (c : Counter) : Counter := if c.state = .unloaded then c else { c with state := c.computed }
        (∀ total : Long,
          (s.counters[i].state ≠ .unloaded →
            exec (.counterLoad tag number total) s = .next (refuse 0x60 tag .state s))
          ∧ (s.counters[i].state = .unloaded →
            exec (.counterLoad tag number total) s =
              stored 0x60
                (let c := { s.counters[i] with total := min (total.toNat + s.counters[i].total) maxLong }
                { c with state := c.computed })))
          ∧ (∀ (warn due : Long) (margin zone : Byte),
            (50 < margin.toNat ∨ due.toNat < warn.toNat →
              exec (.counterLimits tag number warn due margin zone) s = .next (refuse 0x61 tag .badField s))
            ∧ (margin.toNat ≤ 50 → warn.toNat ≤ due.toNat →
              (20 ≤ i.val → 4 ≤ zone.toNat →
                exec (.counterLimits tag number warn due margin zone) s = .next (refuse 0x61 tag .badField s))
              ∧ (∀ z : GroupId, 20 ≤ i.val ∧ zone.toNat = z.val ∨ i.val < 20 ∧ z = s.counters[i].zone →
                exec (.counterLimits tag number warn due margin zone) s =
                  stored 0x61
                    (afresh
                      { s.counters[i] with
                        warn := warn.toNat, due := due.toNat, margin := margin.toNat, zone := z }))))
          ∧ ((qualifyingPlace s i).isSome = false →
            exec (.counterReset tag number) s = .next (refuse 0x62 tag .interlock s))
          ∧ ((qualifyingPlace s i).isSome = true →
            exec (.counterReset tag number) s =
              stored 0x62 (afresh { s.counters[i] with total := 0, remainder := 0 })))

/-- An event raised with fewer than 64 records in the queue is entered at its end with the next sequence number and
machine time as it stands; with 64 it is turned away and counted lost, up to the limit, and takes no number. Nothing
else of the part changes (R168 to R170). EVENT_READ of n records, n in 1..8, taken with the link idle, delivers the
oldest ones, oldest first, and counts them; n out of range is refused with BAD_FIELD. With no event lost the rest of the
queue stays as it is; with events lost, one marker with the lost count follows the rest and the lost count is 0 (R170 to
R172). ATN is low while the queue holds a record: an event raised pulls it low, a read releases it with the last record
where no event is lost, and only EVENT_READ, directly or as the oldest frame of the buffer, and power-on reset release
it (R173, R174). -/
def Obligations.EventsAreEnteredAndDelivered : Prop :=
  (∀ (s : State) (kind : EventKind) (unit : Nat) (detail1 detail2 : Half),
     let t := raiseEvent kind unit detail1 detail2 s
     (s.events.queue.length < 64 →
       t.events.queue = s.events.queue ++
           [{ sequence := s.events.nextSequence, seconds := s.time.seconds, ms := s.time.ms, valid := s.time.valid
              kind := kind, unit := unit, detail1 := detail1, detail2 := detail2 }]
         ∧ t.events.nextSequence = s.events.nextSequence + 1 ∧ t.events.lost = s.events.lost)
       ∧ (64 ≤ s.events.queue.length →
         t.events.queue = s.events.queue ∧ t.events.nextSequence = s.events.nextSequence
           ∧ t.events.lost = if s.events.lost < maxLong then s.events.lost + 1 else s.events.lost)
       ∧ atnLow t = true ∧ keepsBut [.events] s t)
    ∧ (∀ (s : State) (tag : Half) (count : Byte), s.linkIdle = true →
        let n := count.toNat
        let taken := s.events.queue.take n
        let delivered := s.events.account.delivered + taken.countP EventRecord.accounted
        let marker : EventRecord :=
          { sequence := s.events.nextSequence, seconds := s.time.seconds, ms := s.time.ms, valid := s.time.valid
            kind := .eventsLost, unit := 0, detail1 := BitVec.ofNat 16 s.events.lost
            detail2 := BitVec.ofNat 16 (s.events.lost / 65536) }
        let answered (events : EventQueue) : Host.Outcome State Fault Refusal :=
          .next (accept 0x70 tag (byte1 taken.length ++ taken.flatMap EventRecord.bytes) { s with events := events })
        (n < 1 ∨ 8 < n → exec (.eventRead tag count) s = .next (refuse 0x70 tag .badField s))
          ∧ (1 ≤ n → n ≤ 8 → s.events.lost = 0 →
            exec (.eventRead tag count) s =
              answered
                { s.events with
                  queue := s.events.queue.drop n, account := { s.events.account with delivered := delivered } })
          ∧ (1 ≤ n → n ≤ 8 → s.events.lost ≠ 0 → n ≤ s.events.queue.length →
            exec (.eventRead tag count) s =
              answered
                { s.events with
                  queue := s.events.queue.drop n ++ [marker], nextSequence := s.events.nextSequence + 1, lost := 0
                  account := { s.events.account with delivered := delivered } })
          ∧ (1 ≤ n → n ≤ 8 → s.events.lost = 0 ∨ n ≤ s.events.queue.length →
            ∃ u : State, exec (.eventRead tag count) s = .next u
              ∧ (atnLow u = true ↔ n < s.events.queue.length ∨ s.events.lost ≠ 0)))
    ∧ (∀ s : State, atnLow s = true ↔ s.events.queue ≠ [])
    ∧ (∀ (c : Instr) (s t : State), exec c s = .next t → atnLow s = true → atnLow t = false →
        (∃ up baud : Bool, c = .powerOnReset up baud) ∨ (∃ (tag : Half) (count : Byte), c = .eventRead tag count)
          ∨ (c = .requestTaken ∧ s.link.sending = none
            ∧ ∃ (f : Frame) (rest : List Frame), s.link.buffer = f :: rest ∧ f.kind = 0x70 ∧ f.fields.length = 1))

/-- A request field out of its range, in a request taken with the link idle, is refused with BAD_FIELD and nothing else
changes: a unit number no unit has, a flag byte other than 0 and 1, a grant kind past 2, a number other than 0 with the
switch or the cabinet, a track position past the last, and the ranges of a camera's deadline and mask, of a gate's width
and window and of the minutes of a grant (R9, R24, R45, R142, R182, R187). -/
def Obligations.FieldsOutOfRangeAreRefused : Prop :=
  ∀ (s : State) (tag : Half) (unit b1 b2 b3 b4 : Byte) (h1 h2 h3 h4 h5 h6 h7 : Half) (l1 l2 : Long),
    s.linkIdle = true →
    let refused (kind : Byte) : Host.Outcome State Fault Refusal := .next (refuse kind tag .badField s)
    (6 ≤ unit.toNat ∨ 2 ≤ b1.toNat ∨ 2 ≤ b3.toNat ∨ b4 = 0 ∨ 15 < b4.toNat ∨ h2 &&& 0xF000 ≠ 0 →
      exec (.cameraConfig tag unit b1 b2 h1 h2 b3 b4) s = refused 0x11)
      ∧ (2 ≤ unit.toNat ∨ 2 ≤ b1.toNat ∨ b3 = 0 ∨ 250 < b3.toNat ∨ b4 = 0 ∨ 8 < b4.toNat →
        exec (.gateConfig tag unit b1 b2 h1 b3 h2 b4) s = refused 0x12)
      ∧ (s.track.length ≤ unit.toNat → exec (.trackRead tag unit) s = refused 0x14)
      ∧ (2 ≤ b1.toNat → exec (.trackTally tag b1) s = refused 0x15)
      ∧ (8 ≤ unit.toNat ∨ 4 ≤ b1.toNat → exec (.robotConfig tag unit b1 b2) s = refused 0x20)
      ∧ (8 ≤ unit.toNat →
        exec (.recipeLoad tag unit h1 l1 h2 h3 h4 h5 b1 h6 h7) s = refused 0x21
          ∧ exec (.robotMode tag unit b1) s = refused 0x22 ∧ exec (.robotRead tag unit) s = refused 0x23
          ∧ exec (.faultClearRobot tag unit) s = refused 0x33 ∧ exec (.grantRead tag unit) s = refused 0x43)
      ∧ (4 ≤ unit.toNat →
        exec (.groupClose tag unit) s = refused 0x30 ∧ exec (.groupOpen tag unit) s = refused 0x31
          ∧ exec (.faultClearGroup tag unit) s = refused 0x33 ∧ exec (.faultClearZone tag unit) s = refused 0x33)
      ∧ (2 ≤ unit.toNat → exec (.faultClearGate tag unit) s = refused 0x33)
      ∧ (unit ≠ 0 →
        exec (.faultClearSwitch tag unit) s = refused 0x33 ∧ exec (.faultClearCabinet tag unit) s = refused 0x33)
      ∧ (3 ≤ b1.toNat → exec (.grantRequest tag b1 b2 l1 h1) s = refused 0x40)
      ∧ (h2 = 0 ∨ 480 < h2.toNat → exec (.grantExtend tag h1 h2) s = refused 0x42)
      ∧ (28 ≤ unit.toNat →
        exec (.counterLoad tag unit l1) s = refused 0x60 ∧ exec (.counterLimits tag unit l1 l2 b1 b2) s = refused 0x61
          ∧ exec (.counterReset tag unit) s = refused 0x62 ∧ exec (.counterRead tag unit) s = refused 0x63)
end

