-- ==== Sys2Proof/Laws/State.lean ====
section
/-! SUPPORT. Laws/State.lean: what the basic updates of the state leave alone, one lemma for each update, and what they
leave in the place they write. Later proofs cite these and unfold no update. -/

namespace Sys2Proof.Machine

/-! ## What each basic update leaves alone -/

@[simp] theorem mapCamera_frame (s : State) (n : CameraId) (f : Camera → Camera) :
    (s.mapCamera n f).pins = s.pins ∧ (s.mapCamera n f).pitch = s.pitch ∧ (s.mapCamera n f).track = s.track
      ∧ (s.mapCamera n f).gates = s.gates ∧ (s.mapCamera n f).stops = s.stops ∧ (s.mapCamera n f).fill = s.fill
      ∧ (s.mapCamera n f).robots = s.robots ∧ (s.mapCamera n f).doses = s.doses ∧ (s.mapCamera n f).bus = s.bus
      ∧ (s.mapCamera n f).mainSwitch = s.mainSwitch ∧ (s.mapCamera n f).groups = s.groups
      ∧ (s.mapCamera n f).access = s.access ∧ (s.mapCamera n f).time = s.time
      ∧ (s.mapCamera n f).counters = s.counters ∧ (s.mapCamera n f).events = s.events
      ∧ (s.mapCamera n f).link = s.link ∧ (s.mapCamera n f).pending = s.pending := by
  and_intros <;> rfl

@[simp] theorem mapGate_frame (s : State) (g : GateId) (f : Gate → Gate) :
    (s.mapGate g f).pins = s.pins ∧ (s.mapGate g f).pitch = s.pitch ∧ (s.mapGate g f).track = s.track
      ∧ (s.mapGate g f).cameras = s.cameras ∧ (s.mapGate g f).stops = s.stops ∧ (s.mapGate g f).fill = s.fill
      ∧ (s.mapGate g f).robots = s.robots ∧ (s.mapGate g f).doses = s.doses ∧ (s.mapGate g f).bus = s.bus
      ∧ (s.mapGate g f).mainSwitch = s.mainSwitch ∧ (s.mapGate g f).groups = s.groups
      ∧ (s.mapGate g f).access = s.access ∧ (s.mapGate g f).time = s.time
      ∧ (s.mapGate g f).counters = s.counters ∧ (s.mapGate g f).events = s.events
      ∧ (s.mapGate g f).link = s.link ∧ (s.mapGate g f).pending = s.pending := by
  and_intros <;> rfl

@[simp] theorem mapRobot_frame (s : State) (r : RobotId) (f : Robot → Robot) :
    (s.mapRobot r f).pins = s.pins ∧ (s.mapRobot r f).pitch = s.pitch ∧ (s.mapRobot r f).track = s.track
      ∧ (s.mapRobot r f).cameras = s.cameras ∧ (s.mapRobot r f).gates = s.gates
      ∧ (s.mapRobot r f).stops = s.stops ∧ (s.mapRobot r f).fill = s.fill ∧ (s.mapRobot r f).doses = s.doses
      ∧ (s.mapRobot r f).bus = s.bus ∧ (s.mapRobot r f).mainSwitch = s.mainSwitch
      ∧ (s.mapRobot r f).groups = s.groups ∧ (s.mapRobot r f).access = s.access ∧ (s.mapRobot r f).time = s.time
      ∧ (s.mapRobot r f).counters = s.counters ∧ (s.mapRobot r f).events = s.events
      ∧ (s.mapRobot r f).link = s.link ∧ (s.mapRobot r f).pending = s.pending := by
  and_intros <;> rfl

@[simp] theorem mapDose_frame (s : State) (r : RobotId) (f : Dose → Dose) :
    (s.mapDose r f).pins = s.pins ∧ (s.mapDose r f).pitch = s.pitch ∧ (s.mapDose r f).track = s.track
      ∧ (s.mapDose r f).cameras = s.cameras ∧ (s.mapDose r f).gates = s.gates ∧ (s.mapDose r f).stops = s.stops
      ∧ (s.mapDose r f).fill = s.fill ∧ (s.mapDose r f).robots = s.robots ∧ (s.mapDose r f).bus = s.bus
      ∧ (s.mapDose r f).mainSwitch = s.mainSwitch ∧ (s.mapDose r f).groups = s.groups
      ∧ (s.mapDose r f).access = s.access ∧ (s.mapDose r f).time = s.time
      ∧ (s.mapDose r f).counters = s.counters ∧ (s.mapDose r f).events = s.events
      ∧ (s.mapDose r f).link = s.link ∧ (s.mapDose r f).pending = s.pending := by
  and_intros <;> rfl

@[simp] theorem mapGroup_frame (s : State) (g : GroupId) (f : Group → Group) :
    (s.mapGroup g f).pins = s.pins ∧ (s.mapGroup g f).pitch = s.pitch ∧ (s.mapGroup g f).track = s.track
      ∧ (s.mapGroup g f).cameras = s.cameras ∧ (s.mapGroup g f).gates = s.gates
      ∧ (s.mapGroup g f).stops = s.stops ∧ (s.mapGroup g f).fill = s.fill ∧ (s.mapGroup g f).robots = s.robots
      ∧ (s.mapGroup g f).doses = s.doses ∧ (s.mapGroup g f).bus = s.bus
      ∧ (s.mapGroup g f).mainSwitch = s.mainSwitch ∧ (s.mapGroup g f).access = s.access
      ∧ (s.mapGroup g f).time = s.time ∧ (s.mapGroup g f).counters = s.counters
      ∧ (s.mapGroup g f).events = s.events ∧ (s.mapGroup g f).link = s.link
      ∧ (s.mapGroup g f).pending = s.pending := by
  and_intros <;> rfl

@[simp] theorem mapQueue_frame (s : State) (r : RobotId) (f : RobotQueue → RobotQueue) :
    (s.mapQueue r f).pins = s.pins ∧ (s.mapQueue r f).pitch = s.pitch ∧ (s.mapQueue r f).track = s.track
      ∧ (s.mapQueue r f).cameras = s.cameras ∧ (s.mapQueue r f).gates = s.gates
      ∧ (s.mapQueue r f).stops = s.stops ∧ (s.mapQueue r f).fill = s.fill ∧ (s.mapQueue r f).robots = s.robots
      ∧ (s.mapQueue r f).doses = s.doses ∧ (s.mapQueue r f).mainSwitch = s.mainSwitch
      ∧ (s.mapQueue r f).groups = s.groups ∧ (s.mapQueue r f).access = s.access ∧ (s.mapQueue r f).time = s.time
      ∧ (s.mapQueue r f).counters = s.counters ∧ (s.mapQueue r f).events = s.events
      ∧ (s.mapQueue r f).link = s.link ∧ (s.mapQueue r f).pending = s.pending := by
  and_intros <;> rfl

@[simp] theorem mapTallies_frame (s : State) (f : Tallies → Tallies) :
    (s.mapTallies f).pins = s.pins ∧ (s.mapTallies f).pitch = s.pitch ∧ (s.mapTallies f).cameras = s.cameras
      ∧ (s.mapTallies f).gates = s.gates ∧ (s.mapTallies f).stops = s.stops ∧ (s.mapTallies f).fill = s.fill
      ∧ (s.mapTallies f).robots = s.robots ∧ (s.mapTallies f).doses = s.doses ∧ (s.mapTallies f).bus = s.bus
      ∧ (s.mapTallies f).mainSwitch = s.mainSwitch ∧ (s.mapTallies f).groups = s.groups
      ∧ (s.mapTallies f).access = s.access ∧ (s.mapTallies f).time = s.time
      ∧ (s.mapTallies f).counters = s.counters ∧ (s.mapTallies f).events = s.events
      ∧ (s.mapTallies f).link = s.link ∧ (s.mapTallies f).pending = s.pending := by
  and_intros <;> rfl

@[simp] theorem putGrant_frame (s : State) (i : PlaceId) (g : Option Grant) :
    (s.putGrant i g).pins = s.pins ∧ (s.putGrant i g).pitch = s.pitch ∧ (s.putGrant i g).track = s.track
      ∧ (s.putGrant i g).cameras = s.cameras ∧ (s.putGrant i g).gates = s.gates
      ∧ (s.putGrant i g).stops = s.stops ∧ (s.putGrant i g).fill = s.fill ∧ (s.putGrant i g).robots = s.robots
      ∧ (s.putGrant i g).doses = s.doses ∧ (s.putGrant i g).bus = s.bus
      ∧ (s.putGrant i g).mainSwitch = s.mainSwitch ∧ (s.putGrant i g).groups = s.groups
      ∧ (s.putGrant i g).time = s.time ∧ (s.putGrant i g).counters = s.counters
      ∧ (s.putGrant i g).events = s.events ∧ (s.putGrant i g).link = s.link
      ∧ (s.putGrant i g).pending = s.pending := by
  and_intros <;> rfl

@[simp] theorem enterRecord_frame (kind : EventKind) (unit : Nat) (detail1 detail2 : Half) (s : State) :
    (enterRecord kind unit detail1 detail2 s).pins = s.pins
      ∧ (enterRecord kind unit detail1 detail2 s).pitch = s.pitch
      ∧ (enterRecord kind unit detail1 detail2 s).track = s.track
      ∧ (enterRecord kind unit detail1 detail2 s).cameras = s.cameras
      ∧ (enterRecord kind unit detail1 detail2 s).gates = s.gates
      ∧ (enterRecord kind unit detail1 detail2 s).stops = s.stops
      ∧ (enterRecord kind unit detail1 detail2 s).fill = s.fill
      ∧ (enterRecord kind unit detail1 detail2 s).robots = s.robots
      ∧ (enterRecord kind unit detail1 detail2 s).doses = s.doses
      ∧ (enterRecord kind unit detail1 detail2 s).bus = s.bus
      ∧ (enterRecord kind unit detail1 detail2 s).mainSwitch = s.mainSwitch
      ∧ (enterRecord kind unit detail1 detail2 s).groups = s.groups
      ∧ (enterRecord kind unit detail1 detail2 s).access = s.access
      ∧ (enterRecord kind unit detail1 detail2 s).time = s.time
      ∧ (enterRecord kind unit detail1 detail2 s).counters = s.counters
      ∧ (enterRecord kind unit detail1 detail2 s).link = s.link
      ∧ (enterRecord kind unit detail1 detail2 s).pending = s.pending := by
  and_intros <;> rfl

/-- Raising an event gives the part another event queue and nothing else. -/
theorem raiseEvent_eq (kind : EventKind) (unit : Nat) (detail1 detail2 : Half) (s : State) :
    ∃ queue : EventQueue, raiseEvent kind unit detail1 detail2 s = { s with events := queue } := by
  dsimp only [raiseEvent]
  split_ifs <;> exact ⟨_, rfl⟩

@[simp] theorem raiseEvent_frame (kind : EventKind) (unit : Nat) (detail1 detail2 : Half) (s : State) :
    (raiseEvent kind unit detail1 detail2 s).pins = s.pins
      ∧ (raiseEvent kind unit detail1 detail2 s).pitch = s.pitch
      ∧ (raiseEvent kind unit detail1 detail2 s).track = s.track
      ∧ (raiseEvent kind unit detail1 detail2 s).cameras = s.cameras
      ∧ (raiseEvent kind unit detail1 detail2 s).gates = s.gates
      ∧ (raiseEvent kind unit detail1 detail2 s).stops = s.stops
      ∧ (raiseEvent kind unit detail1 detail2 s).fill = s.fill
      ∧ (raiseEvent kind unit detail1 detail2 s).robots = s.robots
      ∧ (raiseEvent kind unit detail1 detail2 s).doses = s.doses
      ∧ (raiseEvent kind unit detail1 detail2 s).bus = s.bus
      ∧ (raiseEvent kind unit detail1 detail2 s).mainSwitch = s.mainSwitch
      ∧ (raiseEvent kind unit detail1 detail2 s).groups = s.groups
      ∧ (raiseEvent kind unit detail1 detail2 s).access = s.access
      ∧ (raiseEvent kind unit detail1 detail2 s).time = s.time
      ∧ (raiseEvent kind unit detail1 detail2 s).counters = s.counters
      ∧ (raiseEvent kind unit detail1 detail2 s).link = s.link
      ∧ (raiseEvent kind unit detail1 detail2 s).pending = s.pending := by
  obtain ⟨queue, e⟩ := raiseEvent_eq kind unit detail1 detail2 s
  simp only [e, and_self]

@[simp] theorem addEscape_frame (s : State) :
    (addEscape s).pins = s.pins ∧ (addEscape s).pitch = s.pitch ∧ (addEscape s).track = s.track
      ∧ (addEscape s).cameras = s.cameras ∧ (addEscape s).gates = s.gates ∧ (addEscape s).fill = s.fill
      ∧ (addEscape s).robots = s.robots ∧ (addEscape s).doses = s.doses ∧ (addEscape s).bus = s.bus
      ∧ (addEscape s).mainSwitch = s.mainSwitch ∧ (addEscape s).groups = s.groups
      ∧ (addEscape s).access = s.access ∧ (addEscape s).time = s.time ∧ (addEscape s).counters = s.counters
      ∧ (addEscape s).events = s.events ∧ (addEscape s).link = s.link ∧ (addEscape s).pending = s.pending := by
  and_intros <;> rfl

@[simp] theorem addGateFault_frame (s : State) :
    (addGateFault s).pins = s.pins ∧ (addGateFault s).pitch = s.pitch ∧ (addGateFault s).track = s.track
      ∧ (addGateFault s).cameras = s.cameras ∧ (addGateFault s).gates = s.gates ∧ (addGateFault s).fill = s.fill
      ∧ (addGateFault s).robots = s.robots ∧ (addGateFault s).doses = s.doses ∧ (addGateFault s).bus = s.bus
      ∧ (addGateFault s).mainSwitch = s.mainSwitch ∧ (addGateFault s).groups = s.groups
      ∧ (addGateFault s).access = s.access ∧ (addGateFault s).time = s.time
      ∧ (addGateFault s).counters = s.counters ∧ (addGateFault s).events = s.events
      ∧ (addGateFault s).link = s.link ∧ (addGateFault s).pending = s.pending := by
  and_intros <;> rfl

@[simp] theorem addSwitchCause_frame (s : State) :
    (addSwitchCause s).pins = s.pins ∧ (addSwitchCause s).pitch = s.pitch ∧ (addSwitchCause s).track = s.track
      ∧ (addSwitchCause s).cameras = s.cameras ∧ (addSwitchCause s).gates = s.gates
      ∧ (addSwitchCause s).fill = s.fill ∧ (addSwitchCause s).robots = s.robots
      ∧ (addSwitchCause s).doses = s.doses ∧ (addSwitchCause s).bus = s.bus
      ∧ (addSwitchCause s).mainSwitch = s.mainSwitch ∧ (addSwitchCause s).groups = s.groups
      ∧ (addSwitchCause s).access = s.access ∧ (addSwitchCause s).time = s.time
      ∧ (addSwitchCause s).counters = s.counters ∧ (addSwitchCause s).events = s.events
      ∧ (addSwitchCause s).link = s.link ∧ (addSwitchCause s).pending = s.pending := by
  and_intros <;> rfl

@[simp] theorem addDiscrepancy_frame (s : State) :
    (addDiscrepancy s).pins = s.pins ∧ (addDiscrepancy s).pitch = s.pitch ∧ (addDiscrepancy s).track = s.track
      ∧ (addDiscrepancy s).cameras = s.cameras ∧ (addDiscrepancy s).gates = s.gates
      ∧ (addDiscrepancy s).fill = s.fill ∧ (addDiscrepancy s).robots = s.robots
      ∧ (addDiscrepancy s).doses = s.doses ∧ (addDiscrepancy s).bus = s.bus
      ∧ (addDiscrepancy s).mainSwitch = s.mainSwitch ∧ (addDiscrepancy s).groups = s.groups
      ∧ (addDiscrepancy s).access = s.access ∧ (addDiscrepancy s).time = s.time
      ∧ (addDiscrepancy s).counters = s.counters ∧ (addDiscrepancy s).events = s.events
      ∧ (addDiscrepancy s).link = s.link ∧ (addDiscrepancy s).pending = s.pending := by
  and_intros <;> rfl

@[simp] theorem addCabinetIntrusion_frame (s : State) :
    (addCabinetIntrusion s).pins = s.pins ∧ (addCabinetIntrusion s).pitch = s.pitch
      ∧ (addCabinetIntrusion s).track = s.track ∧ (addCabinetIntrusion s).cameras = s.cameras
      ∧ (addCabinetIntrusion s).gates = s.gates ∧ (addCabinetIntrusion s).fill = s.fill
      ∧ (addCabinetIntrusion s).robots = s.robots ∧ (addCabinetIntrusion s).doses = s.doses
      ∧ (addCabinetIntrusion s).bus = s.bus ∧ (addCabinetIntrusion s).mainSwitch = s.mainSwitch
      ∧ (addCabinetIntrusion s).groups = s.groups ∧ (addCabinetIntrusion s).access = s.access
      ∧ (addCabinetIntrusion s).time = s.time ∧ (addCabinetIntrusion s).counters = s.counters
      ∧ (addCabinetIntrusion s).events = s.events ∧ (addCabinetIntrusion s).link = s.link
      ∧ (addCabinetIntrusion s).pending = s.pending := by
  and_intros <;> rfl

@[simp] theorem putSlot_frame (p : Nat) (sl : Slot) (s : State) :
    (putSlot p sl s).pins = s.pins ∧ (putSlot p sl s).pitch = s.pitch ∧ (putSlot p sl s).cameras = s.cameras
      ∧ (putSlot p sl s).gates = s.gates ∧ (putSlot p sl s).stops = s.stops ∧ (putSlot p sl s).fill = s.fill
      ∧ (putSlot p sl s).robots = s.robots ∧ (putSlot p sl s).doses = s.doses ∧ (putSlot p sl s).bus = s.bus
      ∧ (putSlot p sl s).mainSwitch = s.mainSwitch ∧ (putSlot p sl s).groups = s.groups
      ∧ (putSlot p sl s).access = s.access ∧ (putSlot p sl s).time = s.time
      ∧ (putSlot p sl s).counters = s.counters ∧ (putSlot p sl s).events = s.events
      ∧ (putSlot p sl s).link = s.link ∧ (putSlot p sl s).pending = s.pending := by
  and_intros <;> rfl

@[simp] theorem editSlotAt_frame (p : Nat) (f : Slot → Slot) (s : State) :
    (editSlotAt p f s).pins = s.pins ∧ (editSlotAt p f s).pitch = s.pitch
      ∧ (editSlotAt p f s).cameras = s.cameras ∧ (editSlotAt p f s).gates = s.gates
      ∧ (editSlotAt p f s).stops = s.stops ∧ (editSlotAt p f s).fill = s.fill
      ∧ (editSlotAt p f s).robots = s.robots ∧ (editSlotAt p f s).doses = s.doses
      ∧ (editSlotAt p f s).bus = s.bus ∧ (editSlotAt p f s).mainSwitch = s.mainSwitch
      ∧ (editSlotAt p f s).groups = s.groups ∧ (editSlotAt p f s).access = s.access
      ∧ (editSlotAt p f s).time = s.time ∧ (editSlotAt p f s).counters = s.counters
      ∧ (editSlotAt p f s).events = s.events ∧ (editSlotAt p f s).link = s.link
      ∧ (editSlotAt p f s).pending = s.pending := by
  and_intros <;> rfl

@[simp] theorem passMoment_frame (s : State) :
    (passMoment s).pins = s.pins ∧ (passMoment s).pitch = s.pitch ∧ (passMoment s).track = s.track
      ∧ (passMoment s).cameras = s.cameras ∧ (passMoment s).gates = s.gates ∧ (passMoment s).stops = s.stops
      ∧ (passMoment s).fill = s.fill ∧ (passMoment s).robots = s.robots ∧ (passMoment s).doses = s.doses
      ∧ (passMoment s).mainSwitch = s.mainSwitch ∧ (passMoment s).groups = s.groups
      ∧ (passMoment s).access = s.access ∧ (passMoment s).time = s.time ∧ (passMoment s).counters = s.counters
      ∧ (passMoment s).events = s.events ∧ (passMoment s).link = s.link
      ∧ (passMoment s).pending = s.pending := by
  and_intros <;> rfl

@[simp] theorem raiseBroadcast_frame (s : State) :
    (raiseBroadcast s).pins = s.pins ∧ (raiseBroadcast s).pitch = s.pitch ∧ (raiseBroadcast s).track = s.track
      ∧ (raiseBroadcast s).cameras = s.cameras ∧ (raiseBroadcast s).gates = s.gates
      ∧ (raiseBroadcast s).stops = s.stops ∧ (raiseBroadcast s).fill = s.fill
      ∧ (raiseBroadcast s).robots = s.robots ∧ (raiseBroadcast s).doses = s.doses
      ∧ (raiseBroadcast s).mainSwitch = s.mainSwitch ∧ (raiseBroadcast s).groups = s.groups
      ∧ (raiseBroadcast s).access = s.access ∧ (raiseBroadcast s).time = s.time
      ∧ (raiseBroadcast s).counters = s.counters ∧ (raiseBroadcast s).events = s.events
      ∧ (raiseBroadcast s).link = s.link ∧ (raiseBroadcast s).pending = s.pending := by
  and_intros <;> rfl

@[simp] theorem sendReply_frame (kind : Byte) (tag : Half) (code : ReplyCode) (fields : List Byte) (s : State) :
    (sendReply kind tag code fields s).pins = s.pins ∧ (sendReply kind tag code fields s).pitch = s.pitch
      ∧ (sendReply kind tag code fields s).track = s.track
      ∧ (sendReply kind tag code fields s).cameras = s.cameras
      ∧ (sendReply kind tag code fields s).gates = s.gates ∧ (sendReply kind tag code fields s).stops = s.stops
      ∧ (sendReply kind tag code fields s).fill = s.fill ∧ (sendReply kind tag code fields s).robots = s.robots
      ∧ (sendReply kind tag code fields s).doses = s.doses ∧ (sendReply kind tag code fields s).bus = s.bus
      ∧ (sendReply kind tag code fields s).mainSwitch = s.mainSwitch
      ∧ (sendReply kind tag code fields s).groups = s.groups
      ∧ (sendReply kind tag code fields s).access = s.access ∧ (sendReply kind tag code fields s).time = s.time
      ∧ (sendReply kind tag code fields s).counters = s.counters
      ∧ (sendReply kind tag code fields s).events = s.events
      ∧ (sendReply kind tag code fields s).pending = s.pending := by
  and_intros <;> rfl

@[simp] theorem refuse_frame (kind : Byte) (tag : Half) (code : ReplyCode) (s : State) :
    (refuse kind tag code s).pins = s.pins ∧ (refuse kind tag code s).pitch = s.pitch
      ∧ (refuse kind tag code s).track = s.track ∧ (refuse kind tag code s).cameras = s.cameras
      ∧ (refuse kind tag code s).gates = s.gates ∧ (refuse kind tag code s).stops = s.stops
      ∧ (refuse kind tag code s).fill = s.fill ∧ (refuse kind tag code s).robots = s.robots
      ∧ (refuse kind tag code s).doses = s.doses ∧ (refuse kind tag code s).bus = s.bus
      ∧ (refuse kind tag code s).mainSwitch = s.mainSwitch ∧ (refuse kind tag code s).groups = s.groups
      ∧ (refuse kind tag code s).access = s.access ∧ (refuse kind tag code s).time = s.time
      ∧ (refuse kind tag code s).counters = s.counters ∧ (refuse kind tag code s).events = s.events
      ∧ (refuse kind tag code s).pending = s.pending := by
  and_intros <;> rfl

@[simp] theorem accept_frame (kind : Byte) (tag : Half) (fields : List Byte) (s : State) :
    (accept kind tag fields s).pins = s.pins ∧ (accept kind tag fields s).pitch = s.pitch
      ∧ (accept kind tag fields s).track = s.track ∧ (accept kind tag fields s).cameras = s.cameras
      ∧ (accept kind tag fields s).gates = s.gates ∧ (accept kind tag fields s).stops = s.stops
      ∧ (accept kind tag fields s).fill = s.fill ∧ (accept kind tag fields s).robots = s.robots
      ∧ (accept kind tag fields s).doses = s.doses ∧ (accept kind tag fields s).bus = s.bus
      ∧ (accept kind tag fields s).mainSwitch = s.mainSwitch ∧ (accept kind tag fields s).groups = s.groups
      ∧ (accept kind tag fields s).access = s.access ∧ (accept kind tag fields s).time = s.time
      ∧ (accept kind tag fields s).counters = s.counters ∧ (accept kind tag fields s).events = s.events
      ∧ (accept kind tag fields s).pending = s.pending := by
  and_intros <;> rfl

@[simp] theorem setSwitch_frame (st : SwitchState) (alike : Option Nat) (s : State) :
    (setSwitch st alike s).pins = s.pins ∧ (setSwitch st alike s).pitch = s.pitch
      ∧ (setSwitch st alike s).track = s.track ∧ (setSwitch st alike s).cameras = s.cameras
      ∧ (setSwitch st alike s).gates = s.gates ∧ (setSwitch st alike s).stops = s.stops
      ∧ (setSwitch st alike s).fill = s.fill ∧ (setSwitch st alike s).robots = s.robots
      ∧ (setSwitch st alike s).doses = s.doses ∧ (setSwitch st alike s).bus = s.bus
      ∧ (setSwitch st alike s).groups = s.groups ∧ (setSwitch st alike s).access = s.access
      ∧ (setSwitch st alike s).time = s.time ∧ (setSwitch st alike s).counters = s.counters
      ∧ (setSwitch st alike s).events = s.events ∧ (setSwitch st alike s).link = s.link
      ∧ (setSwitch st alike s).pending = s.pending := by
  and_intros <;> rfl

@[simp] theorem setZoneLatch_frame (z : GroupId) (on : Bool) (s : State) :
    (setZoneLatch z on s).pins = s.pins ∧ (setZoneLatch z on s).pitch = s.pitch
      ∧ (setZoneLatch z on s).track = s.track ∧ (setZoneLatch z on s).cameras = s.cameras
      ∧ (setZoneLatch z on s).gates = s.gates ∧ (setZoneLatch z on s).stops = s.stops
      ∧ (setZoneLatch z on s).fill = s.fill ∧ (setZoneLatch z on s).robots = s.robots
      ∧ (setZoneLatch z on s).doses = s.doses ∧ (setZoneLatch z on s).bus = s.bus
      ∧ (setZoneLatch z on s).mainSwitch = s.mainSwitch ∧ (setZoneLatch z on s).groups = s.groups
      ∧ (setZoneLatch z on s).time = s.time ∧ (setZoneLatch z on s).counters = s.counters
      ∧ (setZoneLatch z on s).events = s.events ∧ (setZoneLatch z on s).link = s.link
      ∧ (setZoneLatch z on s).pending = s.pending := by
  and_intros <;> rfl

@[simp] theorem setPitchCounter_frame (n : Nat) (s : State) :
    (setPitchCounter n s).pins = s.pins ∧ (setPitchCounter n s).track = s.track
      ∧ (setPitchCounter n s).cameras = s.cameras ∧ (setPitchCounter n s).gates = s.gates
      ∧ (setPitchCounter n s).stops = s.stops ∧ (setPitchCounter n s).fill = s.fill
      ∧ (setPitchCounter n s).robots = s.robots ∧ (setPitchCounter n s).doses = s.doses
      ∧ (setPitchCounter n s).bus = s.bus ∧ (setPitchCounter n s).mainSwitch = s.mainSwitch
      ∧ (setPitchCounter n s).groups = s.groups ∧ (setPitchCounter n s).access = s.access
      ∧ (setPitchCounter n s).time = s.time ∧ (setPitchCounter n s).counters = s.counters
      ∧ (setPitchCounter n s).events = s.events ∧ (setPitchCounter n s).link = s.link
      ∧ (setPitchCounter n s).pending = s.pending := by
  and_intros <;> rfl

@[simp] theorem mapLink_frame (s : State) (f : Link → Link) :
    (s.mapLink f).pins = s.pins ∧ (s.mapLink f).pitch = s.pitch ∧ (s.mapLink f).track = s.track
      ∧ (s.mapLink f).cameras = s.cameras ∧ (s.mapLink f).gates = s.gates ∧ (s.mapLink f).stops = s.stops
      ∧ (s.mapLink f).fill = s.fill ∧ (s.mapLink f).robots = s.robots ∧ (s.mapLink f).doses = s.doses
      ∧ (s.mapLink f).bus = s.bus ∧ (s.mapLink f).mainSwitch = s.mainSwitch ∧ (s.mapLink f).groups = s.groups
      ∧ (s.mapLink f).access = s.access ∧ (s.mapLink f).time = s.time ∧ (s.mapLink f).counters = s.counters
      ∧ (s.mapLink f).events = s.events ∧ (s.mapLink f).pending = s.pending := by
  and_intros <;> rfl

/-! ## What each basic update leaves in the place it writes, and in the others -/

theorem updateAt_get {α : Type} {n : Nat} (v : Vector α n) (i k : Fin n) (f : α → α) :
    (updateAt v i f)[k] = if k = i then f v[i] else v[k] := by
  unfold updateAt
  by_cases h : k = i
  · subst h; simp
  · have e : i.val ≠ k.val := fun e => h (Fin.ext e.symm)
    simp [h, Vector.getElem_set_ne, e]

theorem set_get {α : Type} {n : Nat} (v : Vector α n) (i k : Fin n) (x : α) :
    (v.set i x)[k] = if k = i then x else v[k] := by
  by_cases h : k = i
  · subst h; simp
  · have e : i.val ≠ k.val := fun e => h (Fin.ext e.symm)
    simp [h, Vector.getElem_set_ne, e]

theorem mapCamera_get (s : State) (n k : CameraId) (f : Camera → Camera) :
    (s.mapCamera n f).cameras[k] = if k = n then f s.cameras[n] else s.cameras[k] := updateAt_get ..

theorem mapGate_get (s : State) (g k : GateId) (f : Gate → Gate) :
    (s.mapGate g f).gates[k] = if k = g then f s.gates[g] else s.gates[k] := updateAt_get ..

theorem mapRobot_get (s : State) (r k : RobotId) (f : Robot → Robot) :
    (s.mapRobot r f).robots[k] = if k = r then f s.robots[r] else s.robots[k] := updateAt_get ..

theorem mapDose_get (s : State) (r k : RobotId) (f : Dose → Dose) :
    (s.mapDose r f).doses[k] = if k = r then f s.doses[r] else s.doses[k] := updateAt_get ..

theorem mapGroup_get (s : State) (g k : GroupId) (f : Group → Group) :
    (s.mapGroup g f).groups[k] = if k = g then f s.groups[g] else s.groups[k] := updateAt_get ..

theorem mapQueue_get (s : State) (r k : RobotId) (f : RobotQueue → RobotQueue) :
    (s.mapQueue r f).bus.queues[k] = if k = r then f s.bus.queues[r] else s.bus.queues[k] := updateAt_get ..

theorem putGrant_get (s : State) (i k : PlaceId) (g : Option Grant) :
    (s.putGrant i g).access.grants[k] = if k = i then g else s.access.grants[k] := set_get ..

/-! The same in the simplifier's own form, where a place is a number below the size. -/

@[simp] theorem mapCamera_getElem (s : State) (n : CameraId) (f : Camera → Camera) (k : Nat) (h : k < 6) :
    (s.mapCamera n f).cameras[k] = if k = n.val then f s.cameras[n.val] else s.cameras[k] := by
  simpa [Fin.ext_iff] using mapCamera_get s n ⟨k, h⟩ f

@[simp] theorem mapGate_getElem (s : State) (g : GateId) (f : Gate → Gate) (k : Nat) (h : k < 2) :
    (s.mapGate g f).gates[k] = if k = g.val then f s.gates[g.val] else s.gates[k] := by
  simpa [Fin.ext_iff] using mapGate_get s g ⟨k, h⟩ f

@[simp] theorem mapRobot_getElem (s : State) (r : RobotId) (f : Robot → Robot) (k : Nat) (h : k < 8) :
    (s.mapRobot r f).robots[k] = if k = r.val then f s.robots[r.val] else s.robots[k] := by
  simpa [Fin.ext_iff] using mapRobot_get s r ⟨k, h⟩ f

@[simp] theorem mapDose_getElem (s : State) (r : RobotId) (f : Dose → Dose) (k : Nat) (h : k < 8) :
    (s.mapDose r f).doses[k] = if k = r.val then f s.doses[r.val] else s.doses[k] := by
  simpa [Fin.ext_iff] using mapDose_get s r ⟨k, h⟩ f

@[simp] theorem mapGroup_getElem (s : State) (g : GroupId) (f : Group → Group) (k : Nat) (h : k < 4) :
    (s.mapGroup g f).groups[k] = if k = g.val then f s.groups[g.val] else s.groups[k] := by
  simpa [Fin.ext_iff] using mapGroup_get s g ⟨k, h⟩ f

@[simp] theorem mapQueue_getElem (s : State) (r : RobotId) (f : RobotQueue → RobotQueue) (k : Nat) (h : k < 8) :
    (s.mapQueue r f).bus.queues[k] = if k = r.val then f s.bus.queues[r.val] else s.bus.queues[k] := by
  simpa [Fin.ext_iff] using mapQueue_get s r ⟨k, h⟩ f

@[simp] theorem putGrant_getElem (s : State) (i : PlaceId) (f : Option Grant) (k : Nat) (h : k < 8) :
    (s.putGrant i f).access.grants[k] = if k = i.val then f else s.access.grants[k] := by
  simpa [Fin.ext_iff] using putGrant_get s i ⟨k, h⟩ f

/-- What a change of one queue leaves of the bus. -/
@[simp] theorem mapQueue_bus (s : State) (r : RobotId) (f : RobotQueue → RobotQueue) :
    (s.mapQueue r f).bus.broadcast = s.bus.broadcast ∧ (s.mapQueue r f).bus.transaction = s.bus.transaction
      ∧ (s.mapQueue r f).bus.clockHeldBy = s.bus.clockHeldBy ∧ (s.mapQueue r f).bus.lastPolled = s.bus.lastPolled
      ∧ (s.mapQueue r f).bus.moment = s.bus.moment := ⟨rfl, rfl, rfl, rfl, rfl⟩

/-- What a change of one grant leaves of the Access Controller. -/
@[simp] theorem putGrant_access (s : State) (i : PlaceId) (g : Option Grant) :
    (s.putGrant i g).access.nextNumber = s.access.nextNumber
      ∧ (s.putGrant i g).access.zoneLatch = s.access.zoneLatch
      ∧ (s.putGrant i g).access.cabinetLatch = s.access.cabinetLatch := ⟨rfl, rfl, rfl⟩

/-- What a change of the tallies leaves of the track. -/
@[simp] theorem mapTallies_track (s : State) (f : Tallies → Tallies) :
    (s.mapTallies f).track.ring = s.track.ring ∧ (s.mapTallies f).track.head = s.track.head
      ∧ (s.mapTallies f).track.nextTicket = s.track.nextTicket ∧ (s.mapTallies f).track.length = s.track.length
      ∧ (s.mapTallies f).track.tallies = f s.track.tallies := ⟨rfl, rfl, rfl, rfl, rfl⟩

/-! ## Slots -/

/-- Two positions below 128 stand at different places of the ring (R12). -/
theorem ringIndex_inj (head : Fin 128) {p q : Nat} (hp : p < 128) (hq : q < 128)
    (h : ringIndex head p = ringIndex head q) : p = q := by
  have := congrArg Fin.val h
  simp only [ringIndex] at this
  have := head.isLt
  omega

/-- Replacing the slot at one position leaves head, next ticket, length and tallies. -/
@[simp] theorem putSlot_track (p : Nat) (sl : Slot) (s : State) :
    (putSlot p sl s).track.head = s.track.head ∧ (putSlot p sl s).track.nextTicket = s.track.nextTicket
      ∧ (putSlot p sl s).track.length = s.track.length ∧ (putSlot p sl s).track.tallies = s.track.tallies :=
  ⟨rfl, rfl, rfl, rfl⟩

/-- Replacing the slot at one position replaces that slot and no other. -/
theorem slotAt_putSlot (p q : Nat) (sl : Slot) (s : State) (hp : p < 128) (hq : q < 128) :
    (putSlot p sl s).slotAt q = if q = p then sl else s.slotAt q := by
  unfold putSlot State.slotAt
  by_cases h : q = p
  · subst h; simp
  · have e : ringIndex s.track.head q ≠ ringIndex s.track.head p := fun e => h (ringIndex_inj _ hq hp e)
    simp only [set_get, e, h, if_false]

/-- Replacing a slot keeps every ticket if it keeps that slot's. -/
theorem ticket_putSlot (p q : Nat) (sl : Slot) (s : State) (h : sl.ticket = (s.slotAt p).ticket) :
    ((putSlot p sl s).slotAt q).ticket = (s.slotAt q).ticket := by
  unfold putSlot State.slotAt at *
  by_cases e : ringIndex s.track.head q = ringIndex s.track.head p
  · simp only [e, set_get, if_true, h]
  · simp only [e, set_get, if_false]

@[simp] theorem editSlotAt_track (p : Nat) (f : Slot → Slot) (s : State) :
    (editSlotAt p f s).track.head = s.track.head ∧ (editSlotAt p f s).track.nextTicket = s.track.nextTicket
      ∧ (editSlotAt p f s).track.length = s.track.length ∧ (editSlotAt p f s).track.tallies = s.track.tallies :=
  ⟨rfl, rfl, rfl, rfl⟩

/-- Editing a slot changes no ticket (R12). -/
@[simp] theorem editSlotAt_ticket (p q : Nat) (f : Slot → Slot) (s : State) :
    ((editSlotAt p f s).slotAt q).ticket = (s.slotAt q).ticket := ticket_putSlot _ _ _ _ rfl

/-- Editing the slot at one position changes that slot and no other. -/
theorem slotAt_editSlotAt (p q : Nat) (f : Slot → Slot) (s : State) (hp : p < 128) (hq : q < 128) :
    (editSlotAt p f s).slotAt q =
      if q = p then { f (s.slotAt p) with ticket := (s.slotAt p).ticket } else s.slotAt q :=
  slotAt_putSlot _ _ _ _ hp hq

/-- A camera that joins a verdict list changes the list alone. -/
@[simp] theorem Slot.join_keeps (sl : Slot) (n : CameraId) :
    (sl.join n).ticket = sl.ticket ∧ (sl.join n).occupancy = sl.occupancy ∧ (sl.join n).fill = sl.fill
      ∧ (sl.join n).robot = sl.robot ∧ (sl.join n).volume = sl.volume ∧ (sl.join n).defects = sl.defects
      ∧ (sl.join n).decision = sl.decision ∧ (sl.join n).reject = sl.reject :=
  ⟨rfl, rfl, rfl, rfl, rfl, rfl, rfl, rfl⟩

/-- A camera that joins a verdict list has one entry in it, and the other cameras keep theirs (R17). -/
theorem Slot.mem_join {sl : Slot} {n : CameraId} {e : VerdictEntry} :
    e ∈ (sl.join n).verdicts ↔ (e ∈ sl.verdicts ∧ e.camera ≠ n) ∨ e = { camera := n, verdict := .awaited } := by
  simp [Slot.join]

/-! ## Acting on units in turn, and choosing between two states -/

/-- What one act keeps, acting on a list of units keeps. -/
theorem forEach_keeps {α β : Type} (π : State → β) (us : List α) (act : α → State → State)
    (h : ∀ u t, π (act u t) = π t) (s : State) : π (forEach us act s) = π s := by
  unfold forEach
  induction us generalizing s with
  | nil => rfl
  | cons u us ih => simp only [List.foldl_cons]; rw [ih, h]

/-- A property that every act keeps holds after acting on a list of units. -/
theorem forEach_invariant {α : Type} (P : State → Prop) (us : List α) (act : α → State → State)
    (h : ∀ u t, P t → P (act u t)) (s : State) (hs : P s) : P (forEach us act s) := by
  unfold forEach
  induction us generalizing s with
  | nil => exact hs
  | cons u us ih => exact ih _ (h u s hs)

@[simp] theorem forEach_nil {α : Type} (act : α → State → State) (s : State) : forEach [] act s = s := rfl

theorem forEach_cons {α : Type} (u : α) (us : List α) (act : α → State → State) (s : State) :
    forEach (u :: us) act s = forEach us act (act u s) := rfl

@[simp] theorem forEach_pins {α : Type} (us : List α) (act : α → State → State) (s : State)
    (h : ∀ u t, (act u t).pins = t.pins) : (forEach us act s).pins = s.pins := forEach_keeps State.pins us act h s

@[simp] theorem ite_pins (c : Prop) [Decidable c] (a b : State) :
    (if c then a else b).pins = if c then a.pins else b.pins := apply_ite State.pins c a b

@[simp] theorem forEach_pitch {α : Type} (us : List α) (act : α → State → State) (s : State)
    (h : ∀ u t, (act u t).pitch = t.pitch) : (forEach us act s).pitch = s.pitch := forEach_keeps State.pitch us act h s

@[simp] theorem ite_pitch (c : Prop) [Decidable c] (a b : State) :
    (if c then a else b).pitch = if c then a.pitch else b.pitch := apply_ite State.pitch c a b

@[simp] theorem forEach_track {α : Type} (us : List α) (act : α → State → State) (s : State)
    (h : ∀ u t, (act u t).track = t.track) : (forEach us act s).track = s.track := forEach_keeps State.track us act h s

@[simp] theorem ite_track (c : Prop) [Decidable c] (a b : State) :
    (if c then a else b).track = if c then a.track else b.track := apply_ite State.track c a b

@[simp] theorem forEach_cameras {α : Type} (us : List α) (act : α → State → State) (s : State)
    (h : ∀ u t, (act u t).cameras = t.cameras) : (forEach us act s).cameras = s.cameras := forEach_keeps State.cameras us act h s

@[simp] theorem ite_cameras (c : Prop) [Decidable c] (a b : State) :
    (if c then a else b).cameras = if c then a.cameras else b.cameras := apply_ite State.cameras c a b

@[simp] theorem forEach_gates {α : Type} (us : List α) (act : α → State → State) (s : State)
    (h : ∀ u t, (act u t).gates = t.gates) : (forEach us act s).gates = s.gates := forEach_keeps State.gates us act h s

@[simp] theorem ite_gates (c : Prop) [Decidable c] (a b : State) :
    (if c then a else b).gates = if c then a.gates else b.gates := apply_ite State.gates c a b

@[simp] theorem forEach_stops {α : Type} (us : List α) (act : α → State → State) (s : State)
    (h : ∀ u t, (act u t).stops = t.stops) : (forEach us act s).stops = s.stops := forEach_keeps State.stops us act h s

@[simp] theorem ite_stops (c : Prop) [Decidable c] (a b : State) :
    (if c then a else b).stops = if c then a.stops else b.stops := apply_ite State.stops c a b

@[simp] theorem forEach_fill {α : Type} (us : List α) (act : α → State → State) (s : State)
    (h : ∀ u t, (act u t).fill = t.fill) : (forEach us act s).fill = s.fill := forEach_keeps State.fill us act h s

@[simp] theorem ite_fill (c : Prop) [Decidable c] (a b : State) :
    (if c then a else b).fill = if c then a.fill else b.fill := apply_ite State.fill c a b

@[simp] theorem forEach_robots {α : Type} (us : List α) (act : α → State → State) (s : State)
    (h : ∀ u t, (act u t).robots = t.robots) : (forEach us act s).robots = s.robots := forEach_keeps State.robots us act h s

@[simp] theorem ite_robots (c : Prop) [Decidable c] (a b : State) :
    (if c then a else b).robots = if c then a.robots else b.robots := apply_ite State.robots c a b

@[simp] theorem forEach_doses {α : Type} (us : List α) (act : α → State → State) (s : State)
    (h : ∀ u t, (act u t).doses = t.doses) : (forEach us act s).doses = s.doses := forEach_keeps State.doses us act h s

@[simp] theorem ite_doses (c : Prop) [Decidable c] (a b : State) :
    (if c then a else b).doses = if c then a.doses else b.doses := apply_ite State.doses c a b

@[simp] theorem forEach_bus {α : Type} (us : List α) (act : α → State → State) (s : State)
    (h : ∀ u t, (act u t).bus = t.bus) : (forEach us act s).bus = s.bus := forEach_keeps State.bus us act h s

@[simp] theorem ite_bus (c : Prop) [Decidable c] (a b : State) :
    (if c then a else b).bus = if c then a.bus else b.bus := apply_ite State.bus c a b

@[simp] theorem forEach_mainSwitch {α : Type} (us : List α) (act : α → State → State) (s : State)
    (h : ∀ u t, (act u t).mainSwitch = t.mainSwitch) : (forEach us act s).mainSwitch = s.mainSwitch := forEach_keeps State.mainSwitch us act h s

@[simp] theorem ite_mainSwitch (c : Prop) [Decidable c] (a b : State) :
    (if c then a else b).mainSwitch = if c then a.mainSwitch else b.mainSwitch := apply_ite State.mainSwitch c a b

@[simp] theorem forEach_groups {α : Type} (us : List α) (act : α → State → State) (s : State)
    (h : ∀ u t, (act u t).groups = t.groups) : (forEach us act s).groups = s.groups := forEach_keeps State.groups us act h s

@[simp] theorem ite_groups (c : Prop) [Decidable c] (a b : State) :
    (if c then a else b).groups = if c then a.groups else b.groups := apply_ite State.groups c a b

@[simp] theorem forEach_access {α : Type} (us : List α) (act : α → State → State) (s : State)
    (h : ∀ u t, (act u t).access = t.access) : (forEach us act s).access = s.access := forEach_keeps State.access us act h s

@[simp] theorem ite_access (c : Prop) [Decidable c] (a b : State) :
    (if c then a else b).access = if c then a.access else b.access := apply_ite State.access c a b

@[simp] theorem forEach_time {α : Type} (us : List α) (act : α → State → State) (s : State)
    (h : ∀ u t, (act u t).time = t.time) : (forEach us act s).time = s.time := forEach_keeps State.time us act h s

@[simp] theorem ite_time (c : Prop) [Decidable c] (a b : State) :
    (if c then a else b).time = if c then a.time else b.time := apply_ite State.time c a b

@[simp] theorem forEach_counters {α : Type} (us : List α) (act : α → State → State) (s : State)
    (h : ∀ u t, (act u t).counters = t.counters) : (forEach us act s).counters = s.counters := forEach_keeps State.counters us act h s

@[simp] theorem ite_counters (c : Prop) [Decidable c] (a b : State) :
    (if c then a else b).counters = if c then a.counters else b.counters := apply_ite State.counters c a b

@[simp] theorem forEach_events {α : Type} (us : List α) (act : α → State → State) (s : State)
    (h : ∀ u t, (act u t).events = t.events) : (forEach us act s).events = s.events := forEach_keeps State.events us act h s

@[simp] theorem ite_events (c : Prop) [Decidable c] (a b : State) :
    (if c then a else b).events = if c then a.events else b.events := apply_ite State.events c a b

@[simp] theorem forEach_link {α : Type} (us : List α) (act : α → State → State) (s : State)
    (h : ∀ u t, (act u t).link = t.link) : (forEach us act s).link = s.link := forEach_keeps State.link us act h s

@[simp] theorem ite_link (c : Prop) [Decidable c] (a b : State) :
    (if c then a else b).link = if c then a.link else b.link := apply_ite State.link c a b

@[simp] theorem forEach_pending {α : Type} (us : List α) (act : α → State → State) (s : State)
    (h : ∀ u t, (act u t).pending = t.pending) : (forEach us act s).pending = s.pending := forEach_keeps State.pending us act h s

@[simp] theorem ite_pending (c : Prop) [Decidable c] (a b : State) :
    (if c then a else b).pending = if c then a.pending else b.pending := apply_ite State.pending c a b

end Sys2Proof.Machine
end

