-- ==== Sys2Proof/Laws/Frames.lean ====
section
/-! SUPPORT. Laws/Frames.lean: for each operation of the model one lemma that says which parts of the state it leaves
alone, whatever the state. A proof about a command cites the lemmas of the operations it calls and unfolds none. -/

namespace Sys2Proof.Machine

theorem removeOldest_frame (s : State) :
    (removeOldest s).pins = s.pins ∧ (removeOldest s).pitch = s.pitch ∧ (removeOldest s).track = s.track
      ∧ (removeOldest s).cameras = s.cameras ∧ (removeOldest s).gates = s.gates
      ∧ (removeOldest s).stops = s.stops ∧ (removeOldest s).fill = s.fill ∧ (removeOldest s).robots = s.robots
      ∧ (removeOldest s).doses = s.doses ∧ (removeOldest s).bus = s.bus
      ∧ (removeOldest s).mainSwitch = s.mainSwitch ∧ (removeOldest s).groups = s.groups
      ∧ (removeOldest s).access = s.access ∧ (removeOldest s).time = s.time
      ∧ (removeOldest s).counters = s.counters ∧ (removeOldest s).link = s.link
      ∧ (removeOldest s).pending = s.pending := by
  simp only [removeOldest]
  (repeat' split) <;> simp

theorem storeCounter_frame (i : CounterId) (c : Counter) (s : State) :
    (storeCounter i c s).pins = s.pins ∧ (storeCounter i c s).pitch = s.pitch
      ∧ (storeCounter i c s).track = s.track ∧ (storeCounter i c s).cameras = s.cameras
      ∧ (storeCounter i c s).gates = s.gates ∧ (storeCounter i c s).stops = s.stops
      ∧ (storeCounter i c s).fill = s.fill ∧ (storeCounter i c s).robots = s.robots
      ∧ (storeCounter i c s).doses = s.doses ∧ (storeCounter i c s).bus = s.bus
      ∧ (storeCounter i c s).mainSwitch = s.mainSwitch ∧ (storeCounter i c s).groups = s.groups
      ∧ (storeCounter i c s).access = s.access ∧ (storeCounter i c s).time = s.time
      ∧ (storeCounter i c s).link = s.link ∧ (storeCounter i c s).pending = s.pending := by
  simp only [storeCounter]
  (repeat' split) <;> simp

theorem countOn_frame (i : CounterId) (s : State) :
    (countOn i s).pins = s.pins ∧ (countOn i s).pitch = s.pitch ∧ (countOn i s).track = s.track
      ∧ (countOn i s).cameras = s.cameras ∧ (countOn i s).gates = s.gates ∧ (countOn i s).stops = s.stops
      ∧ (countOn i s).fill = s.fill ∧ (countOn i s).robots = s.robots ∧ (countOn i s).doses = s.doses
      ∧ (countOn i s).bus = s.bus ∧ (countOn i s).mainSwitch = s.mainSwitch ∧ (countOn i s).groups = s.groups
      ∧ (countOn i s).access = s.access ∧ (countOn i s).time = s.time ∧ (countOn i s).link = s.link
      ∧ (countOn i s).pending = s.pending := by
  simp only [countOn]
  simp [storeCounter_frame]

theorem editSlot_frame (t : Half) (f : Slot → Slot) (s : State) :
    (editSlot t f s).pins = s.pins ∧ (editSlot t f s).pitch = s.pitch ∧ (editSlot t f s).cameras = s.cameras
      ∧ (editSlot t f s).gates = s.gates ∧ (editSlot t f s).stops = s.stops ∧ (editSlot t f s).fill = s.fill
      ∧ (editSlot t f s).robots = s.robots ∧ (editSlot t f s).doses = s.doses ∧ (editSlot t f s).bus = s.bus
      ∧ (editSlot t f s).mainSwitch = s.mainSwitch ∧ (editSlot t f s).groups = s.groups
      ∧ (editSlot t f s).access = s.access ∧ (editSlot t f s).time = s.time
      ∧ (editSlot t f s).counters = s.counters ∧ (editSlot t f s).events = s.events
      ∧ (editSlot t f s).link = s.link ∧ (editSlot t f s).pending = s.pending := by
  simp only [editSlot]
  (repeat' split) <;> simp

theorem raiseCommand_frame (r : RobotId) (c : BusCommand) (s : State) :
    (raiseCommand r c s).pins = s.pins ∧ (raiseCommand r c s).pitch = s.pitch
      ∧ (raiseCommand r c s).track = s.track ∧ (raiseCommand r c s).cameras = s.cameras
      ∧ (raiseCommand r c s).gates = s.gates ∧ (raiseCommand r c s).stops = s.stops
      ∧ (raiseCommand r c s).fill = s.fill ∧ (raiseCommand r c s).robots = s.robots
      ∧ (raiseCommand r c s).doses = s.doses ∧ (raiseCommand r c s).mainSwitch = s.mainSwitch
      ∧ (raiseCommand r c s).groups = s.groups ∧ (raiseCommand r c s).access = s.access
      ∧ (raiseCommand r c s).time = s.time ∧ (raiseCommand r c s).counters = s.counters
      ∧ (raiseCommand r c s).events = s.events ∧ (raiseCommand r c s).link = s.link
      ∧ (raiseCommand r c s).pending = s.pending := by
  simp only [raiseCommand]
  (repeat' split) <;> simp

theorem raisePoll_frame (r : RobotId) (s : State) :
    (raisePoll r s).pins = s.pins ∧ (raisePoll r s).pitch = s.pitch ∧ (raisePoll r s).track = s.track
      ∧ (raisePoll r s).cameras = s.cameras ∧ (raisePoll r s).gates = s.gates ∧ (raisePoll r s).stops = s.stops
      ∧ (raisePoll r s).fill = s.fill ∧ (raisePoll r s).robots = s.robots ∧ (raisePoll r s).doses = s.doses
      ∧ (raisePoll r s).mainSwitch = s.mainSwitch ∧ (raisePoll r s).groups = s.groups
      ∧ (raisePoll r s).access = s.access ∧ (raisePoll r s).time = s.time
      ∧ (raisePoll r s).counters = s.counters ∧ (raisePoll r s).events = s.events
      ∧ (raisePoll r s).link = s.link ∧ (raisePoll r s).pending = s.pending := by
  simp only [raisePoll]
  simp

theorem judgeRelease_frame (r : RobotId) (s : State) :
    (judgeRelease r s).pins = s.pins ∧ (judgeRelease r s).pitch = s.pitch ∧ (judgeRelease r s).track = s.track
      ∧ (judgeRelease r s).cameras = s.cameras ∧ (judgeRelease r s).gates = s.gates
      ∧ (judgeRelease r s).stops = s.stops ∧ (judgeRelease r s).fill = s.fill
      ∧ (judgeRelease r s).robots = s.robots ∧ (judgeRelease r s).doses = s.doses
      ∧ (judgeRelease r s).mainSwitch = s.mainSwitch ∧ (judgeRelease r s).groups = s.groups
      ∧ (judgeRelease r s).access = s.access ∧ (judgeRelease r s).time = s.time
      ∧ (judgeRelease r s).counters = s.counters ∧ (judgeRelease r s).events = s.events
      ∧ (judgeRelease r s).link = s.link ∧ (judgeRelease r s).pending = s.pending := by
  simp only [judgeRelease]
  (repeat' split) <;> simp [raiseCommand_frame]

theorem judgeReleases_frame (s : State) :
    (judgeReleases s).pins = s.pins ∧ (judgeReleases s).pitch = s.pitch ∧ (judgeReleases s).track = s.track
      ∧ (judgeReleases s).cameras = s.cameras ∧ (judgeReleases s).gates = s.gates
      ∧ (judgeReleases s).stops = s.stops ∧ (judgeReleases s).fill = s.fill
      ∧ (judgeReleases s).robots = s.robots ∧ (judgeReleases s).doses = s.doses
      ∧ (judgeReleases s).mainSwitch = s.mainSwitch ∧ (judgeReleases s).groups = s.groups
      ∧ (judgeReleases s).access = s.access ∧ (judgeReleases s).time = s.time
      ∧ (judgeReleases s).counters = s.counters ∧ (judgeReleases s).events = s.events
      ∧ (judgeReleases s).link = s.link ∧ (judgeReleases s).pending = s.pending := by
  simp only [judgeReleases]
  simp [judgeRelease_frame]

theorem dropJob_frame (r : RobotId) (s : State) :
    (dropJob r s).pins = s.pins ∧ (dropJob r s).pitch = s.pitch ∧ (dropJob r s).track = s.track
      ∧ (dropJob r s).cameras = s.cameras ∧ (dropJob r s).gates = s.gates ∧ (dropJob r s).stops = s.stops
      ∧ (dropJob r s).fill = s.fill ∧ (dropJob r s).doses = s.doses ∧ (dropJob r s).bus = s.bus
      ∧ (dropJob r s).mainSwitch = s.mainSwitch ∧ (dropJob r s).groups = s.groups
      ∧ (dropJob r s).access = s.access ∧ (dropJob r s).time = s.time ∧ (dropJob r s).counters = s.counters
      ∧ (dropJob r s).events = s.events ∧ (dropJob r s).link = s.link ∧ (dropJob r s).pending = s.pending := by
  simp only [dropJob]
  simp

theorem recordFill_frame (r : RobotId) (j : Job) (ending : Ending) (flow volume : Nat) (fillClass : Option
    FillClass) (afterflow : Option Nat) (learning : Learning) (s : State) :
    (recordFill r j ending flow volume fillClass afterflow learning s).pins = s.pins
      ∧ (recordFill r j ending flow volume fillClass afterflow learning s).pitch = s.pitch
      ∧ (recordFill r j ending flow volume fillClass afterflow learning s).track = s.track
      ∧ (recordFill r j ending flow volume fillClass afterflow learning s).cameras = s.cameras
      ∧ (recordFill r j ending flow volume fillClass afterflow learning s).gates = s.gates
      ∧ (recordFill r j ending flow volume fillClass afterflow learning s).stops = s.stops
      ∧ (recordFill r j ending flow volume fillClass afterflow learning s).fill = s.fill
      ∧ (recordFill r j ending flow volume fillClass afterflow learning s).robots = s.robots
      ∧ (recordFill r j ending flow volume fillClass afterflow learning s).bus = s.bus
      ∧ (recordFill r j ending flow volume fillClass afterflow learning s).mainSwitch = s.mainSwitch
      ∧ (recordFill r j ending flow volume fillClass afterflow learning s).groups = s.groups
      ∧ (recordFill r j ending flow volume fillClass afterflow learning s).access = s.access
      ∧ (recordFill r j ending flow volume fillClass afterflow learning s).time = s.time
      ∧ (recordFill r j ending flow volume fillClass afterflow learning s).counters = s.counters
      ∧ (recordFill r j ending flow volume fillClass afterflow learning s).events = s.events
      ∧ (recordFill r j ending flow volume fillClass afterflow learning s).link = s.link
      ∧ (recordFill r j ending flow volume fillClass afterflow learning s).pending = s.pending := by
  simp only [recordFill]
  simp

theorem learn_frame (r : RobotId) (recipe : Recipe) (a : Nat) (s : State) :
    (learn r recipe a s).pins = s.pins ∧ (learn r recipe a s).pitch = s.pitch
      ∧ (learn r recipe a s).track = s.track ∧ (learn r recipe a s).cameras = s.cameras
      ∧ (learn r recipe a s).gates = s.gates ∧ (learn r recipe a s).stops = s.stops
      ∧ (learn r recipe a s).fill = s.fill ∧ (learn r recipe a s).robots = s.robots
      ∧ (learn r recipe a s).bus = s.bus ∧ (learn r recipe a s).mainSwitch = s.mainSwitch
      ∧ (learn r recipe a s).groups = s.groups ∧ (learn r recipe a s).access = s.access
      ∧ (learn r recipe a s).time = s.time ∧ (learn r recipe a s).counters = s.counters
      ∧ (learn r recipe a s).link = s.link ∧ (learn r recipe a s).pending = s.pending := by
  simp only [learn]
  (repeat' split) <;> simp

theorem reportJob_frame (r : RobotId) (cut : Bool) (s : State) :
    (reportJob r cut s).pins = s.pins ∧ (reportJob r cut s).pitch = s.pitch
      ∧ (reportJob r cut s).cameras = s.cameras ∧ (reportJob r cut s).gates = s.gates
      ∧ (reportJob r cut s).stops = s.stops ∧ (reportJob r cut s).fill = s.fill
      ∧ (reportJob r cut s).mainSwitch = s.mainSwitch ∧ (reportJob r cut s).groups = s.groups
      ∧ (reportJob r cut s).access = s.access ∧ (reportJob r cut s).time = s.time
      ∧ (reportJob r cut s).link = s.link ∧ (reportJob r cut s).pending = s.pending := by
  simp only [reportJob]
  (repeat' split) <;> simp [countOn_frame, editSlot_frame, raiseCommand_frame, dropJob_frame, recordFill_frame,
    learn_frame]

theorem failJob_frame (r : RobotId) (outcome : FillOutcome) (ending : Ending) (s : State) :
    (failJob r outcome ending s).pins = s.pins ∧ (failJob r outcome ending s).pitch = s.pitch
      ∧ (failJob r outcome ending s).cameras = s.cameras ∧ (failJob r outcome ending s).gates = s.gates
      ∧ (failJob r outcome ending s).stops = s.stops ∧ (failJob r outcome ending s).fill = s.fill
      ∧ (failJob r outcome ending s).mainSwitch = s.mainSwitch ∧ (failJob r outcome ending s).groups = s.groups
      ∧ (failJob r outcome ending s).access = s.access ∧ (failJob r outcome ending s).time = s.time
      ∧ (failJob r outcome ending s).link = s.link ∧ (failJob r outcome ending s).pending = s.pending := by
  simp only [failJob]
  (repeat' split) <;> simp [countOn_frame, editSlot_frame, raiseCommand_frame, dropJob_frame, recordFill_frame]

theorem abortJob_frame (r : RobotId) (s : State) :
    (abortJob r s).pins = s.pins ∧ (abortJob r s).pitch = s.pitch ∧ (abortJob r s).cameras = s.cameras
      ∧ (abortJob r s).gates = s.gates ∧ (abortJob r s).stops = s.stops ∧ (abortJob r s).fill = s.fill
      ∧ (abortJob r s).mainSwitch = s.mainSwitch ∧ (abortJob r s).groups = s.groups
      ∧ (abortJob r s).access = s.access ∧ (abortJob r s).time = s.time ∧ (abortJob r s).link = s.link
      ∧ (abortJob r s).pending = s.pending := by
  simp only [abortJob]
  simp [failJob_frame]

theorem startFilling_frame (r : RobotId) (s : State) :
    (startFilling r s).pins = s.pins ∧ (startFilling r s).pitch = s.pitch ∧ (startFilling r s).track = s.track
      ∧ (startFilling r s).cameras = s.cameras ∧ (startFilling r s).gates = s.gates
      ∧ (startFilling r s).stops = s.stops ∧ (startFilling r s).fill = s.fill ∧ (startFilling r s).bus = s.bus
      ∧ (startFilling r s).mainSwitch = s.mainSwitch ∧ (startFilling r s).groups = s.groups
      ∧ (startFilling r s).access = s.access ∧ (startFilling r s).time = s.time
      ∧ (startFilling r s).counters = s.counters ∧ (startFilling r s).events = s.events
      ∧ (startFilling r s).link = s.link ∧ (startFilling r s).pending = s.pending := by
  simp only [startFilling]
  (repeat' split) <;> simp

theorem countPulse_frame (r : RobotId) (s : State) :
    (countPulse r s).pins = s.pins ∧ (countPulse r s).pitch = s.pitch ∧ (countPulse r s).track = s.track
      ∧ (countPulse r s).cameras = s.cameras ∧ (countPulse r s).gates = s.gates
      ∧ (countPulse r s).stops = s.stops ∧ (countPulse r s).fill = s.fill ∧ (countPulse r s).bus = s.bus
      ∧ (countPulse r s).mainSwitch = s.mainSwitch ∧ (countPulse r s).groups = s.groups
      ∧ (countPulse r s).access = s.access ∧ (countPulse r s).time = s.time
      ∧ (countPulse r s).counters = s.counters ∧ (countPulse r s).events = s.events
      ∧ (countPulse r s).link = s.link ∧ (countPulse r s).pending = s.pending := by
  simp only [countPulse]
  (repeat' split) <;> simp

theorem countDrip_frame (r : RobotId) (s : State) :
    (countDrip r s).pins = s.pins ∧ (countDrip r s).pitch = s.pitch ∧ (countDrip r s).track = s.track
      ∧ (countDrip r s).cameras = s.cameras ∧ (countDrip r s).gates = s.gates ∧ (countDrip r s).stops = s.stops
      ∧ (countDrip r s).fill = s.fill ∧ (countDrip r s).robots = s.robots ∧ (countDrip r s).bus = s.bus
      ∧ (countDrip r s).mainSwitch = s.mainSwitch ∧ (countDrip r s).groups = s.groups
      ∧ (countDrip r s).access = s.access ∧ (countDrip r s).time = s.time
      ∧ (countDrip r s).counters = s.counters ∧ (countDrip r s).link = s.link
      ∧ (countDrip r s).pending = s.pending := by
  simp only [countDrip]
  (repeat' split) <;> simp

theorem flowPulse_frame (r : RobotId) (s : State) :
    (flowPulse r s).pins = s.pins ∧ (flowPulse r s).pitch = s.pitch ∧ (flowPulse r s).track = s.track
      ∧ (flowPulse r s).cameras = s.cameras ∧ (flowPulse r s).gates = s.gates ∧ (flowPulse r s).stops = s.stops
      ∧ (flowPulse r s).fill = s.fill ∧ (flowPulse r s).bus = s.bus ∧ (flowPulse r s).mainSwitch = s.mainSwitch
      ∧ (flowPulse r s).groups = s.groups ∧ (flowPulse r s).access = s.access ∧ (flowPulse r s).time = s.time
      ∧ (flowPulse r s).counters = s.counters ∧ (flowPulse r s).link = s.link
      ∧ (flowPulse r s).pending = s.pending := by
  simp only [flowPulse]
  (repeat' split) <;> simp [countPulse_frame, countDrip_frame]

theorem changeRobot_frame (r : RobotId) (f : Robot → Robot) (s : State) :
    (changeRobot r f s).pins = s.pins ∧ (changeRobot r f s).pitch = s.pitch
      ∧ (changeRobot r f s).track = s.track ∧ (changeRobot r f s).cameras = s.cameras
      ∧ (changeRobot r f s).gates = s.gates ∧ (changeRobot r f s).stops = s.stops
      ∧ (changeRobot r f s).fill = s.fill ∧ (changeRobot r f s).doses = s.doses
      ∧ (changeRobot r f s).bus = s.bus ∧ (changeRobot r f s).mainSwitch = s.mainSwitch
      ∧ (changeRobot r f s).groups = s.groups ∧ (changeRobot r f s).access = s.access
      ∧ (changeRobot r f s).time = s.time ∧ (changeRobot r f s).counters = s.counters
      ∧ (changeRobot r f s).link = s.link ∧ (changeRobot r f s).pending = s.pending := by
  simp only [changeRobot]
  (repeat' split) <;> simp

theorem enterFaulted_frame (r : RobotId) (why : FaultReason) (s : State) :
    (enterFaulted r why s).pins = s.pins ∧ (enterFaulted r why s).pitch = s.pitch
      ∧ (enterFaulted r why s).cameras = s.cameras ∧ (enterFaulted r why s).gates = s.gates
      ∧ (enterFaulted r why s).stops = s.stops ∧ (enterFaulted r why s).fill = s.fill
      ∧ (enterFaulted r why s).mainSwitch = s.mainSwitch ∧ (enterFaulted r why s).groups = s.groups
      ∧ (enterFaulted r why s).access = s.access ∧ (enterFaulted r why s).time = s.time
      ∧ (enterFaulted r why s).link = s.link ∧ (enterFaulted r why s).pending = s.pending := by
  simp only [enterFaulted]
  simp [abortJob_frame, changeRobot_frame]

theorem dropLostCommands_frame (r : RobotId) (s : State) :
    (dropLostCommands r s).pins = s.pins ∧ (dropLostCommands r s).pitch = s.pitch
      ∧ (dropLostCommands r s).track = s.track ∧ (dropLostCommands r s).cameras = s.cameras
      ∧ (dropLostCommands r s).gates = s.gates ∧ (dropLostCommands r s).stops = s.stops
      ∧ (dropLostCommands r s).fill = s.fill ∧ (dropLostCommands r s).robots = s.robots
      ∧ (dropLostCommands r s).doses = s.doses ∧ (dropLostCommands r s).mainSwitch = s.mainSwitch
      ∧ (dropLostCommands r s).groups = s.groups ∧ (dropLostCommands r s).access = s.access
      ∧ (dropLostCommands r s).time = s.time ∧ (dropLostCommands r s).counters = s.counters
      ∧ (dropLostCommands r s).events = s.events ∧ (dropLostCommands r s).link = s.link
      ∧ (dropLostCommands r s).pending = s.pending := by
  simp only [dropLostCommands]
  simp

theorem enterLost_frame (r : RobotId) (s : State) :
    (enterLost r s).pins = s.pins ∧ (enterLost r s).pitch = s.pitch ∧ (enterLost r s).cameras = s.cameras
      ∧ (enterLost r s).gates = s.gates ∧ (enterLost r s).stops = s.stops ∧ (enterLost r s).fill = s.fill
      ∧ (enterLost r s).mainSwitch = s.mainSwitch ∧ (enterLost r s).groups = s.groups
      ∧ (enterLost r s).access = s.access ∧ (enterLost r s).time = s.time ∧ (enterLost r s).link = s.link
      ∧ (enterLost r s).pending = s.pending := by
  simp only [enterLost]
  simp [abortJob_frame, changeRobot_frame, dropLostCommands_frame]

theorem countFailure_frame (r : RobotId) (s : State) :
    (countFailure r s).pins = s.pins ∧ (countFailure r s).pitch = s.pitch
      ∧ (countFailure r s).cameras = s.cameras ∧ (countFailure r s).gates = s.gates
      ∧ (countFailure r s).stops = s.stops ∧ (countFailure r s).fill = s.fill
      ∧ (countFailure r s).mainSwitch = s.mainSwitch ∧ (countFailure r s).groups = s.groups
      ∧ (countFailure r s).access = s.access ∧ (countFailure r s).time = s.time
      ∧ (countFailure r s).link = s.link ∧ (countFailure r s).pending = s.pending := by
  simp only [countFailure]
  (repeat' split) <;> simp [enterLost_frame]

theorem endLoss_frame (r : RobotId) (st : RobotStatus) (s : State) :
    (endLoss r st s).pins = s.pins ∧ (endLoss r st s).pitch = s.pitch ∧ (endLoss r st s).track = s.track
      ∧ (endLoss r st s).cameras = s.cameras ∧ (endLoss r st s).gates = s.gates
      ∧ (endLoss r st s).stops = s.stops ∧ (endLoss r st s).fill = s.fill ∧ (endLoss r st s).doses = s.doses
      ∧ (endLoss r st s).bus = s.bus ∧ (endLoss r st s).mainSwitch = s.mainSwitch
      ∧ (endLoss r st s).groups = s.groups ∧ (endLoss r st s).access = s.access ∧ (endLoss r st s).time = s.time
      ∧ (endLoss r st s).counters = s.counters ∧ (endLoss r st s).link = s.link
      ∧ (endLoss r st s).pending = s.pending := by
  simp only [endLoss]
  (repeat' split) <;> simp [changeRobot_frame]

theorem takePoll_frame (r : RobotId) (st : RobotStatus) (s : State) :
    (takePoll r st s).pins = s.pins ∧ (takePoll r st s).pitch = s.pitch ∧ (takePoll r st s).cameras = s.cameras
      ∧ (takePoll r st s).gates = s.gates ∧ (takePoll r st s).stops = s.stops ∧ (takePoll r st s).fill = s.fill
      ∧ (takePoll r st s).mainSwitch = s.mainSwitch ∧ (takePoll r st s).groups = s.groups
      ∧ (takePoll r st s).access = s.access ∧ (takePoll r st s).time = s.time ∧ (takePoll r st s).link = s.link
      ∧ (takePoll r st s).pending = s.pending := by
  simp only [takePoll]
  (repeat' split) <;> simp [startFilling_frame, enterFaulted_frame, endLoss_frame]

theorem valveFault_frame (r : RobotId) (why : FaultReason) (s : State) :
    (valveFault r why s).pins = s.pins ∧ (valveFault r why s).pitch = s.pitch
      ∧ (valveFault r why s).cameras = s.cameras ∧ (valveFault r why s).gates = s.gates
      ∧ (valveFault r why s).stops = s.stops ∧ (valveFault r why s).fill = s.fill
      ∧ (valveFault r why s).mainSwitch = s.mainSwitch ∧ (valveFault r why s).groups = s.groups
      ∧ (valveFault r why s).access = s.access ∧ (valveFault r why s).time = s.time
      ∧ (valveFault r why s).link = s.link ∧ (valveFault r why s).pending = s.pending := by
  simp only [valveFault]
  (repeat' split) <;> simp [enterFaulted_frame]

theorem checkExpiry_frame (r : RobotId) (s : State) :
    (checkExpiry r s).pins = s.pins ∧ (checkExpiry r s).pitch = s.pitch ∧ (checkExpiry r s).cameras = s.cameras
      ∧ (checkExpiry r s).gates = s.gates ∧ (checkExpiry r s).stops = s.stops ∧ (checkExpiry r s).fill = s.fill
      ∧ (checkExpiry r s).mainSwitch = s.mainSwitch ∧ (checkExpiry r s).groups = s.groups
      ∧ (checkExpiry r s).access = s.access ∧ (checkExpiry r s).time = s.time ∧ (checkExpiry r s).link = s.link
      ∧ (checkExpiry r s).pending = s.pending := by
  simp only [checkExpiry]
  (repeat' split) <;> simp [valveFault_frame]

theorem stuckValve_frame (r : RobotId) (s : State) :
    (stuckValve r s).pins = s.pins ∧ (stuckValve r s).pitch = s.pitch ∧ (stuckValve r s).cameras = s.cameras
      ∧ (stuckValve r s).gates = s.gates ∧ (stuckValve r s).stops = s.stops ∧ (stuckValve r s).fill = s.fill
      ∧ (stuckValve r s).mainSwitch = s.mainSwitch ∧ (stuckValve r s).groups = s.groups
      ∧ (stuckValve r s).access = s.access ∧ (stuckValve r s).time = s.time ∧ (stuckValve r s).link = s.link
      ∧ (stuckValve r s).pending = s.pending := by
  simp only [stuckValve]
  (repeat' split) <;> simp [valveFault_frame]

theorem feedbackChange_frame (r : RobotId) (showsOpen : Bool) (s : State) :
    (feedbackChange r showsOpen s).pitch = s.pitch ∧ (feedbackChange r showsOpen s).cameras = s.cameras
      ∧ (feedbackChange r showsOpen s).gates = s.gates ∧ (feedbackChange r showsOpen s).stops = s.stops
      ∧ (feedbackChange r showsOpen s).fill = s.fill ∧ (feedbackChange r showsOpen s).mainSwitch = s.mainSwitch
      ∧ (feedbackChange r showsOpen s).groups = s.groups ∧ (feedbackChange r showsOpen s).access = s.access
      ∧ (feedbackChange r showsOpen s).time = s.time ∧ (feedbackChange r showsOpen s).link = s.link
      ∧ (feedbackChange r showsOpen s).pending = s.pending := by
  simp only [feedbackChange]
  (repeat' split) <;> simp [stuckValve_frame]

theorem noFlowExpiry_frame (r : RobotId) (s : State) :
    (noFlowExpiry r s).pins = s.pins ∧ (noFlowExpiry r s).pitch = s.pitch
      ∧ (noFlowExpiry r s).cameras = s.cameras ∧ (noFlowExpiry r s).gates = s.gates
      ∧ (noFlowExpiry r s).stops = s.stops ∧ (noFlowExpiry r s).fill = s.fill
      ∧ (noFlowExpiry r s).mainSwitch = s.mainSwitch ∧ (noFlowExpiry r s).groups = s.groups
      ∧ (noFlowExpiry r s).access = s.access ∧ (noFlowExpiry r s).time = s.time
      ∧ (noFlowExpiry r s).link = s.link ∧ (noFlowExpiry r s).pending = s.pending := by
  simp only [noFlowExpiry]
  (repeat' split) <;> simp [abortJob_frame]

theorem settleExpiry_frame (r : RobotId) (s : State) :
    (settleExpiry r s).pins = s.pins ∧ (settleExpiry r s).pitch = s.pitch
      ∧ (settleExpiry r s).cameras = s.cameras ∧ (settleExpiry r s).gates = s.gates
      ∧ (settleExpiry r s).stops = s.stops ∧ (settleExpiry r s).fill = s.fill
      ∧ (settleExpiry r s).mainSwitch = s.mainSwitch ∧ (settleExpiry r s).groups = s.groups
      ∧ (settleExpiry r s).access = s.access ∧ (settleExpiry r s).time = s.time
      ∧ (settleExpiry r s).link = s.link ∧ (settleExpiry r s).pending = s.pending := by
  simp only [settleExpiry]
  (repeat' split) <;> simp [reportJob_frame]

theorem valveSecond_frame (r : RobotId) (s : State) :
    (valveSecond r s).pins = s.pins ∧ (valveSecond r s).pitch = s.pitch ∧ (valveSecond r s).track = s.track
      ∧ (valveSecond r s).cameras = s.cameras ∧ (valveSecond r s).gates = s.gates
      ∧ (valveSecond r s).stops = s.stops ∧ (valveSecond r s).fill = s.fill
      ∧ (valveSecond r s).robots = s.robots ∧ (valveSecond r s).doses = s.doses ∧ (valveSecond r s).bus = s.bus
      ∧ (valveSecond r s).mainSwitch = s.mainSwitch ∧ (valveSecond r s).groups = s.groups
      ∧ (valveSecond r s).access = s.access ∧ (valveSecond r s).time = s.time ∧ (valveSecond r s).link = s.link
      ∧ (valveSecond r s).pending = s.pending := by
  simp only [valveSecond]
  (repeat' split) <;> simp [countOn_frame]

theorem enterService_frame (jog : Bool) (r : RobotId) (s : State) :
    (enterService jog r s).pins = s.pins ∧ (enterService jog r s).pitch = s.pitch
      ∧ (enterService jog r s).track = s.track ∧ (enterService jog r s).cameras = s.cameras
      ∧ (enterService jog r s).gates = s.gates ∧ (enterService jog r s).stops = s.stops
      ∧ (enterService jog r s).fill = s.fill ∧ (enterService jog r s).doses = s.doses
      ∧ (enterService jog r s).mainSwitch = s.mainSwitch ∧ (enterService jog r s).groups = s.groups
      ∧ (enterService jog r s).access = s.access ∧ (enterService jog r s).time = s.time
      ∧ (enterService jog r s).counters = s.counters ∧ (enterService jog r s).link = s.link
      ∧ (enterService jog r s).pending = s.pending := by
  simp only [enterService]
  (repeat' split) <;> simp [raiseCommand_frame, changeRobot_frame]

theorem leaveService_frame (r : RobotId) (s : State) :
    (leaveService r s).pins = s.pins ∧ (leaveService r s).pitch = s.pitch ∧ (leaveService r s).track = s.track
      ∧ (leaveService r s).cameras = s.cameras ∧ (leaveService r s).gates = s.gates
      ∧ (leaveService r s).stops = s.stops ∧ (leaveService r s).fill = s.fill
      ∧ (leaveService r s).doses = s.doses ∧ (leaveService r s).mainSwitch = s.mainSwitch
      ∧ (leaveService r s).groups = s.groups ∧ (leaveService r s).access = s.access
      ∧ (leaveService r s).time = s.time ∧ (leaveService r s).counters = s.counters
      ∧ (leaveService r s).link = s.link ∧ (leaveService r s).pending = s.pending := by
  simp only [leaveService]
  (repeat' split) <;> simp [raiseCommand_frame, changeRobot_frame]

theorem intrudeRobot_frame (r : RobotId) (s : State) :
    (intrudeRobot r s).pins = s.pins ∧ (intrudeRobot r s).pitch = s.pitch
      ∧ (intrudeRobot r s).cameras = s.cameras ∧ (intrudeRobot r s).gates = s.gates
      ∧ (intrudeRobot r s).stops = s.stops ∧ (intrudeRobot r s).fill = s.fill
      ∧ (intrudeRobot r s).mainSwitch = s.mainSwitch ∧ (intrudeRobot r s).groups = s.groups
      ∧ (intrudeRobot r s).access = s.access ∧ (intrudeRobot r s).time = s.time
      ∧ (intrudeRobot r s).link = s.link ∧ (intrudeRobot r s).pending = s.pending := by
  simp only [intrudeRobot]
  (repeat' split) <;> simp [raiseCommand_frame, abortJob_frame, changeRobot_frame]

theorem exitLimit_frame (r : RobotId) (s : State) :
    (exitLimit r s).pins = s.pins ∧ (exitLimit r s).pitch = s.pitch ∧ (exitLimit r s).cameras = s.cameras
      ∧ (exitLimit r s).gates = s.gates ∧ (exitLimit r s).stops = s.stops ∧ (exitLimit r s).fill = s.fill
      ∧ (exitLimit r s).mainSwitch = s.mainSwitch ∧ (exitLimit r s).groups = s.groups
      ∧ (exitLimit r s).access = s.access ∧ (exitLimit r s).time = s.time ∧ (exitLimit r s).link = s.link
      ∧ (exitLimit r s).pending = s.pending := by
  simp only [exitLimit]
  (repeat' split) <;> simp [reportJob_frame, failJob_frame]

theorem approachLimit_frame (r : RobotId) (s : State) :
    (approachLimit r s).pins = s.pins ∧ (approachLimit r s).pitch = s.pitch
      ∧ (approachLimit r s).cameras = s.cameras ∧ (approachLimit r s).gates = s.gates
      ∧ (approachLimit r s).stops = s.stops ∧ (approachLimit r s).fill = s.fill
      ∧ (approachLimit r s).mainSwitch = s.mainSwitch ∧ (approachLimit r s).groups = s.groups
      ∧ (approachLimit r s).access = s.access ∧ (approachLimit r s).time = s.time
      ∧ (approachLimit r s).link = s.link ∧ (approachLimit r s).pending = s.pending := by
  simp only [approachLimit]
  (repeat' split) <;> simp [failJob_frame]

theorem armRobot_frame (r : RobotId) (s : State) :
    (armRobot r s).pins = s.pins ∧ (armRobot r s).pitch = s.pitch ∧ (armRobot r s).track = s.track
      ∧ (armRobot r s).cameras = s.cameras ∧ (armRobot r s).gates = s.gates ∧ (armRobot r s).stops = s.stops
      ∧ (armRobot r s).fill = s.fill ∧ (armRobot r s).doses = s.doses ∧ (armRobot r s).bus = s.bus
      ∧ (armRobot r s).mainSwitch = s.mainSwitch ∧ (armRobot r s).groups = s.groups
      ∧ (armRobot r s).access = s.access ∧ (armRobot r s).time = s.time ∧ (armRobot r s).counters = s.counters
      ∧ (armRobot r s).events = s.events ∧ (armRobot r s).link = s.link
      ∧ (armRobot r s).pending = s.pending := by
  simp only [armRobot]
  (repeat' split) <;> simp

theorem assign_frame (r : RobotId) (t : Half) (s : State) :
    (assign r t s).pins = s.pins ∧ (assign r t s).pitch = s.pitch ∧ (assign r t s).cameras = s.cameras
      ∧ (assign r t s).gates = s.gates ∧ (assign r t s).stops = s.stops ∧ (assign r t s).fill = s.fill
      ∧ (assign r t s).mainSwitch = s.mainSwitch ∧ (assign r t s).groups = s.groups
      ∧ (assign r t s).access = s.access ∧ (assign r t s).time = s.time ∧ (assign r t s).counters = s.counters
      ∧ (assign r t s).events = s.events ∧ (assign r t s).link = s.link
      ∧ (assign r t s).pending = s.pending := by
  simp only [assign]
  simp [editSlot_frame, raiseCommand_frame]

theorem assignEntry_frame (s : State) :
    (assignEntry s).pins = s.pins ∧ (assignEntry s).pitch = s.pitch ∧ (assignEntry s).cameras = s.cameras
      ∧ (assignEntry s).gates = s.gates ∧ (assignEntry s).stops = s.stops ∧ (assignEntry s).fill = s.fill
      ∧ (assignEntry s).mainSwitch = s.mainSwitch ∧ (assignEntry s).groups = s.groups
      ∧ (assignEntry s).access = s.access ∧ (assignEntry s).time = s.time
      ∧ (assignEntry s).counters = s.counters ∧ (assignEntry s).events = s.events
      ∧ (assignEntry s).link = s.link ∧ (assignEntry s).pending = s.pending := by
  simp only [assignEntry]
  (repeat' split) <;> simp [editSlot_frame, assign_frame]

theorem beginAddressed_frame (r : RobotId) (e : BusEntry) (s : State) :
    (beginAddressed r e s).pins = s.pins ∧ (beginAddressed r e s).pitch = s.pitch
      ∧ (beginAddressed r e s).track = s.track ∧ (beginAddressed r e s).cameras = s.cameras
      ∧ (beginAddressed r e s).gates = s.gates ∧ (beginAddressed r e s).stops = s.stops
      ∧ (beginAddressed r e s).fill = s.fill ∧ (beginAddressed r e s).robots = s.robots
      ∧ (beginAddressed r e s).doses = s.doses ∧ (beginAddressed r e s).mainSwitch = s.mainSwitch
      ∧ (beginAddressed r e s).groups = s.groups ∧ (beginAddressed r e s).access = s.access
      ∧ (beginAddressed r e s).time = s.time ∧ (beginAddressed r e s).counters = s.counters
      ∧ (beginAddressed r e s).events = s.events ∧ (beginAddressed r e s).link = s.link
      ∧ (beginAddressed r e s).pending = s.pending := by
  simp only [beginAddressed]
  simp

theorem startTransaction_frame (s : State) :
    (startTransaction s).pins = s.pins ∧ (startTransaction s).pitch = s.pitch
      ∧ (startTransaction s).track = s.track ∧ (startTransaction s).cameras = s.cameras
      ∧ (startTransaction s).gates = s.gates ∧ (startTransaction s).stops = s.stops
      ∧ (startTransaction s).fill = s.fill ∧ (startTransaction s).robots = s.robots
      ∧ (startTransaction s).doses = s.doses ∧ (startTransaction s).mainSwitch = s.mainSwitch
      ∧ (startTransaction s).groups = s.groups ∧ (startTransaction s).access = s.access
      ∧ (startTransaction s).time = s.time ∧ (startTransaction s).counters = s.counters
      ∧ (startTransaction s).events = s.events ∧ (startTransaction s).link = s.link
      ∧ (startTransaction s).pending = s.pending := by
  simp only [startTransaction]
  (repeat' split) <;> simp [beginAddressed_frame]

theorem endTransaction_frame (s : State) :
    (endTransaction s).pins = s.pins ∧ (endTransaction s).pitch = s.pitch ∧ (endTransaction s).track = s.track
      ∧ (endTransaction s).cameras = s.cameras ∧ (endTransaction s).gates = s.gates
      ∧ (endTransaction s).stops = s.stops ∧ (endTransaction s).fill = s.fill
      ∧ (endTransaction s).robots = s.robots ∧ (endTransaction s).doses = s.doses
      ∧ (endTransaction s).mainSwitch = s.mainSwitch ∧ (endTransaction s).groups = s.groups
      ∧ (endTransaction s).access = s.access ∧ (endTransaction s).time = s.time
      ∧ (endTransaction s).counters = s.counters ∧ (endTransaction s).events = s.events
      ∧ (endTransaction s).link = s.link ∧ (endTransaction s).pending = s.pending := by
  simp only [endTransaction]
  simp

theorem removeEntry_frame (r : RobotId) (serial : Nat) (s : State) :
    (removeEntry r serial s).pins = s.pins ∧ (removeEntry r serial s).pitch = s.pitch
      ∧ (removeEntry r serial s).track = s.track ∧ (removeEntry r serial s).cameras = s.cameras
      ∧ (removeEntry r serial s).gates = s.gates ∧ (removeEntry r serial s).stops = s.stops
      ∧ (removeEntry r serial s).fill = s.fill ∧ (removeEntry r serial s).robots = s.robots
      ∧ (removeEntry r serial s).doses = s.doses ∧ (removeEntry r serial s).mainSwitch = s.mainSwitch
      ∧ (removeEntry r serial s).groups = s.groups ∧ (removeEntry r serial s).access = s.access
      ∧ (removeEntry r serial s).time = s.time ∧ (removeEntry r serial s).counters = s.counters
      ∧ (removeEntry r serial s).events = s.events ∧ (removeEntry r serial s).link = s.link
      ∧ (removeEntry r serial s).pending = s.pending := by
  simp only [removeEntry]
  simp

theorem broadcastSent_frame (s : State) :
    (broadcastSent s).pins = s.pins ∧ (broadcastSent s).pitch = s.pitch ∧ (broadcastSent s).track = s.track
      ∧ (broadcastSent s).cameras = s.cameras ∧ (broadcastSent s).gates = s.gates
      ∧ (broadcastSent s).stops = s.stops ∧ (broadcastSent s).fill = s.fill ∧ (broadcastSent s).doses = s.doses
      ∧ (broadcastSent s).mainSwitch = s.mainSwitch ∧ (broadcastSent s).groups = s.groups
      ∧ (broadcastSent s).access = s.access ∧ (broadcastSent s).time = s.time
      ∧ (broadcastSent s).counters = s.counters ∧ (broadcastSent s).events = s.events
      ∧ (broadcastSent s).link = s.link ∧ (broadcastSent s).pending = s.pending := by
  simp only [broadcastSent]
  (repeat' split) <;> simp

theorem deferEntry_frame (r : RobotId) (serial : Nat) (s : State) :
    (deferEntry r serial s).pins = s.pins ∧ (deferEntry r serial s).pitch = s.pitch
      ∧ (deferEntry r serial s).track = s.track ∧ (deferEntry r serial s).cameras = s.cameras
      ∧ (deferEntry r serial s).gates = s.gates ∧ (deferEntry r serial s).stops = s.stops
      ∧ (deferEntry r serial s).fill = s.fill ∧ (deferEntry r serial s).robots = s.robots
      ∧ (deferEntry r serial s).doses = s.doses ∧ (deferEntry r serial s).mainSwitch = s.mainSwitch
      ∧ (deferEntry r serial s).groups = s.groups ∧ (deferEntry r serial s).access = s.access
      ∧ (deferEntry r serial s).time = s.time ∧ (deferEntry r serial s).counters = s.counters
      ∧ (deferEntry r serial s).events = s.events ∧ (deferEntry r serial s).link = s.link
      ∧ (deferEntry r serial s).pending = s.pending := by
  simp only [deferEntry]
  simp

theorem commandFailed_frame (r : RobotId) (serial : Nat) (s : State) :
    (commandFailed r serial s).pins = s.pins ∧ (commandFailed r serial s).pitch = s.pitch
      ∧ (commandFailed r serial s).track = s.track ∧ (commandFailed r serial s).cameras = s.cameras
      ∧ (commandFailed r serial s).gates = s.gates ∧ (commandFailed r serial s).stops = s.stops
      ∧ (commandFailed r serial s).fill = s.fill ∧ (commandFailed r serial s).robots = s.robots
      ∧ (commandFailed r serial s).doses = s.doses ∧ (commandFailed r serial s).mainSwitch = s.mainSwitch
      ∧ (commandFailed r serial s).groups = s.groups ∧ (commandFailed r serial s).access = s.access
      ∧ (commandFailed r serial s).time = s.time ∧ (commandFailed r serial s).counters = s.counters
      ∧ (commandFailed r serial s).events = s.events ∧ (commandFailed r serial s).link = s.link
      ∧ (commandFailed r serial s).pending = s.pending := by
  simp only [commandFailed]
  (repeat' split) <;> simp [removeEntry_frame, deferEntry_frame]

theorem commandSucceeded_frame (r : RobotId) (serial : Nat) (c : BusCommand) (s : State) :
    (commandSucceeded r serial c s).pins = s.pins ∧ (commandSucceeded r serial c s).pitch = s.pitch
      ∧ (commandSucceeded r serial c s).track = s.track ∧ (commandSucceeded r serial c s).cameras = s.cameras
      ∧ (commandSucceeded r serial c s).gates = s.gates ∧ (commandSucceeded r serial c s).stops = s.stops
      ∧ (commandSucceeded r serial c s).fill = s.fill ∧ (commandSucceeded r serial c s).doses = s.doses
      ∧ (commandSucceeded r serial c s).mainSwitch = s.mainSwitch
      ∧ (commandSucceeded r serial c s).groups = s.groups ∧ (commandSucceeded r serial c s).access = s.access
      ∧ (commandSucceeded r serial c s).time = s.time ∧ (commandSucceeded r serial c s).counters = s.counters
      ∧ (commandSucceeded r serial c s).events = s.events ∧ (commandSucceeded r serial c s).link = s.link
      ∧ (commandSucceeded r serial c s).pending = s.pending := by
  simp only [commandSucceeded]
  (repeat' split) <;> simp [removeEntry_frame]

theorem transactionFailed_frame (r : RobotId) (serial : Nat) (c : BusCommand) (s : State) :
    (transactionFailed r serial c s).pins = s.pins ∧ (transactionFailed r serial c s).pitch = s.pitch
      ∧ (transactionFailed r serial c s).cameras = s.cameras ∧ (transactionFailed r serial c s).gates = s.gates
      ∧ (transactionFailed r serial c s).stops = s.stops ∧ (transactionFailed r serial c s).fill = s.fill
      ∧ (transactionFailed r serial c s).mainSwitch = s.mainSwitch
      ∧ (transactionFailed r serial c s).groups = s.groups ∧ (transactionFailed r serial c s).access = s.access
      ∧ (transactionFailed r serial c s).time = s.time ∧ (transactionFailed r serial c s).link = s.link
      ∧ (transactionFailed r serial c s).pending = s.pending := by
  simp only [transactionFailed]
  (repeat' split) <;> simp [countFailure_frame, removeEntry_frame, commandFailed_frame]

theorem commandDone_frame (acked : Bool) (s : State) :
    (commandDone acked s).pins = s.pins ∧ (commandDone acked s).pitch = s.pitch
      ∧ (commandDone acked s).cameras = s.cameras ∧ (commandDone acked s).gates = s.gates
      ∧ (commandDone acked s).stops = s.stops ∧ (commandDone acked s).fill = s.fill
      ∧ (commandDone acked s).mainSwitch = s.mainSwitch ∧ (commandDone acked s).groups = s.groups
      ∧ (commandDone acked s).access = s.access ∧ (commandDone acked s).time = s.time
      ∧ (commandDone acked s).link = s.link ∧ (commandDone acked s).pending = s.pending := by
  simp only [commandDone]
  (repeat' split) <;> simp [endTransaction_frame, commandSucceeded_frame, transactionFailed_frame]

theorem pollDone_frame (acked : Bool) (statusByte codeByte : Byte) (s : State) :
    (pollDone acked statusByte codeByte s).pins = s.pins
      ∧ (pollDone acked statusByte codeByte s).pitch = s.pitch
      ∧ (pollDone acked statusByte codeByte s).cameras = s.cameras
      ∧ (pollDone acked statusByte codeByte s).gates = s.gates
      ∧ (pollDone acked statusByte codeByte s).stops = s.stops
      ∧ (pollDone acked statusByte codeByte s).fill = s.fill
      ∧ (pollDone acked statusByte codeByte s).mainSwitch = s.mainSwitch
      ∧ (pollDone acked statusByte codeByte s).groups = s.groups
      ∧ (pollDone acked statusByte codeByte s).access = s.access
      ∧ (pollDone acked statusByte codeByte s).time = s.time
      ∧ (pollDone acked statusByte codeByte s).link = s.link
      ∧ (pollDone acked statusByte codeByte s).pending = s.pending := by
  simp only [pollDone]
  (repeat' split) <;> simp [takePoll_frame, endTransaction_frame, removeEntry_frame, transactionFailed_frame]

theorem clockHold_frame (r : RobotId) (s : State) :
    (clockHold r s).pins = s.pins ∧ (clockHold r s).pitch = s.pitch ∧ (clockHold r s).cameras = s.cameras
      ∧ (clockHold r s).gates = s.gates ∧ (clockHold r s).stops = s.stops ∧ (clockHold r s).fill = s.fill
      ∧ (clockHold r s).mainSwitch = s.mainSwitch ∧ (clockHold r s).groups = s.groups
      ∧ (clockHold r s).access = s.access ∧ (clockHold r s).time = s.time ∧ (clockHold r s).link = s.link
      ∧ (clockHold r s).pending = s.pending := by
  simp only [clockHold]
  (repeat' split) <;> simp [countFailure_frame, endTransaction_frame, transactionFailed_frame]

theorem clockRelease_frame (r : RobotId) (s : State) :
    (clockRelease r s).pins = s.pins ∧ (clockRelease r s).pitch = s.pitch ∧ (clockRelease r s).track = s.track
      ∧ (clockRelease r s).cameras = s.cameras ∧ (clockRelease r s).gates = s.gates
      ∧ (clockRelease r s).stops = s.stops ∧ (clockRelease r s).fill = s.fill
      ∧ (clockRelease r s).robots = s.robots ∧ (clockRelease r s).doses = s.doses
      ∧ (clockRelease r s).mainSwitch = s.mainSwitch ∧ (clockRelease r s).groups = s.groups
      ∧ (clockRelease r s).access = s.access ∧ (clockRelease r s).time = s.time
      ∧ (clockRelease r s).counters = s.counters ∧ (clockRelease r s).events = s.events
      ∧ (clockRelease r s).link = s.link ∧ (clockRelease r s).pending = s.pending := by
  simp only [clockRelease]
  (repeat' split) <;> simp

theorem pollExpiry_frame (r : RobotId) (s : State) :
    (pollExpiry r s).pins = s.pins ∧ (pollExpiry r s).pitch = s.pitch ∧ (pollExpiry r s).track = s.track
      ∧ (pollExpiry r s).cameras = s.cameras ∧ (pollExpiry r s).gates = s.gates
      ∧ (pollExpiry r s).stops = s.stops ∧ (pollExpiry r s).fill = s.fill ∧ (pollExpiry r s).doses = s.doses
      ∧ (pollExpiry r s).mainSwitch = s.mainSwitch ∧ (pollExpiry r s).groups = s.groups
      ∧ (pollExpiry r s).access = s.access ∧ (pollExpiry r s).time = s.time
      ∧ (pollExpiry r s).counters = s.counters ∧ (pollExpiry r s).events = s.events
      ∧ (pollExpiry r s).link = s.link ∧ (pollExpiry r s).pending = s.pending := by
  simp only [pollExpiry]
  (repeat' split) <;> simp [raisePoll_frame]

theorem enterGroup_frame (g : GroupId) (st : GroupState) (s : State) :
    (enterGroup g st s).pins = s.pins ∧ (enterGroup g st s).pitch = s.pitch
      ∧ (enterGroup g st s).track = s.track ∧ (enterGroup g st s).cameras = s.cameras
      ∧ (enterGroup g st s).gates = s.gates ∧ (enterGroup g st s).stops = s.stops
      ∧ (enterGroup g st s).fill = s.fill ∧ (enterGroup g st s).robots = s.robots
      ∧ (enterGroup g st s).doses = s.doses ∧ (enterGroup g st s).bus = s.bus
      ∧ (enterGroup g st s).mainSwitch = s.mainSwitch ∧ (enterGroup g st s).access = s.access
      ∧ (enterGroup g st s).time = s.time ∧ (enterGroup g st s).counters = s.counters
      ∧ (enterGroup g st s).link = s.link ∧ (enterGroup g st s).pending = s.pending := by
  simp only [enterGroup]
  simp

theorem leaveClosed_frame (zones : List GroupId) (s : State) :
    (leaveClosed zones s).pins = s.pins ∧ (leaveClosed zones s).pitch = s.pitch
      ∧ (leaveClosed zones s).cameras = s.cameras ∧ (leaveClosed zones s).gates = s.gates
      ∧ (leaveClosed zones s).stops = s.stops ∧ (leaveClosed zones s).fill = s.fill
      ∧ (leaveClosed zones s).mainSwitch = s.mainSwitch ∧ (leaveClosed zones s).groups = s.groups
      ∧ (leaveClosed zones s).access = s.access ∧ (leaveClosed zones s).time = s.time
      ∧ (leaveClosed zones s).link = s.link ∧ (leaveClosed zones s).pending = s.pending := by
  simp only [leaveClosed]
  simp [abortJob_frame]

theorem dropCoil_frame (g : GroupId) (s : State) :
    (dropCoil g s).pins = s.pins ∧ (dropCoil g s).pitch = s.pitch ∧ (dropCoil g s).track = s.track
      ∧ (dropCoil g s).cameras = s.cameras ∧ (dropCoil g s).gates = s.gates ∧ (dropCoil g s).stops = s.stops
      ∧ (dropCoil g s).fill = s.fill ∧ (dropCoil g s).robots = s.robots ∧ (dropCoil g s).doses = s.doses
      ∧ (dropCoil g s).bus = s.bus ∧ (dropCoil g s).mainSwitch = s.mainSwitch ∧ (dropCoil g s).access = s.access
      ∧ (dropCoil g s).time = s.time ∧ (dropCoil g s).counters = s.counters ∧ (dropCoil g s).link = s.link
      ∧ (dropCoil g s).pending = s.pending := by
  simp only [dropCoil]
  (repeat' split) <;> simp [enterGroup_frame]

theorem openGroup_frame (g : GroupId) (s : State) :
    (openGroup g s).pins = s.pins ∧ (openGroup g s).pitch = s.pitch ∧ (openGroup g s).cameras = s.cameras
      ∧ (openGroup g s).gates = s.gates ∧ (openGroup g s).stops = s.stops ∧ (openGroup g s).fill = s.fill
      ∧ (openGroup g s).mainSwitch = s.mainSwitch ∧ (openGroup g s).access = s.access
      ∧ (openGroup g s).time = s.time ∧ (openGroup g s).link = s.link
      ∧ (openGroup g s).pending = s.pending := by
  simp only [openGroup]
  (repeat' split) <;> simp [leaveClosed_frame, dropCoil_frame]

theorem closeGroup_frame (g : GroupId) (s : State) :
    (closeGroup g s).pins = s.pins ∧ (closeGroup g s).pitch = s.pitch ∧ (closeGroup g s).track = s.track
      ∧ (closeGroup g s).cameras = s.cameras ∧ (closeGroup g s).gates = s.gates
      ∧ (closeGroup g s).stops = s.stops ∧ (closeGroup g s).fill = s.fill ∧ (closeGroup g s).robots = s.robots
      ∧ (closeGroup g s).doses = s.doses ∧ (closeGroup g s).bus = s.bus
      ∧ (closeGroup g s).mainSwitch = s.mainSwitch ∧ (closeGroup g s).access = s.access
      ∧ (closeGroup g s).time = s.time ∧ (closeGroup g s).link = s.link
      ∧ (closeGroup g s).pending = s.pending := by
  simp only [closeGroup]
  (repeat' split) <;> simp [countOn_frame, enterGroup_frame]

theorem pullinExpiry_frame (g : GroupId) (s : State) :
    (pullinExpiry g s).pins = s.pins ∧ (pullinExpiry g s).pitch = s.pitch ∧ (pullinExpiry g s).track = s.track
      ∧ (pullinExpiry g s).cameras = s.cameras ∧ (pullinExpiry g s).gates = s.gates
      ∧ (pullinExpiry g s).stops = s.stops ∧ (pullinExpiry g s).fill = s.fill
      ∧ (pullinExpiry g s).robots = s.robots ∧ (pullinExpiry g s).doses = s.doses
      ∧ (pullinExpiry g s).bus = s.bus ∧ (pullinExpiry g s).mainSwitch = s.mainSwitch
      ∧ (pullinExpiry g s).access = s.access ∧ (pullinExpiry g s).time = s.time
      ∧ (pullinExpiry g s).counters = s.counters ∧ (pullinExpiry g s).link = s.link
      ∧ (pullinExpiry g s).pending = s.pending := by
  simp only [pullinExpiry]
  (repeat' split) <;> simp [enterGroup_frame]

theorem fallOutExpiry_frame (g : GroupId) (s : State) :
    (fallOutExpiry g s).pins = s.pins ∧ (fallOutExpiry g s).pitch = s.pitch
      ∧ (fallOutExpiry g s).cameras = s.cameras ∧ (fallOutExpiry g s).gates = s.gates
      ∧ (fallOutExpiry g s).stops = s.stops ∧ (fallOutExpiry g s).fill = s.fill
      ∧ (fallOutExpiry g s).mainSwitch = s.mainSwitch ∧ (fallOutExpiry g s).access = s.access
      ∧ (fallOutExpiry g s).time = s.time ∧ (fallOutExpiry g s).link = s.link
      ∧ (fallOutExpiry g s).pending = s.pending := by
  simp only [fallOutExpiry]
  (repeat' split) <;> simp [enterGroup_frame, leaveClosed_frame]

theorem dropoutExpiry_frame (g : GroupId) (s : State) :
    (dropoutExpiry g s).pins = s.pins ∧ (dropoutExpiry g s).pitch = s.pitch
      ∧ (dropoutExpiry g s).track = s.track ∧ (dropoutExpiry g s).cameras = s.cameras
      ∧ (dropoutExpiry g s).gates = s.gates ∧ (dropoutExpiry g s).stops = s.stops
      ∧ (dropoutExpiry g s).fill = s.fill ∧ (dropoutExpiry g s).robots = s.robots
      ∧ (dropoutExpiry g s).doses = s.doses ∧ (dropoutExpiry g s).bus = s.bus
      ∧ (dropoutExpiry g s).mainSwitch = s.mainSwitch ∧ (dropoutExpiry g s).access = s.access
      ∧ (dropoutExpiry g s).time = s.time ∧ (dropoutExpiry g s).counters = s.counters
      ∧ (dropoutExpiry g s).link = s.link ∧ (dropoutExpiry g s).pending = s.pending := by
  simp only [dropoutExpiry]
  (repeat' split) <;> simp [enterGroup_frame]

theorem weldExpiry_frame (g : GroupId) (s : State) :
    (weldExpiry g s).pins = s.pins ∧ (weldExpiry g s).pitch = s.pitch ∧ (weldExpiry g s).track = s.track
      ∧ (weldExpiry g s).cameras = s.cameras ∧ (weldExpiry g s).gates = s.gates
      ∧ (weldExpiry g s).stops = s.stops ∧ (weldExpiry g s).fill = s.fill ∧ (weldExpiry g s).robots = s.robots
      ∧ (weldExpiry g s).doses = s.doses ∧ (weldExpiry g s).bus = s.bus
      ∧ (weldExpiry g s).mainSwitch = s.mainSwitch ∧ (weldExpiry g s).access = s.access
      ∧ (weldExpiry g s).time = s.time ∧ (weldExpiry g s).counters = s.counters ∧ (weldExpiry g s).link = s.link
      ∧ (weldExpiry g s).pending = s.pending := by
  simp only [weldExpiry]
  (repeat' split) <;> simp [enterGroup_frame]

theorem setGroupTimer_frame (g : GroupId) (t : Option Nat) (s : State) :
    (setGroupTimer g t s).pins = s.pins ∧ (setGroupTimer g t s).pitch = s.pitch
      ∧ (setGroupTimer g t s).track = s.track ∧ (setGroupTimer g t s).cameras = s.cameras
      ∧ (setGroupTimer g t s).gates = s.gates ∧ (setGroupTimer g t s).stops = s.stops
      ∧ (setGroupTimer g t s).fill = s.fill ∧ (setGroupTimer g t s).robots = s.robots
      ∧ (setGroupTimer g t s).doses = s.doses ∧ (setGroupTimer g t s).bus = s.bus
      ∧ (setGroupTimer g t s).mainSwitch = s.mainSwitch ∧ (setGroupTimer g t s).access = s.access
      ∧ (setGroupTimer g t s).time = s.time ∧ (setGroupTimer g t s).counters = s.counters
      ∧ (setGroupTimer g t s).events = s.events ∧ (setGroupTimer g t s).link = s.link
      ∧ (setGroupTimer g t s).pending = s.pending := by
  simp only [setGroupTimer]
  simp

theorem mirrorChange_frame (g : GroupId) (reportsClosed : Bool) (s : State) :
    (mirrorChange g reportsClosed s).pitch = s.pitch ∧ (mirrorChange g reportsClosed s).track = s.track
      ∧ (mirrorChange g reportsClosed s).cameras = s.cameras ∧ (mirrorChange g reportsClosed s).gates = s.gates
      ∧ (mirrorChange g reportsClosed s).stops = s.stops ∧ (mirrorChange g reportsClosed s).fill = s.fill
      ∧ (mirrorChange g reportsClosed s).robots = s.robots ∧ (mirrorChange g reportsClosed s).doses = s.doses
      ∧ (mirrorChange g reportsClosed s).bus = s.bus
      ∧ (mirrorChange g reportsClosed s).mainSwitch = s.mainSwitch
      ∧ (mirrorChange g reportsClosed s).access = s.access ∧ (mirrorChange g reportsClosed s).time = s.time
      ∧ (mirrorChange g reportsClosed s).counters = s.counters ∧ (mirrorChange g reportsClosed s).link = s.link
      ∧ (mirrorChange g reportsClosed s).pending = s.pending := by
  simp only [mirrorChange]
  (repeat' split) <;> simp [enterGroup_frame, setGroupTimer_frame]

theorem cutPower_frame (s : State) :
    (cutPower s).pins = s.pins ∧ (cutPower s).pitch = s.pitch ∧ (cutPower s).cameras = s.cameras
      ∧ (cutPower s).gates = s.gates ∧ (cutPower s).stops = s.stops ∧ (cutPower s).fill = s.fill
      ∧ (cutPower s).mainSwitch = s.mainSwitch ∧ (cutPower s).access = s.access ∧ (cutPower s).time = s.time
      ∧ (cutPower s).link = s.link ∧ (cutPower s).pending = s.pending := by
  simp only [cutPower]
  simp [leaveClosed_frame, dropCoil_frame]

theorem switchToOn_frame (s : State) :
    (switchToOn s).pins = s.pins ∧ (switchToOn s).pitch = s.pitch ∧ (switchToOn s).track = s.track
      ∧ (switchToOn s).cameras = s.cameras ∧ (switchToOn s).gates = s.gates ∧ (switchToOn s).stops = s.stops
      ∧ (switchToOn s).fill = s.fill ∧ (switchToOn s).robots = s.robots ∧ (switchToOn s).doses = s.doses
      ∧ (switchToOn s).bus = s.bus ∧ (switchToOn s).groups = s.groups ∧ (switchToOn s).access = s.access
      ∧ (switchToOn s).time = s.time ∧ (switchToOn s).counters = s.counters ∧ (switchToOn s).link = s.link
      ∧ (switchToOn s).pending = s.pending := by
  simp only [switchToOn]
  (repeat' split) <;> simp

theorem switchToOff_frame (s : State) :
    (switchToOff s).pins = s.pins ∧ (switchToOff s).pitch = s.pitch ∧ (switchToOff s).cameras = s.cameras
      ∧ (switchToOff s).gates = s.gates ∧ (switchToOff s).fill = s.fill ∧ (switchToOff s).access = s.access
      ∧ (switchToOff s).time = s.time ∧ (switchToOff s).link = s.link
      ∧ (switchToOff s).pending = s.pending := by
  simp only [switchToOff]
  (repeat' split) <;> simp [cutPower_frame]

theorem contactChange_frame (msaClosed msbClosed : Bool) (s : State) :
    (contactChange msaClosed msbClosed s).pitch = s.pitch
      ∧ (contactChange msaClosed msbClosed s).cameras = s.cameras
      ∧ (contactChange msaClosed msbClosed s).gates = s.gates
      ∧ (contactChange msaClosed msbClosed s).fill = s.fill
      ∧ (contactChange msaClosed msbClosed s).access = s.access
      ∧ (contactChange msaClosed msbClosed s).time = s.time
      ∧ (contactChange msaClosed msbClosed s).link = s.link
      ∧ (contactChange msaClosed msbClosed s).pending = s.pending := by
  simp only [contactChange]
  (repeat' split) <;> simp [switchToOn_frame, switchToOff_frame]

theorem discrepancyExpiry_frame (s : State) :
    (discrepancyExpiry s).pins = s.pins ∧ (discrepancyExpiry s).pitch = s.pitch
      ∧ (discrepancyExpiry s).cameras = s.cameras ∧ (discrepancyExpiry s).gates = s.gates
      ∧ (discrepancyExpiry s).fill = s.fill ∧ (discrepancyExpiry s).access = s.access
      ∧ (discrepancyExpiry s).time = s.time ∧ (discrepancyExpiry s).link = s.link
      ∧ (discrepancyExpiry s).pending = s.pending := by
  simp only [discrepancyExpiry]
  (repeat' split) <;> simp [cutPower_frame]

theorem raiseGrantState_frame (i : PlaceId) (badge : Long) (code : Nat) (s : State) :
    (raiseGrantState i badge code s).pins = s.pins ∧ (raiseGrantState i badge code s).pitch = s.pitch
      ∧ (raiseGrantState i badge code s).track = s.track ∧ (raiseGrantState i badge code s).cameras = s.cameras
      ∧ (raiseGrantState i badge code s).gates = s.gates ∧ (raiseGrantState i badge code s).stops = s.stops
      ∧ (raiseGrantState i badge code s).fill = s.fill ∧ (raiseGrantState i badge code s).robots = s.robots
      ∧ (raiseGrantState i badge code s).doses = s.doses ∧ (raiseGrantState i badge code s).bus = s.bus
      ∧ (raiseGrantState i badge code s).mainSwitch = s.mainSwitch
      ∧ (raiseGrantState i badge code s).groups = s.groups ∧ (raiseGrantState i badge code s).access = s.access
      ∧ (raiseGrantState i badge code s).time = s.time ∧ (raiseGrantState i badge code s).counters = s.counters
      ∧ (raiseGrantState i badge code s).link = s.link
      ∧ (raiseGrantState i badge code s).pending = s.pending := by
  simp only [raiseGrantState]
  simp

theorem enterGrant_frame (i : PlaceId) (g : Grant) (st : GrantState) (s : State) :
    (enterGrant i g st s).pins = s.pins ∧ (enterGrant i g st s).pitch = s.pitch
      ∧ (enterGrant i g st s).track = s.track ∧ (enterGrant i g st s).cameras = s.cameras
      ∧ (enterGrant i g st s).gates = s.gates ∧ (enterGrant i g st s).stops = s.stops
      ∧ (enterGrant i g st s).fill = s.fill ∧ (enterGrant i g st s).robots = s.robots
      ∧ (enterGrant i g st s).doses = s.doses ∧ (enterGrant i g st s).bus = s.bus
      ∧ (enterGrant i g st s).mainSwitch = s.mainSwitch ∧ (enterGrant i g st s).groups = s.groups
      ∧ (enterGrant i g st s).time = s.time ∧ (enterGrant i g st s).counters = s.counters
      ∧ (enterGrant i g st s).link = s.link ∧ (enterGrant i g st s).pending = s.pending := by
  simp only [enterGrant]
  simp [raiseGrantState_frame]

theorem serveRobots_frame (g : Grant) (s : State) :
    (serveRobots g s).pins = s.pins ∧ (serveRobots g s).pitch = s.pitch ∧ (serveRobots g s).track = s.track
      ∧ (serveRobots g s).cameras = s.cameras ∧ (serveRobots g s).gates = s.gates
      ∧ (serveRobots g s).stops = s.stops ∧ (serveRobots g s).fill = s.fill ∧ (serveRobots g s).doses = s.doses
      ∧ (serveRobots g s).mainSwitch = s.mainSwitch ∧ (serveRobots g s).groups = s.groups
      ∧ (serveRobots g s).access = s.access ∧ (serveRobots g s).time = s.time
      ∧ (serveRobots g s).counters = s.counters ∧ (serveRobots g s).link = s.link
      ∧ (serveRobots g s).pending = s.pending := by
  simp only [serveRobots]
  simp [enterService_frame]

theorem endDrain_frame (i : PlaceId) (g : Grant) (s : State) :
    (endDrain i g s).pins = s.pins ∧ (endDrain i g s).pitch = s.pitch ∧ (endDrain i g s).cameras = s.cameras
      ∧ (endDrain i g s).gates = s.gates ∧ (endDrain i g s).stops = s.stops ∧ (endDrain i g s).fill = s.fill
      ∧ (endDrain i g s).mainSwitch = s.mainSwitch ∧ (endDrain i g s).time = s.time
      ∧ (endDrain i g s).link = s.link ∧ (endDrain i g s).pending = s.pending := by
  simp only [endDrain]
  (repeat' split) <;> simp [openGroup_frame, enterGrant_frame, serveRobots_frame]

theorem judgeDrain_frame (i : PlaceId) (s : State) :
    (judgeDrain i s).pins = s.pins ∧ (judgeDrain i s).pitch = s.pitch ∧ (judgeDrain i s).cameras = s.cameras
      ∧ (judgeDrain i s).gates = s.gates ∧ (judgeDrain i s).stops = s.stops ∧ (judgeDrain i s).fill = s.fill
      ∧ (judgeDrain i s).mainSwitch = s.mainSwitch ∧ (judgeDrain i s).time = s.time
      ∧ (judgeDrain i s).link = s.link ∧ (judgeDrain i s).pending = s.pending := by
  simp only [judgeDrain]
  (repeat' split) <;> simp [endDrain_frame]

theorem judgeIsolation_frame (i : PlaceId) (s : State) :
    (judgeIsolation i s).pins = s.pins ∧ (judgeIsolation i s).pitch = s.pitch
      ∧ (judgeIsolation i s).track = s.track ∧ (judgeIsolation i s).cameras = s.cameras
      ∧ (judgeIsolation i s).gates = s.gates ∧ (judgeIsolation i s).stops = s.stops
      ∧ (judgeIsolation i s).fill = s.fill ∧ (judgeIsolation i s).robots = s.robots
      ∧ (judgeIsolation i s).doses = s.doses ∧ (judgeIsolation i s).bus = s.bus
      ∧ (judgeIsolation i s).mainSwitch = s.mainSwitch ∧ (judgeIsolation i s).groups = s.groups
      ∧ (judgeIsolation i s).time = s.time ∧ (judgeIsolation i s).counters = s.counters
      ∧ (judgeIsolation i s).link = s.link ∧ (judgeIsolation i s).pending = s.pending := by
  simp only [judgeIsolation]
  (repeat' split) <;> simp [enterGrant_frame]

theorem judgeGrants_frame (s : State) :
    (judgeGrants s).pins = s.pins ∧ (judgeGrants s).pitch = s.pitch ∧ (judgeGrants s).cameras = s.cameras
      ∧ (judgeGrants s).gates = s.gates ∧ (judgeGrants s).stops = s.stops ∧ (judgeGrants s).fill = s.fill
      ∧ (judgeGrants s).mainSwitch = s.mainSwitch ∧ (judgeGrants s).time = s.time
      ∧ (judgeGrants s).link = s.link ∧ (judgeGrants s).pending = s.pending := by
  simp only [judgeGrants]
  simp [judgeDrain_frame, judgeIsolation_frame]

theorem settle_frame (s : State) :
    (settle s).pins = s.pins ∧ (settle s).pitch = s.pitch ∧ (settle s).cameras = s.cameras
      ∧ (settle s).gates = s.gates ∧ (settle s).stops = s.stops ∧ (settle s).fill = s.fill
      ∧ (settle s).mainSwitch = s.mainSwitch ∧ (settle s).time = s.time ∧ (settle s).link = s.link
      ∧ (settle s).pending = s.pending := by
  simp only [settle]
  simp [judgeReleases_frame, judgeGrants_frame]

theorem drainExpiry_frame (i : PlaceId) (s : State) :
    (drainExpiry i s).pins = s.pins ∧ (drainExpiry i s).pitch = s.pitch ∧ (drainExpiry i s).cameras = s.cameras
      ∧ (drainExpiry i s).gates = s.gates ∧ (drainExpiry i s).stops = s.stops ∧ (drainExpiry i s).fill = s.fill
      ∧ (drainExpiry i s).mainSwitch = s.mainSwitch ∧ (drainExpiry i s).time = s.time
      ∧ (drainExpiry i s).link = s.link ∧ (drainExpiry i s).pending = s.pending := by
  simp only [drainExpiry]
  (repeat' split) <;> simp [abortJob_frame]

theorem endGrant_frame (i : PlaceId) (g : Grant) (s : State) :
    (endGrant i g s).pins = s.pins ∧ (endGrant i g s).pitch = s.pitch ∧ (endGrant i g s).track = s.track
      ∧ (endGrant i g s).cameras = s.cameras ∧ (endGrant i g s).gates = s.gates
      ∧ (endGrant i g s).stops = s.stops ∧ (endGrant i g s).fill = s.fill ∧ (endGrant i g s).doses = s.doses
      ∧ (endGrant i g s).mainSwitch = s.mainSwitch ∧ (endGrant i g s).groups = s.groups
      ∧ (endGrant i g s).time = s.time ∧ (endGrant i g s).counters = s.counters ∧ (endGrant i g s).link = s.link
      ∧ (endGrant i g s).pending = s.pending := by
  simp only [endGrant]
  simp [leaveService_frame, raiseGrantState_frame]

theorem atExpiry_frame (i : PlaceId) (g : Grant) (s : State) :
    (atExpiry i g s).pins = s.pins ∧ (atExpiry i g s).pitch = s.pitch ∧ (atExpiry i g s).track = s.track
      ∧ (atExpiry i g s).cameras = s.cameras ∧ (atExpiry i g s).gates = s.gates
      ∧ (atExpiry i g s).stops = s.stops ∧ (atExpiry i g s).fill = s.fill ∧ (atExpiry i g s).doses = s.doses
      ∧ (atExpiry i g s).mainSwitch = s.mainSwitch ∧ (atExpiry i g s).groups = s.groups
      ∧ (atExpiry i g s).time = s.time ∧ (atExpiry i g s).counters = s.counters ∧ (atExpiry i g s).link = s.link
      ∧ (atExpiry i g s).pending = s.pending := by
  simp only [atExpiry]
  (repeat' split) <;> simp [enterGrant_frame, endGrant_frame]

theorem expireGrant_frame (i : PlaceId) (uptime : Long) (s : State) :
    (expireGrant i uptime s).pins = s.pins ∧ (expireGrant i uptime s).pitch = s.pitch
      ∧ (expireGrant i uptime s).track = s.track ∧ (expireGrant i uptime s).cameras = s.cameras
      ∧ (expireGrant i uptime s).gates = s.gates ∧ (expireGrant i uptime s).stops = s.stops
      ∧ (expireGrant i uptime s).fill = s.fill ∧ (expireGrant i uptime s).doses = s.doses
      ∧ (expireGrant i uptime s).mainSwitch = s.mainSwitch ∧ (expireGrant i uptime s).groups = s.groups
      ∧ (expireGrant i uptime s).time = s.time ∧ (expireGrant i uptime s).counters = s.counters
      ∧ (expireGrant i uptime s).link = s.link ∧ (expireGrant i uptime s).pending = s.pending := by
  simp only [expireGrant]
  (repeat' split) <;> simp [atExpiry_frame]

theorem zoneIntrusion_frame (z : GroupId) (how : Half) (s : State) :
    (zoneIntrusion z how s).pins = s.pins ∧ (zoneIntrusion z how s).pitch = s.pitch
      ∧ (zoneIntrusion z how s).cameras = s.cameras ∧ (zoneIntrusion z how s).gates = s.gates
      ∧ (zoneIntrusion z how s).stops = s.stops ∧ (zoneIntrusion z how s).fill = s.fill
      ∧ (zoneIntrusion z how s).mainSwitch = s.mainSwitch ∧ (zoneIntrusion z how s).time = s.time
      ∧ (zoneIntrusion z how s).link = s.link ∧ (zoneIntrusion z how s).pending = s.pending := by
  simp only [zoneIntrusion]
  (repeat' split) <;> simp [intrudeRobot_frame, openGroup_frame]

theorem cabinetIntrusion_frame (how zoneHow : Half) (s : State) :
    (cabinetIntrusion how zoneHow s).pins = s.pins ∧ (cabinetIntrusion how zoneHow s).pitch = s.pitch
      ∧ (cabinetIntrusion how zoneHow s).cameras = s.cameras ∧ (cabinetIntrusion how zoneHow s).gates = s.gates
      ∧ (cabinetIntrusion how zoneHow s).fill = s.fill
      ∧ (cabinetIntrusion how zoneHow s).mainSwitch = s.mainSwitch
      ∧ (cabinetIntrusion how zoneHow s).time = s.time ∧ (cabinetIntrusion how zoneHow s).link = s.link
      ∧ (cabinetIntrusion how zoneHow s).pending = s.pending := by
  simp only [cabinetIntrusion]
  (repeat' split) <;> simp [zoneIntrusion_frame]

theorem flagGrant_frame (d : DoorId) (i : PlaceId) (s : State) :
    (flagGrant d i s).pins = s.pins ∧ (flagGrant d i s).pitch = s.pitch ∧ (flagGrant d i s).track = s.track
      ∧ (flagGrant d i s).cameras = s.cameras ∧ (flagGrant d i s).gates = s.gates
      ∧ (flagGrant d i s).stops = s.stops ∧ (flagGrant d i s).fill = s.fill
      ∧ (flagGrant d i s).robots = s.robots ∧ (flagGrant d i s).doses = s.doses ∧ (flagGrant d i s).bus = s.bus
      ∧ (flagGrant d i s).mainSwitch = s.mainSwitch ∧ (flagGrant d i s).groups = s.groups
      ∧ (flagGrant d i s).time = s.time ∧ (flagGrant d i s).counters = s.counters
      ∧ (flagGrant d i s).events = s.events ∧ (flagGrant d i s).link = s.link
      ∧ (flagGrant d i s).pending = s.pending := by
  simp only [flagGrant]
  (repeat' split) <;> simp

theorem flagOpened_frame (d : DoorId) (s : State) :
    (flagOpened d s).pins = s.pins ∧ (flagOpened d s).pitch = s.pitch ∧ (flagOpened d s).track = s.track
      ∧ (flagOpened d s).cameras = s.cameras ∧ (flagOpened d s).gates = s.gates
      ∧ (flagOpened d s).stops = s.stops ∧ (flagOpened d s).fill = s.fill ∧ (flagOpened d s).robots = s.robots
      ∧ (flagOpened d s).doses = s.doses ∧ (flagOpened d s).bus = s.bus
      ∧ (flagOpened d s).mainSwitch = s.mainSwitch ∧ (flagOpened d s).groups = s.groups
      ∧ (flagOpened d s).time = s.time ∧ (flagOpened d s).counters = s.counters
      ∧ (flagOpened d s).events = s.events ∧ (flagOpened d s).link = s.link
      ∧ (flagOpened d s).pending = s.pending := by
  simp only [flagOpened]
  simp [flagGrant_frame]

theorem endClosedGrant_frame (d : DoorId) (i : PlaceId) (s : State) :
    (endClosedGrant d i s).pins = s.pins ∧ (endClosedGrant d i s).pitch = s.pitch
      ∧ (endClosedGrant d i s).track = s.track ∧ (endClosedGrant d i s).cameras = s.cameras
      ∧ (endClosedGrant d i s).gates = s.gates ∧ (endClosedGrant d i s).stops = s.stops
      ∧ (endClosedGrant d i s).fill = s.fill ∧ (endClosedGrant d i s).doses = s.doses
      ∧ (endClosedGrant d i s).mainSwitch = s.mainSwitch ∧ (endClosedGrant d i s).groups = s.groups
      ∧ (endClosedGrant d i s).time = s.time ∧ (endClosedGrant d i s).counters = s.counters
      ∧ (endClosedGrant d i s).link = s.link ∧ (endClosedGrant d i s).pending = s.pending := by
  simp only [endClosedGrant]
  (repeat' split) <;> simp [endGrant_frame]

theorem endClosedGrants_frame (d : DoorId) (s : State) :
    (endClosedGrants d s).pins = s.pins ∧ (endClosedGrants d s).pitch = s.pitch
      ∧ (endClosedGrants d s).track = s.track ∧ (endClosedGrants d s).cameras = s.cameras
      ∧ (endClosedGrants d s).gates = s.gates ∧ (endClosedGrants d s).stops = s.stops
      ∧ (endClosedGrants d s).fill = s.fill ∧ (endClosedGrants d s).doses = s.doses
      ∧ (endClosedGrants d s).mainSwitch = s.mainSwitch ∧ (endClosedGrants d s).groups = s.groups
      ∧ (endClosedGrants d s).time = s.time ∧ (endClosedGrants d s).counters = s.counters
      ∧ (endClosedGrants d s).link = s.link ∧ (endClosedGrants d s).pending = s.pending := by
  simp only [endClosedGrants]
  simp [endClosedGrant_frame]

theorem judgeOpening_frame (d : DoorId) (s : State) :
    (judgeOpening d s).pins = s.pins ∧ (judgeOpening d s).pitch = s.pitch
      ∧ (judgeOpening d s).cameras = s.cameras ∧ (judgeOpening d s).gates = s.gates
      ∧ (judgeOpening d s).fill = s.fill ∧ (judgeOpening d s).mainSwitch = s.mainSwitch
      ∧ (judgeOpening d s).time = s.time ∧ (judgeOpening d s).link = s.link
      ∧ (judgeOpening d s).pending = s.pending := by
  simp only [judgeOpening]
  (repeat' split) <;> simp [zoneIntrusion_frame, cabinetIntrusion_frame]

theorem doorChange_frame (d : DoorId) (isOpen : Bool) (s : State) :
    (doorChange d isOpen s).pitch = s.pitch ∧ (doorChange d isOpen s).cameras = s.cameras
      ∧ (doorChange d isOpen s).gates = s.gates ∧ (doorChange d isOpen s).fill = s.fill
      ∧ (doorChange d isOpen s).mainSwitch = s.mainSwitch ∧ (doorChange d isOpen s).time = s.time
      ∧ (doorChange d isOpen s).link = s.link ∧ (doorChange d isOpen s).pending = s.pending := by
  simp only [doorChange]
  (repeat' split) <;> simp [flagOpened_frame, endClosedGrants_frame, judgeOpening_frame]

theorem missAt_frame (n : CameraId) (p : Nat) (s : State) :
    (missAt n p s).pins = s.pins ∧ (missAt n p s).pitch = s.pitch ∧ (missAt n p s).cameras = s.cameras
      ∧ (missAt n p s).gates = s.gates ∧ (missAt n p s).stops = s.stops ∧ (missAt n p s).fill = s.fill
      ∧ (missAt n p s).robots = s.robots ∧ (missAt n p s).doses = s.doses ∧ (missAt n p s).bus = s.bus
      ∧ (missAt n p s).mainSwitch = s.mainSwitch ∧ (missAt n p s).groups = s.groups
      ∧ (missAt n p s).access = s.access ∧ (missAt n p s).time = s.time ∧ (missAt n p s).counters = s.counters
      ∧ (missAt n p s).events = s.events ∧ (missAt n p s).link = s.link
      ∧ (missAt n p s).pending = s.pending := by
  simp only [missAt]
  simp

theorem missAll_frame (n : CameraId) (required : Bool) (s : State) :
    (missAll n required s).pins = s.pins ∧ (missAll n required s).pitch = s.pitch
      ∧ (missAll n required s).cameras = s.cameras ∧ (missAll n required s).gates = s.gates
      ∧ (missAll n required s).stops = s.stops ∧ (missAll n required s).fill = s.fill
      ∧ (missAll n required s).robots = s.robots ∧ (missAll n required s).doses = s.doses
      ∧ (missAll n required s).bus = s.bus ∧ (missAll n required s).mainSwitch = s.mainSwitch
      ∧ (missAll n required s).groups = s.groups ∧ (missAll n required s).access = s.access
      ∧ (missAll n required s).time = s.time ∧ (missAll n required s).counters = s.counters
      ∧ (missAll n required s).events = s.events ∧ (missAll n required s).link = s.link
      ∧ (missAll n required s).pending = s.pending := by
  simp only [missAll]
  simp

theorem neverTriggered_frame (n : CameraId) (s : State) :
    (neverTriggered n s).pins = s.pins ∧ (neverTriggered n s).pitch = s.pitch
      ∧ (neverTriggered n s).cameras = s.cameras ∧ (neverTriggered n s).gates = s.gates
      ∧ (neverTriggered n s).stops = s.stops ∧ (neverTriggered n s).fill = s.fill
      ∧ (neverTriggered n s).robots = s.robots ∧ (neverTriggered n s).doses = s.doses
      ∧ (neverTriggered n s).bus = s.bus ∧ (neverTriggered n s).mainSwitch = s.mainSwitch
      ∧ (neverTriggered n s).groups = s.groups ∧ (neverTriggered n s).access = s.access
      ∧ (neverTriggered n s).time = s.time ∧ (neverTriggered n s).counters = s.counters
      ∧ (neverTriggered n s).events = s.events ∧ (neverTriggered n s).link = s.link
      ∧ (neverTriggered n s).pending = s.pending := by
  simp only [neverTriggered]
  (repeat' split) <;> simp [missAt_frame]

theorem deadlineAt_frame (n : CameraId) (p : Nat) (s : State) :
    (deadlineAt n p s).pins = s.pins ∧ (deadlineAt n p s).pitch = s.pitch ∧ (deadlineAt n p s).gates = s.gates
      ∧ (deadlineAt n p s).stops = s.stops ∧ (deadlineAt n p s).fill = s.fill
      ∧ (deadlineAt n p s).robots = s.robots ∧ (deadlineAt n p s).doses = s.doses
      ∧ (deadlineAt n p s).bus = s.bus ∧ (deadlineAt n p s).mainSwitch = s.mainSwitch
      ∧ (deadlineAt n p s).groups = s.groups ∧ (deadlineAt n p s).access = s.access
      ∧ (deadlineAt n p s).time = s.time ∧ (deadlineAt n p s).counters = s.counters
      ∧ (deadlineAt n p s).events = s.events ∧ (deadlineAt n p s).link = s.link
      ∧ (deadlineAt n p s).pending = s.pending := by
  simp only [deadlineAt]
  (repeat' split) <;> simp [missAt_frame]

theorem deadlineCheck_frame (n : CameraId) (s : State) :
    (deadlineCheck n s).pins = s.pins ∧ (deadlineCheck n s).pitch = s.pitch
      ∧ (deadlineCheck n s).gates = s.gates ∧ (deadlineCheck n s).stops = s.stops
      ∧ (deadlineCheck n s).fill = s.fill ∧ (deadlineCheck n s).robots = s.robots
      ∧ (deadlineCheck n s).doses = s.doses ∧ (deadlineCheck n s).bus = s.bus
      ∧ (deadlineCheck n s).mainSwitch = s.mainSwitch ∧ (deadlineCheck n s).groups = s.groups
      ∧ (deadlineCheck n s).access = s.access ∧ (deadlineCheck n s).time = s.time
      ∧ (deadlineCheck n s).counters = s.counters ∧ (deadlineCheck n s).events = s.events
      ∧ (deadlineCheck n s).link = s.link ∧ (deadlineCheck n s).pending = s.pending := by
  simp only [deadlineCheck]
  (repeat' split) <;> simp [deadlineAt_frame]

theorem arriveAt_frame (n : CameraId) (s : State) :
    (arriveAt n s).pins = s.pins ∧ (arriveAt n s).pitch = s.pitch ∧ (arriveAt n s).cameras = s.cameras
      ∧ (arriveAt n s).gates = s.gates ∧ (arriveAt n s).stops = s.stops ∧ (arriveAt n s).fill = s.fill
      ∧ (arriveAt n s).robots = s.robots ∧ (arriveAt n s).doses = s.doses ∧ (arriveAt n s).bus = s.bus
      ∧ (arriveAt n s).mainSwitch = s.mainSwitch ∧ (arriveAt n s).groups = s.groups
      ∧ (arriveAt n s).access = s.access ∧ (arriveAt n s).time = s.time ∧ (arriveAt n s).counters = s.counters
      ∧ (arriveAt n s).events = s.events ∧ (arriveAt n s).link = s.link
      ∧ (arriveAt n s).pending = s.pending := by
  simp only [arriveAt]
  (repeat' split) <;> simp [missAt_frame]

theorem camerasAtBoundary_frame (s : State) :
    (camerasAtBoundary s).pins = s.pins ∧ (camerasAtBoundary s).pitch = s.pitch
      ∧ (camerasAtBoundary s).gates = s.gates ∧ (camerasAtBoundary s).stops = s.stops
      ∧ (camerasAtBoundary s).fill = s.fill ∧ (camerasAtBoundary s).robots = s.robots
      ∧ (camerasAtBoundary s).doses = s.doses ∧ (camerasAtBoundary s).bus = s.bus
      ∧ (camerasAtBoundary s).mainSwitch = s.mainSwitch ∧ (camerasAtBoundary s).groups = s.groups
      ∧ (camerasAtBoundary s).access = s.access ∧ (camerasAtBoundary s).time = s.time
      ∧ (camerasAtBoundary s).counters = s.counters ∧ (camerasAtBoundary s).events = s.events
      ∧ (camerasAtBoundary s).link = s.link ∧ (camerasAtBoundary s).pending = s.pending := by
  simp only [camerasAtBoundary]
  simp [neverTriggered_frame, deadlineCheck_frame, arriveAt_frame]

theorem pulseTrigger_frame (n : CameraId) (t : Half) (s : State) :
    (pulseTrigger n t s).pins = s.pins ∧ (pulseTrigger n t s).pitch = s.pitch
      ∧ (pulseTrigger n t s).track = s.track ∧ (pulseTrigger n t s).gates = s.gates
      ∧ (pulseTrigger n t s).stops = s.stops ∧ (pulseTrigger n t s).fill = s.fill
      ∧ (pulseTrigger n t s).robots = s.robots ∧ (pulseTrigger n t s).doses = s.doses
      ∧ (pulseTrigger n t s).bus = s.bus ∧ (pulseTrigger n t s).mainSwitch = s.mainSwitch
      ∧ (pulseTrigger n t s).groups = s.groups ∧ (pulseTrigger n t s).access = s.access
      ∧ (pulseTrigger n t s).time = s.time ∧ (pulseTrigger n t s).link = s.link
      ∧ (pulseTrigger n t s).pending = s.pending := by
  simp only [pulseTrigger]
  simp [countOn_frame]

theorem triggerAt_frame (n : CameraId) (s : State) :
    (triggerAt n s).pins = s.pins ∧ (triggerAt n s).pitch = s.pitch ∧ (triggerAt n s).gates = s.gates
      ∧ (triggerAt n s).stops = s.stops ∧ (triggerAt n s).fill = s.fill ∧ (triggerAt n s).robots = s.robots
      ∧ (triggerAt n s).doses = s.doses ∧ (triggerAt n s).bus = s.bus
      ∧ (triggerAt n s).mainSwitch = s.mainSwitch ∧ (triggerAt n s).groups = s.groups
      ∧ (triggerAt n s).access = s.access ∧ (triggerAt n s).time = s.time ∧ (triggerAt n s).link = s.link
      ∧ (triggerAt n s).pending = s.pending := by
  simp only [triggerAt]
  (repeat' split) <;> simp [missAt_frame, pulseTrigger_frame]

theorem statusReady_frame (n : CameraId) (s : State) :
    (statusReady n s).pins = s.pins ∧ (statusReady n s).pitch = s.pitch ∧ (statusReady n s).gates = s.gates
      ∧ (statusReady n s).stops = s.stops ∧ (statusReady n s).fill = s.fill
      ∧ (statusReady n s).robots = s.robots ∧ (statusReady n s).doses = s.doses ∧ (statusReady n s).bus = s.bus
      ∧ (statusReady n s).mainSwitch = s.mainSwitch ∧ (statusReady n s).groups = s.groups
      ∧ (statusReady n s).access = s.access ∧ (statusReady n s).time = s.time
      ∧ (statusReady n s).counters = s.counters ∧ (statusReady n s).link = s.link
      ∧ (statusReady n s).pending = s.pending := by
  simp only [statusReady]
  (repeat' split) <;> simp [editSlot_frame]

theorem statusNotReady_frame (n : CameraId) (s : State) :
    (statusNotReady n s).pins = s.pins ∧ (statusNotReady n s).pitch = s.pitch
      ∧ (statusNotReady n s).track = s.track ∧ (statusNotReady n s).gates = s.gates
      ∧ (statusNotReady n s).stops = s.stops ∧ (statusNotReady n s).fill = s.fill
      ∧ (statusNotReady n s).robots = s.robots ∧ (statusNotReady n s).doses = s.doses
      ∧ (statusNotReady n s).bus = s.bus ∧ (statusNotReady n s).mainSwitch = s.mainSwitch
      ∧ (statusNotReady n s).groups = s.groups ∧ (statusNotReady n s).access = s.access
      ∧ (statusNotReady n s).time = s.time ∧ (statusNotReady n s).counters = s.counters
      ∧ (statusNotReady n s).link = s.link ∧ (statusNotReady n s).pending = s.pending := by
  simp only [statusNotReady]
  (repeat' split) <;> simp

theorem silenceExpiry_frame (n : CameraId) (s : State) :
    (silenceExpiry n s).pins = s.pins ∧ (silenceExpiry n s).pitch = s.pitch
      ∧ (silenceExpiry n s).track = s.track ∧ (silenceExpiry n s).gates = s.gates
      ∧ (silenceExpiry n s).stops = s.stops ∧ (silenceExpiry n s).fill = s.fill
      ∧ (silenceExpiry n s).robots = s.robots ∧ (silenceExpiry n s).doses = s.doses
      ∧ (silenceExpiry n s).bus = s.bus ∧ (silenceExpiry n s).mainSwitch = s.mainSwitch
      ∧ (silenceExpiry n s).groups = s.groups ∧ (silenceExpiry n s).access = s.access
      ∧ (silenceExpiry n s).time = s.time ∧ (silenceExpiry n s).counters = s.counters
      ∧ (silenceExpiry n s).link = s.link ∧ (silenceExpiry n s).pending = s.pending := by
  simp only [silenceExpiry]
  (repeat' split) <;> simp

theorem takeVerdict_frame (n : CameraId) (t : Byte) (classes : ClassSet) (s : State) :
    (takeVerdict n t classes s).pins = s.pins ∧ (takeVerdict n t classes s).pitch = s.pitch
      ∧ (takeVerdict n t classes s).gates = s.gates ∧ (takeVerdict n t classes s).stops = s.stops
      ∧ (takeVerdict n t classes s).fill = s.fill ∧ (takeVerdict n t classes s).robots = s.robots
      ∧ (takeVerdict n t classes s).doses = s.doses ∧ (takeVerdict n t classes s).bus = s.bus
      ∧ (takeVerdict n t classes s).mainSwitch = s.mainSwitch ∧ (takeVerdict n t classes s).groups = s.groups
      ∧ (takeVerdict n t classes s).access = s.access ∧ (takeVerdict n t classes s).time = s.time
      ∧ (takeVerdict n t classes s).counters = s.counters ∧ (takeVerdict n t classes s).link = s.link
      ∧ (takeVerdict n t classes s).pending = s.pending := by
  simp only [takeVerdict]
  (repeat' split) <;> simp [editSlot_frame]

theorem takeRecord_frame (n : CameraId) (kind : RecordKind) (params : List Byte) (s : State) :
    (takeRecord n kind params s).pins = s.pins ∧ (takeRecord n kind params s).pitch = s.pitch
      ∧ (takeRecord n kind params s).gates = s.gates ∧ (takeRecord n kind params s).stops = s.stops
      ∧ (takeRecord n kind params s).fill = s.fill ∧ (takeRecord n kind params s).robots = s.robots
      ∧ (takeRecord n kind params s).doses = s.doses ∧ (takeRecord n kind params s).bus = s.bus
      ∧ (takeRecord n kind params s).mainSwitch = s.mainSwitch ∧ (takeRecord n kind params s).groups = s.groups
      ∧ (takeRecord n kind params s).access = s.access ∧ (takeRecord n kind params s).time = s.time
      ∧ (takeRecord n kind params s).counters = s.counters ∧ (takeRecord n kind params s).link = s.link
      ∧ (takeRecord n kind params s).pending = s.pending := by
  simp only [takeRecord]
  (repeat' split) <;> simp [statusReady_frame, statusNotReady_frame, takeVerdict_frame]

theorem setReceiver_frame (n : CameraId) (r : PortReceiver) (s : State) :
    (setReceiver n r s).pins = s.pins ∧ (setReceiver n r s).pitch = s.pitch
      ∧ (setReceiver n r s).track = s.track ∧ (setReceiver n r s).gates = s.gates
      ∧ (setReceiver n r s).stops = s.stops ∧ (setReceiver n r s).fill = s.fill
      ∧ (setReceiver n r s).robots = s.robots ∧ (setReceiver n r s).doses = s.doses
      ∧ (setReceiver n r s).bus = s.bus ∧ (setReceiver n r s).mainSwitch = s.mainSwitch
      ∧ (setReceiver n r s).groups = s.groups ∧ (setReceiver n r s).access = s.access
      ∧ (setReceiver n r s).time = s.time ∧ (setReceiver n r s).counters = s.counters
      ∧ (setReceiver n r s).events = s.events ∧ (setReceiver n r s).link = s.link
      ∧ (setReceiver n r s).pending = s.pending := by
  simp only [setReceiver]
  simp

theorem takeKind_frame (n : CameraId) (b : Byte) (s : State) :
    (takeKind n b s).pins = s.pins ∧ (takeKind n b s).pitch = s.pitch ∧ (takeKind n b s).track = s.track
      ∧ (takeKind n b s).gates = s.gates ∧ (takeKind n b s).stops = s.stops ∧ (takeKind n b s).fill = s.fill
      ∧ (takeKind n b s).robots = s.robots ∧ (takeKind n b s).doses = s.doses ∧ (takeKind n b s).bus = s.bus
      ∧ (takeKind n b s).mainSwitch = s.mainSwitch ∧ (takeKind n b s).groups = s.groups
      ∧ (takeKind n b s).access = s.access ∧ (takeKind n b s).time = s.time
      ∧ (takeKind n b s).counters = s.counters ∧ (takeKind n b s).link = s.link
      ∧ (takeKind n b s).pending = s.pending := by
  simp only [takeKind]
  (repeat' split) <;> simp [setReceiver_frame]

theorem takeParameter_frame (n : CameraId) (b : Byte) (s : State) :
    (takeParameter n b s).pins = s.pins ∧ (takeParameter n b s).pitch = s.pitch
      ∧ (takeParameter n b s).gates = s.gates ∧ (takeParameter n b s).stops = s.stops
      ∧ (takeParameter n b s).fill = s.fill ∧ (takeParameter n b s).robots = s.robots
      ∧ (takeParameter n b s).doses = s.doses ∧ (takeParameter n b s).bus = s.bus
      ∧ (takeParameter n b s).mainSwitch = s.mainSwitch ∧ (takeParameter n b s).groups = s.groups
      ∧ (takeParameter n b s).access = s.access ∧ (takeParameter n b s).time = s.time
      ∧ (takeParameter n b s).counters = s.counters ∧ (takeParameter n b s).link = s.link
      ∧ (takeParameter n b s).pending = s.pending := by
  simp only [takeParameter]
  (repeat' split) <;> simp [takeRecord_frame, setReceiver_frame]

theorem selectPort_frame (n : CameraId) (s : State) :
    (selectPort n s).pitch = s.pitch ∧ (selectPort n s).track = s.track ∧ (selectPort n s).cameras = s.cameras
      ∧ (selectPort n s).gates = s.gates ∧ (selectPort n s).stops = s.stops ∧ (selectPort n s).fill = s.fill
      ∧ (selectPort n s).robots = s.robots ∧ (selectPort n s).doses = s.doses ∧ (selectPort n s).bus = s.bus
      ∧ (selectPort n s).mainSwitch = s.mainSwitch ∧ (selectPort n s).groups = s.groups
      ∧ (selectPort n s).access = s.access ∧ (selectPort n s).time = s.time
      ∧ (selectPort n s).counters = s.counters ∧ (selectPort n s).events = s.events
      ∧ (selectPort n s).link = s.link ∧ (selectPort n s).pending = s.pending := by
  simp only [selectPort]
  simp

theorem takeByte_frame (n : CameraId) (kindByte : Bool) (b : Byte) (s : State) :
    (takeByte n kindByte b s).pitch = s.pitch ∧ (takeByte n kindByte b s).gates = s.gates
      ∧ (takeByte n kindByte b s).stops = s.stops ∧ (takeByte n kindByte b s).fill = s.fill
      ∧ (takeByte n kindByte b s).robots = s.robots ∧ (takeByte n kindByte b s).doses = s.doses
      ∧ (takeByte n kindByte b s).bus = s.bus ∧ (takeByte n kindByte b s).mainSwitch = s.mainSwitch
      ∧ (takeByte n kindByte b s).groups = s.groups ∧ (takeByte n kindByte b s).access = s.access
      ∧ (takeByte n kindByte b s).time = s.time ∧ (takeByte n kindByte b s).counters = s.counters
      ∧ (takeByte n kindByte b s).link = s.link ∧ (takeByte n kindByte b s).pending = s.pending := by
  simp only [takeByte]
  (repeat' split) <;> simp [takeKind_frame, takeParameter_frame, selectPort_frame]

theorem clockBit_frame (n : CameraId) (data kindHigh : Bool) (s : State) :
    (clockBit n data kindHigh s).pitch = s.pitch ∧ (clockBit n data kindHigh s).gates = s.gates
      ∧ (clockBit n data kindHigh s).stops = s.stops ∧ (clockBit n data kindHigh s).fill = s.fill
      ∧ (clockBit n data kindHigh s).robots = s.robots ∧ (clockBit n data kindHigh s).doses = s.doses
      ∧ (clockBit n data kindHigh s).bus = s.bus ∧ (clockBit n data kindHigh s).mainSwitch = s.mainSwitch
      ∧ (clockBit n data kindHigh s).groups = s.groups ∧ (clockBit n data kindHigh s).access = s.access
      ∧ (clockBit n data kindHigh s).time = s.time ∧ (clockBit n data kindHigh s).counters = s.counters
      ∧ (clockBit n data kindHigh s).link = s.link ∧ (clockBit n data kindHigh s).pending = s.pending := by
  simp only [clockBit]
  (repeat' split) <;> simp [selectPort_frame, takeByte_frame]

theorem selectRise_frame (n : CameraId) (s : State) :
    (selectRise n s).pitch = s.pitch ∧ (selectRise n s).track = s.track ∧ (selectRise n s).gates = s.gates
      ∧ (selectRise n s).stops = s.stops ∧ (selectRise n s).fill = s.fill ∧ (selectRise n s).robots = s.robots
      ∧ (selectRise n s).doses = s.doses ∧ (selectRise n s).bus = s.bus
      ∧ (selectRise n s).mainSwitch = s.mainSwitch ∧ (selectRise n s).groups = s.groups
      ∧ (selectRise n s).access = s.access ∧ (selectRise n s).time = s.time
      ∧ (selectRise n s).counters = s.counters ∧ (selectRise n s).events = s.events
      ∧ (selectRise n s).link = s.link ∧ (selectRise n s).pending = s.pending := by
  simp only [selectRise]
  (repeat' split) <;> simp

theorem sendRecord_frame (n : CameraId) (kind : RecordKind) (params : List Byte) (s : State) :
    (sendRecord n kind params s).pitch = s.pitch ∧ (sendRecord n kind params s).gates = s.gates
      ∧ (sendRecord n kind params s).stops = s.stops ∧ (sendRecord n kind params s).fill = s.fill
      ∧ (sendRecord n kind params s).robots = s.robots ∧ (sendRecord n kind params s).doses = s.doses
      ∧ (sendRecord n kind params s).bus = s.bus ∧ (sendRecord n kind params s).mainSwitch = s.mainSwitch
      ∧ (sendRecord n kind params s).groups = s.groups ∧ (sendRecord n kind params s).access = s.access
      ∧ (sendRecord n kind params s).time = s.time ∧ (sendRecord n kind params s).counters = s.counters
      ∧ (sendRecord n kind params s).link = s.link ∧ (sendRecord n kind params s).pending = s.pending := by
  simp only [sendRecord]
  simp [takeByte_frame]

theorem countUnconfirmed_frame (g : GateId) (t : Half) (s : State) :
    (countUnconfirmed g t s).pins = s.pins ∧ (countUnconfirmed g t s).pitch = s.pitch
      ∧ (countUnconfirmed g t s).track = s.track ∧ (countUnconfirmed g t s).cameras = s.cameras
      ∧ (countUnconfirmed g t s).fill = s.fill ∧ (countUnconfirmed g t s).robots = s.robots
      ∧ (countUnconfirmed g t s).doses = s.doses ∧ (countUnconfirmed g t s).bus = s.bus
      ∧ (countUnconfirmed g t s).mainSwitch = s.mainSwitch ∧ (countUnconfirmed g t s).groups = s.groups
      ∧ (countUnconfirmed g t s).access = s.access ∧ (countUnconfirmed g t s).time = s.time
      ∧ (countUnconfirmed g t s).counters = s.counters ∧ (countUnconfirmed g t s).link = s.link
      ∧ (countUnconfirmed g t s).pending = s.pending := by
  simp only [countUnconfirmed]
  (repeat' split) <;> simp

theorem unconfirm_frame (g : GateId) (why : UnconfirmedReason) (t : Half) (s : State) :
    (unconfirm g why t s).pins = s.pins ∧ (unconfirm g why t s).pitch = s.pitch
      ∧ (unconfirm g why t s).cameras = s.cameras ∧ (unconfirm g why t s).fill = s.fill
      ∧ (unconfirm g why t s).robots = s.robots ∧ (unconfirm g why t s).doses = s.doses
      ∧ (unconfirm g why t s).bus = s.bus ∧ (unconfirm g why t s).mainSwitch = s.mainSwitch
      ∧ (unconfirm g why t s).groups = s.groups ∧ (unconfirm g why t s).access = s.access
      ∧ (unconfirm g why t s).time = s.time ∧ (unconfirm g why t s).counters = s.counters
      ∧ (unconfirm g why t s).link = s.link ∧ (unconfirm g why t s).pending = s.pending := by
  simp only [unconfirm]
  (repeat' split) <;> simp [editSlot_frame, countUnconfirmed_frame]

theorem expireConfirm_frame (g : GateId) (s : State) :
    (expireConfirm g s).pins = s.pins ∧ (expireConfirm g s).pitch = s.pitch
      ∧ (expireConfirm g s).cameras = s.cameras ∧ (expireConfirm g s).fill = s.fill
      ∧ (expireConfirm g s).robots = s.robots ∧ (expireConfirm g s).doses = s.doses
      ∧ (expireConfirm g s).bus = s.bus ∧ (expireConfirm g s).mainSwitch = s.mainSwitch
      ∧ (expireConfirm g s).groups = s.groups ∧ (expireConfirm g s).access = s.access
      ∧ (expireConfirm g s).time = s.time ∧ (expireConfirm g s).counters = s.counters
      ∧ (expireConfirm g s).link = s.link ∧ (expireConfirm g s).pending = s.pending := by
  simp only [expireConfirm]
  simp [unconfirm_frame]

theorem dropPending_frame (g : GateId) (s : State) :
    (dropPending g s).pins = s.pins ∧ (dropPending g s).pitch = s.pitch ∧ (dropPending g s).cameras = s.cameras
      ∧ (dropPending g s).fill = s.fill ∧ (dropPending g s).robots = s.robots
      ∧ (dropPending g s).doses = s.doses ∧ (dropPending g s).bus = s.bus
      ∧ (dropPending g s).mainSwitch = s.mainSwitch ∧ (dropPending g s).groups = s.groups
      ∧ (dropPending g s).access = s.access ∧ (dropPending g s).time = s.time
      ∧ (dropPending g s).counters = s.counters ∧ (dropPending g s).link = s.link
      ∧ (dropPending g s).pending = s.pending := by
  simp only [dropPending]
  (repeat' split) <;> simp [unconfirm_frame]

theorem ageConfirm_frame (g : GateId) (s : State) :
    (ageConfirm g s).pins = s.pins ∧ (ageConfirm g s).pitch = s.pitch ∧ (ageConfirm g s).track = s.track
      ∧ (ageConfirm g s).cameras = s.cameras ∧ (ageConfirm g s).stops = s.stops ∧ (ageConfirm g s).fill = s.fill
      ∧ (ageConfirm g s).robots = s.robots ∧ (ageConfirm g s).doses = s.doses ∧ (ageConfirm g s).bus = s.bus
      ∧ (ageConfirm g s).mainSwitch = s.mainSwitch ∧ (ageConfirm g s).groups = s.groups
      ∧ (ageConfirm g s).access = s.access ∧ (ageConfirm g s).time = s.time
      ∧ (ageConfirm g s).counters = s.counters ∧ (ageConfirm g s).events = s.events
      ∧ (ageConfirm g s).link = s.link ∧ (ageConfirm g s).pending = s.pending := by
  simp only [ageConfirm]
  simp

theorem judgeSlot_frame (g : GateId) (s : State) :
    (judgeSlot g s).pins = s.pins ∧ (judgeSlot g s).pitch = s.pitch ∧ (judgeSlot g s).cameras = s.cameras
      ∧ (judgeSlot g s).stops = s.stops ∧ (judgeSlot g s).fill = s.fill ∧ (judgeSlot g s).robots = s.robots
      ∧ (judgeSlot g s).doses = s.doses ∧ (judgeSlot g s).bus = s.bus
      ∧ (judgeSlot g s).mainSwitch = s.mainSwitch ∧ (judgeSlot g s).groups = s.groups
      ∧ (judgeSlot g s).access = s.access ∧ (judgeSlot g s).time = s.time
      ∧ (judgeSlot g s).counters = s.counters ∧ (judgeSlot g s).events = s.events
      ∧ (judgeSlot g s).link = s.link ∧ (judgeSlot g s).pending = s.pending := by
  simp only [judgeSlot]
  (repeat' split) <;> simp

theorem gatesAtBoundary_frame (s : State) :
    (gatesAtBoundary s).pins = s.pins ∧ (gatesAtBoundary s).pitch = s.pitch
      ∧ (gatesAtBoundary s).cameras = s.cameras ∧ (gatesAtBoundary s).fill = s.fill
      ∧ (gatesAtBoundary s).robots = s.robots ∧ (gatesAtBoundary s).doses = s.doses
      ∧ (gatesAtBoundary s).bus = s.bus ∧ (gatesAtBoundary s).mainSwitch = s.mainSwitch
      ∧ (gatesAtBoundary s).groups = s.groups ∧ (gatesAtBoundary s).access = s.access
      ∧ (gatesAtBoundary s).time = s.time ∧ (gatesAtBoundary s).counters = s.counters
      ∧ (gatesAtBoundary s).link = s.link ∧ (gatesAtBoundary s).pending = s.pending := by
  simp only [gatesAtBoundary]
  simp [expireConfirm_frame, dropPending_frame, ageConfirm_frame, judgeSlot_frame]

theorem fireAt_frame (g : GateId) (s : State) :
    (fireAt g s).pins = s.pins ∧ (fireAt g s).pitch = s.pitch ∧ (fireAt g s).cameras = s.cameras
      ∧ (fireAt g s).stops = s.stops ∧ (fireAt g s).fill = s.fill ∧ (fireAt g s).robots = s.robots
      ∧ (fireAt g s).doses = s.doses ∧ (fireAt g s).bus = s.bus ∧ (fireAt g s).mainSwitch = s.mainSwitch
      ∧ (fireAt g s).groups = s.groups ∧ (fireAt g s).access = s.access ∧ (fireAt g s).time = s.time
      ∧ (fireAt g s).link = s.link ∧ (fireAt g s).pending = s.pending := by
  simp only [fireAt]
  (repeat' split) <;> simp [countOn_frame, editSlot_frame]

theorem pulseExpiry_frame (g : GateId) (s : State) :
    (pulseExpiry g s).pins = s.pins ∧ (pulseExpiry g s).pitch = s.pitch ∧ (pulseExpiry g s).track = s.track
      ∧ (pulseExpiry g s).cameras = s.cameras ∧ (pulseExpiry g s).stops = s.stops
      ∧ (pulseExpiry g s).fill = s.fill ∧ (pulseExpiry g s).robots = s.robots
      ∧ (pulseExpiry g s).doses = s.doses ∧ (pulseExpiry g s).bus = s.bus
      ∧ (pulseExpiry g s).mainSwitch = s.mainSwitch ∧ (pulseExpiry g s).groups = s.groups
      ∧ (pulseExpiry g s).access = s.access ∧ (pulseExpiry g s).time = s.time
      ∧ (pulseExpiry g s).counters = s.counters ∧ (pulseExpiry g s).events = s.events
      ∧ (pulseExpiry g s).link = s.link ∧ (pulseExpiry g s).pending = s.pending := by
  simp only [pulseExpiry]
  (repeat' split) <;> simp

theorem confirmEdge_frame (g : GateId) (s : State) :
    (confirmEdge g s).pins = s.pins ∧ (confirmEdge g s).pitch = s.pitch ∧ (confirmEdge g s).cameras = s.cameras
      ∧ (confirmEdge g s).stops = s.stops ∧ (confirmEdge g s).fill = s.fill
      ∧ (confirmEdge g s).robots = s.robots ∧ (confirmEdge g s).doses = s.doses ∧ (confirmEdge g s).bus = s.bus
      ∧ (confirmEdge g s).mainSwitch = s.mainSwitch ∧ (confirmEdge g s).groups = s.groups
      ∧ (confirmEdge g s).access = s.access ∧ (confirmEdge g s).time = s.time
      ∧ (confirmEdge g s).counters = s.counters ∧ (confirmEdge g s).link = s.link
      ∧ (confirmEdge g s).pending = s.pending := by
  simp only [confirmEdge]
  (repeat' split) <;> simp [editSlot_frame]

theorem retireAll_frame (t : Half) (s : State) :
    (retireAll t s).pins = s.pins ∧ (retireAll t s).pitch = s.pitch ∧ (retireAll t s).track = s.track
      ∧ (retireAll t s).gates = s.gates ∧ (retireAll t s).stops = s.stops ∧ (retireAll t s).fill = s.fill
      ∧ (retireAll t s).robots = s.robots ∧ (retireAll t s).doses = s.doses ∧ (retireAll t s).bus = s.bus
      ∧ (retireAll t s).mainSwitch = s.mainSwitch ∧ (retireAll t s).groups = s.groups
      ∧ (retireAll t s).access = s.access ∧ (retireAll t s).time = s.time
      ∧ (retireAll t s).counters = s.counters ∧ (retireAll t s).events = s.events
      ∧ (retireAll t s).link = s.link ∧ (retireAll t s).pending = s.pending := by
  simp only [retireAll]
  simp

theorem expireDischarged_frame (t : Half) (g : GateId) (s : State) :
    (expireDischarged t g s).pins = s.pins ∧ (expireDischarged t g s).pitch = s.pitch
      ∧ (expireDischarged t g s).cameras = s.cameras ∧ (expireDischarged t g s).fill = s.fill
      ∧ (expireDischarged t g s).robots = s.robots ∧ (expireDischarged t g s).doses = s.doses
      ∧ (expireDischarged t g s).bus = s.bus ∧ (expireDischarged t g s).mainSwitch = s.mainSwitch
      ∧ (expireDischarged t g s).groups = s.groups ∧ (expireDischarged t g s).access = s.access
      ∧ (expireDischarged t g s).time = s.time ∧ (expireDischarged t g s).counters = s.counters
      ∧ (expireDischarged t g s).link = s.link ∧ (expireDischarged t g s).pending = s.pending := by
  simp only [expireDischarged]
  (repeat' split) <;> simp [unconfirm_frame]

theorem judgeLeaving_frame (sl : Slot) (s : State) :
    (judgeLeaving sl s).pins = s.pins ∧ (judgeLeaving sl s).pitch = s.pitch
      ∧ (judgeLeaving sl s).cameras = s.cameras ∧ (judgeLeaving sl s).gates = s.gates
      ∧ (judgeLeaving sl s).fill = s.fill ∧ (judgeLeaving sl s).robots = s.robots
      ∧ (judgeLeaving sl s).doses = s.doses ∧ (judgeLeaving sl s).bus = s.bus
      ∧ (judgeLeaving sl s).mainSwitch = s.mainSwitch ∧ (judgeLeaving sl s).groups = s.groups
      ∧ (judgeLeaving sl s).access = s.access ∧ (judgeLeaving sl s).time = s.time
      ∧ (judgeLeaving sl s).counters = s.counters ∧ (judgeLeaving sl s).link = s.link
      ∧ (judgeLeaving sl s).pending = s.pending := by
  simp only [judgeLeaving]
  (repeat' split) <;> simp

theorem discharge_frame (p : Nat) (s : State) :
    (discharge p s).pins = s.pins ∧ (discharge p s).pitch = s.pitch ∧ (discharge p s).fill = s.fill
      ∧ (discharge p s).robots = s.robots ∧ (discharge p s).doses = s.doses ∧ (discharge p s).bus = s.bus
      ∧ (discharge p s).mainSwitch = s.mainSwitch ∧ (discharge p s).groups = s.groups
      ∧ (discharge p s).access = s.access ∧ (discharge p s).time = s.time
      ∧ (discharge p s).counters = s.counters ∧ (discharge p s).link = s.link
      ∧ (discharge p s).pending = s.pending := by
  simp only [discharge]
  simp [retireAll_frame, expireDischarged_frame, judgeLeaving_frame]

theorem activateStaged_frame (s : State) :
    (activateStaged s).pins = s.pins ∧ (activateStaged s).pitch = s.pitch ∧ (activateStaged s).track = s.track
      ∧ (activateStaged s).stops = s.stops ∧ (activateStaged s).fill = s.fill
      ∧ (activateStaged s).robots = s.robots ∧ (activateStaged s).doses = s.doses
      ∧ (activateStaged s).bus = s.bus ∧ (activateStaged s).mainSwitch = s.mainSwitch
      ∧ (activateStaged s).groups = s.groups ∧ (activateStaged s).access = s.access
      ∧ (activateStaged s).time = s.time ∧ (activateStaged s).counters = s.counters
      ∧ (activateStaged s).events = s.events ∧ (activateStaged s).link = s.link
      ∧ (activateStaged s).pending = s.pending := by
  simp only [activateStaged]
  simp

theorem createSlot_frame (s : State) :
    (createSlot s).pins = s.pins ∧ (createSlot s).cameras = s.cameras ∧ (createSlot s).gates = s.gates
      ∧ (createSlot s).stops = s.stops ∧ (createSlot s).fill = s.fill ∧ (createSlot s).robots = s.robots
      ∧ (createSlot s).doses = s.doses ∧ (createSlot s).bus = s.bus ∧ (createSlot s).mainSwitch = s.mainSwitch
      ∧ (createSlot s).groups = s.groups ∧ (createSlot s).access = s.access ∧ (createSlot s).time = s.time
      ∧ (createSlot s).counters = s.counters ∧ (createSlot s).events = s.events ∧ (createSlot s).link = s.link
      ∧ (createSlot s).pending = s.pending := by
  simp only [createSlot]
  simp

theorem advance_frame (s : State) :
    (advance s).pins = s.pins ∧ (advance s).fill = s.fill ∧ (advance s).robots = s.robots
      ∧ (advance s).doses = s.doses ∧ (advance s).bus = s.bus ∧ (advance s).mainSwitch = s.mainSwitch
      ∧ (advance s).groups = s.groups ∧ (advance s).access = s.access ∧ (advance s).time = s.time
      ∧ (advance s).counters = s.counters ∧ (advance s).link = s.link ∧ (advance s).pending = s.pending := by
  simp only [advance]
  simp [discharge_frame, createSlot_frame]

theorem fillerAtBoundary_frame (s : State) :
    (fillerAtBoundary s).pins = s.pins ∧ (fillerAtBoundary s).pitch = s.pitch
      ∧ (fillerAtBoundary s).cameras = s.cameras ∧ (fillerAtBoundary s).gates = s.gates
      ∧ (fillerAtBoundary s).stops = s.stops ∧ (fillerAtBoundary s).fill = s.fill
      ∧ (fillerAtBoundary s).mainSwitch = s.mainSwitch ∧ (fillerAtBoundary s).time = s.time
      ∧ (fillerAtBoundary s).link = s.link ∧ (fillerAtBoundary s).pending = s.pending := by
  simp only [fillerAtBoundary]
  simp [judgeReleases_frame, exitLimit_frame, approachLimit_frame, armRobot_frame,
    assignEntry_frame, judgeGrants_frame]

theorem boundary_frame (s : State) :
    (boundary s).pins = s.pins ∧ (boundary s).fill = s.fill ∧ (boundary s).mainSwitch = s.mainSwitch
      ∧ (boundary s).time = s.time ∧ (boundary s).link = s.link ∧ (boundary s).pending = s.pending := by
  simp only [boundary]
  simp [camerasAtBoundary_frame, gatesAtBoundary_frame, activateStaged_frame, advance_frame,
    fillerAtBoundary_frame]

theorem sampleInfeed_frame (infActive : Bool) (s : State) :
    (sampleInfeed infActive s).pins = s.pins ∧ (sampleInfeed infActive s).track = s.track
      ∧ (sampleInfeed infActive s).cameras = s.cameras ∧ (sampleInfeed infActive s).gates = s.gates
      ∧ (sampleInfeed infActive s).stops = s.stops ∧ (sampleInfeed infActive s).fill = s.fill
      ∧ (sampleInfeed infActive s).robots = s.robots ∧ (sampleInfeed infActive s).doses = s.doses
      ∧ (sampleInfeed infActive s).bus = s.bus ∧ (sampleInfeed infActive s).mainSwitch = s.mainSwitch
      ∧ (sampleInfeed infActive s).groups = s.groups ∧ (sampleInfeed infActive s).access = s.access
      ∧ (sampleInfeed infActive s).time = s.time ∧ (sampleInfeed infActive s).counters = s.counters
      ∧ (sampleInfeed infActive s).events = s.events ∧ (sampleInfeed infActive s).link = s.link
      ∧ (sampleInfeed infActive s).pending = s.pending := by
  simp only [sampleInfeed]
  (repeat' split) <;> simp

theorem reachPhase_frame (infActive : Bool) (s : State) :
    (reachPhase infActive s).pins = s.pins ∧ (reachPhase infActive s).stops = s.stops
      ∧ (reachPhase infActive s).fill = s.fill ∧ (reachPhase infActive s).robots = s.robots
      ∧ (reachPhase infActive s).doses = s.doses ∧ (reachPhase infActive s).bus = s.bus
      ∧ (reachPhase infActive s).mainSwitch = s.mainSwitch ∧ (reachPhase infActive s).groups = s.groups
      ∧ (reachPhase infActive s).access = s.access ∧ (reachPhase infActive s).time = s.time
      ∧ (reachPhase infActive s).link = s.link ∧ (reachPhase infActive s).pending = s.pending := by
  simp only [reachPhase]
  simp [triggerAt_frame, fireAt_frame, sampleInfeed_frame]

theorem countedEdge_frame (infActive : Bool) (s : State) :
    (countedEdge infActive s).pins = s.pins ∧ (countedEdge infActive s).fill = s.fill
      ∧ (countedEdge infActive s).mainSwitch = s.mainSwitch ∧ (countedEdge infActive s).time = s.time
      ∧ (countedEdge infActive s).link = s.link ∧ (countedEdge infActive s).pending = s.pending := by
  simp only [countedEdge]
  (repeat' split) <;> simp [boundary_frame, reachPhase_frame]

theorem strayEdge_frame (s : State) :
    (strayEdge s).pins = s.pins ∧ (strayEdge s).track = s.track ∧ (strayEdge s).cameras = s.cameras
      ∧ (strayEdge s).gates = s.gates ∧ (strayEdge s).stops = s.stops ∧ (strayEdge s).fill = s.fill
      ∧ (strayEdge s).robots = s.robots ∧ (strayEdge s).doses = s.doses ∧ (strayEdge s).bus = s.bus
      ∧ (strayEdge s).mainSwitch = s.mainSwitch ∧ (strayEdge s).groups = s.groups
      ∧ (strayEdge s).access = s.access ∧ (strayEdge s).time = s.time ∧ (strayEdge s).counters = s.counters
      ∧ (strayEdge s).link = s.link ∧ (strayEdge s).pending = s.pending := by
  simp only [strayEdge]
  (repeat' split) <;> simp

theorem runRise_frame (s : State) :
    (runRise s).track = s.track ∧ (runRise s).cameras = s.cameras ∧ (runRise s).gates = s.gates
      ∧ (runRise s).stops = s.stops ∧ (runRise s).fill = s.fill ∧ (runRise s).robots = s.robots
      ∧ (runRise s).doses = s.doses ∧ (runRise s).bus = s.bus ∧ (runRise s).mainSwitch = s.mainSwitch
      ∧ (runRise s).groups = s.groups ∧ (runRise s).access = s.access ∧ (runRise s).time = s.time
      ∧ (runRise s).counters = s.counters ∧ (runRise s).events = s.events ∧ (runRise s).link = s.link
      ∧ (runRise s).pending = s.pending := by
  simp only [runRise]
  (repeat' split) <;> simp

theorem runFall_frame (s : State) :
    (runFall s).pitch = s.pitch ∧ (runFall s).track = s.track ∧ (runFall s).cameras = s.cameras
      ∧ (runFall s).gates = s.gates ∧ (runFall s).stops = s.stops ∧ (runFall s).fill = s.fill
      ∧ (runFall s).robots = s.robots ∧ (runFall s).doses = s.doses ∧ (runFall s).bus = s.bus
      ∧ (runFall s).mainSwitch = s.mainSwitch ∧ (runFall s).groups = s.groups ∧ (runFall s).access = s.access
      ∧ (runFall s).time = s.time ∧ (runFall s).counters = s.counters ∧ (runFall s).events = s.events
      ∧ (runFall s).link = s.link ∧ (runFall s).pending = s.pending := by
  simp only [runFall]
  simp

theorem advanceTimers_frame (s : State) :
    (advanceTimers s).pins = s.pins ∧ (advanceTimers s).pitch = s.pitch ∧ (advanceTimers s).track = s.track
      ∧ (advanceTimers s).stops = s.stops ∧ (advanceTimers s).fill = s.fill ∧ (advanceTimers s).bus = s.bus
      ∧ (advanceTimers s).events = s.events ∧ (advanceTimers s).pending = s.pending := by
  simp only [advanceTimers]
  simp

theorem rolloverTime_frame (s : State) :
    (rolloverTime s).pins = s.pins ∧ (rolloverTime s).pitch = s.pitch ∧ (rolloverTime s).track = s.track
      ∧ (rolloverTime s).cameras = s.cameras ∧ (rolloverTime s).gates = s.gates
      ∧ (rolloverTime s).stops = s.stops ∧ (rolloverTime s).fill = s.fill ∧ (rolloverTime s).robots = s.robots
      ∧ (rolloverTime s).doses = s.doses ∧ (rolloverTime s).bus = s.bus
      ∧ (rolloverTime s).mainSwitch = s.mainSwitch ∧ (rolloverTime s).groups = s.groups
      ∧ (rolloverTime s).access = s.access ∧ (rolloverTime s).counters = s.counters
      ∧ (rolloverTime s).link = s.link ∧ (rolloverTime s).pending = s.pending := by
  simp only [rolloverTime]
  (repeat' split) <;> simp

theorem rollover_frame (s : State) :
    (rollover s).pins = s.pins ∧ (rollover s).pitch = s.pitch ∧ (rollover s).cameras = s.cameras
      ∧ (rollover s).gates = s.gates ∧ (rollover s).stops = s.stops ∧ (rollover s).fill = s.fill
      ∧ (rollover s).mainSwitch = s.mainSwitch ∧ (rollover s).link = s.link
      ∧ (rollover s).pending = s.pending := by
  simp only [rollover]
  simp [settle_frame, expireGrant_frame, rolloverTime_frame]

theorem gapExpiry_frame (s : State) :
    (gapExpiry s).pins = s.pins ∧ (gapExpiry s).pitch = s.pitch ∧ (gapExpiry s).track = s.track
      ∧ (gapExpiry s).cameras = s.cameras ∧ (gapExpiry s).gates = s.gates ∧ (gapExpiry s).stops = s.stops
      ∧ (gapExpiry s).fill = s.fill ∧ (gapExpiry s).robots = s.robots ∧ (gapExpiry s).doses = s.doses
      ∧ (gapExpiry s).bus = s.bus ∧ (gapExpiry s).mainSwitch = s.mainSwitch ∧ (gapExpiry s).groups = s.groups
      ∧ (gapExpiry s).access = s.access ∧ (gapExpiry s).time = s.time ∧ (gapExpiry s).counters = s.counters
      ∧ (gapExpiry s).events = s.events ∧ (gapExpiry s).pending = s.pending := by
  simp only [gapExpiry]
  (repeat' split) <;> simp

theorem groupExpiries_frame (g : GroupId) (s : State) :
    (groupExpiries g s).pins = s.pins ∧ (groupExpiries g s).pitch = s.pitch
      ∧ (groupExpiries g s).cameras = s.cameras ∧ (groupExpiries g s).gates = s.gates
      ∧ (groupExpiries g s).stops = s.stops ∧ (groupExpiries g s).fill = s.fill
      ∧ (groupExpiries g s).mainSwitch = s.mainSwitch ∧ (groupExpiries g s).access = s.access
      ∧ (groupExpiries g s).time = s.time ∧ (groupExpiries g s).link = s.link
      ∧ (groupExpiries g s).pending = s.pending := by
  simp only [groupExpiries]
  simp [pullinExpiry_frame, fallOutExpiry_frame, dropoutExpiry_frame, weldExpiry_frame]

theorem robotExpiries_frame (r : RobotId) (s : State) :
    (robotExpiries r s).pins = s.pins ∧ (robotExpiries r s).pitch = s.pitch
      ∧ (robotExpiries r s).cameras = s.cameras ∧ (robotExpiries r s).gates = s.gates
      ∧ (robotExpiries r s).stops = s.stops ∧ (robotExpiries r s).fill = s.fill
      ∧ (robotExpiries r s).mainSwitch = s.mainSwitch ∧ (robotExpiries r s).time = s.time
      ∧ (robotExpiries r s).link = s.link ∧ (robotExpiries r s).pending = s.pending := by
  simp only [robotExpiries]
  simp [checkExpiry_frame, stuckValve_frame, noFlowExpiry_frame, settleExpiry_frame,
    settle_frame]

theorem expireTimers_frame (s : State) :
    (expireTimers s).pins = s.pins ∧ (expireTimers s).pitch = s.pitch ∧ (expireTimers s).fill = s.fill
      ∧ (expireTimers s).time = s.time ∧ (expireTimers s).pending = s.pending := by
  simp only [expireTimers]
  simp [valveSecond_frame, pollExpiry_frame, discrepancyExpiry_frame, settle_frame,
    drainExpiry_frame, silenceExpiry_frame, pulseExpiry_frame, gapExpiry_frame, groupExpiries_frame,
    robotExpiries_frame]

theorem tick_frame (s : State) :
    (tick s).pins = s.pins ∧ (tick s).pitch = s.pitch ∧ (tick s).fill = s.fill
      ∧ (tick s).pending = s.pending := by
  simp only [tick]
  (repeat' split) <;> simp [advanceTimers_frame, rollover_frame, expireTimers_frame]

theorem secondsRollover_frame (s : State) :
    (secondsRollover s).pins = s.pins ∧ (secondsRollover s).pitch = s.pitch ∧ (secondsRollover s).fill = s.fill
      ∧ (secondsRollover s).pending = s.pending := by
  simp only [secondsRollover]
  (repeat' split) <;> simp [tick_frame]

theorem noteShare_frame (share : TickShare) (s : State) :
    (noteShare share s).pins = s.pins ∧ (noteShare share s).pitch = s.pitch
      ∧ (noteShare share s).track = s.track ∧ (noteShare share s).cameras = s.cameras
      ∧ (noteShare share s).gates = s.gates ∧ (noteShare share s).stops = s.stops
      ∧ (noteShare share s).fill = s.fill ∧ (noteShare share s).robots = s.robots
      ∧ (noteShare share s).doses = s.doses ∧ (noteShare share s).bus = s.bus
      ∧ (noteShare share s).mainSwitch = s.mainSwitch ∧ (noteShare share s).groups = s.groups
      ∧ (noteShare share s).access = s.access ∧ (noteShare share s).counters = s.counters
      ∧ (noteShare share s).events = s.events ∧ (noteShare share s).link = s.link
      ∧ (noteShare share s).pending = s.pending := by
  simp only [noteShare]
  simp

theorem shareSilence_frame (n : CameraId) (s : State) :
    (shareSilence n s).pins = s.pins ∧ (shareSilence n s).pitch = s.pitch ∧ (shareSilence n s).gates = s.gates
      ∧ (shareSilence n s).stops = s.stops ∧ (shareSilence n s).fill = s.fill
      ∧ (shareSilence n s).mainSwitch = s.mainSwitch ∧ (shareSilence n s).time = s.time
      ∧ (shareSilence n s).link = s.link ∧ (shareSilence n s).pending = s.pending := by
  simp only [shareSilence, shareOfTick]
  (repeat' split) <;> simp [silenceExpiry_frame, settle_frame]

theorem sharePulse_frame (g : GateId) (s : State) :
    (sharePulse g s).pins = s.pins ∧ (sharePulse g s).pitch = s.pitch ∧ (sharePulse g s).cameras = s.cameras
      ∧ (sharePulse g s).stops = s.stops ∧ (sharePulse g s).fill = s.fill
      ∧ (sharePulse g s).mainSwitch = s.mainSwitch ∧ (sharePulse g s).time = s.time
      ∧ (sharePulse g s).link = s.link ∧ (sharePulse g s).pending = s.pending := by
  simp only [sharePulse, shareOfTick]
  (repeat' split) <;> simp [pulseExpiry_frame, settle_frame]

theorem takeValveTime_frame (r : RobotId) (s : State) :
    (takeValveTime r s).pins = s.pins ∧ (takeValveTime r s).pitch = s.pitch
      ∧ (takeValveTime r s).track = s.track ∧ (takeValveTime r s).cameras = s.cameras
      ∧ (takeValveTime r s).gates = s.gates ∧ (takeValveTime r s).stops = s.stops
      ∧ (takeValveTime r s).fill = s.fill ∧ (takeValveTime r s).robots = s.robots
      ∧ (takeValveTime r s).doses = s.doses ∧ (takeValveTime r s).bus = s.bus
      ∧ (takeValveTime r s).mainSwitch = s.mainSwitch ∧ (takeValveTime r s).groups = s.groups
      ∧ (takeValveTime r s).access = s.access ∧ (takeValveTime r s).link = s.link
      ∧ (takeValveTime r s).pending = s.pending := by
  simp only [takeValveTime]
  (repeat' split) <;> simp [valveSecond_frame, noteShare_frame]

theorem countClosed_frame (s t : State) :
    (countClosed s t).pins = t.pins ∧ (countClosed s t).pitch = t.pitch
      ∧ (countClosed s t).cameras = t.cameras ∧ (countClosed s t).gates = t.gates
      ∧ (countClosed s t).stops = t.stops ∧ (countClosed s t).fill = t.fill
      ∧ (countClosed s t).mainSwitch = t.mainSwitch ∧ (countClosed s t).link = t.link
      ∧ (countClosed s t).pending = t.pending := by
  simp only [countClosed]
  refine ⟨?_, ?_, ?_, ?_, ?_, ?_, ?_, ?_, ?_⟩ <;>
    (refine forEach_keeps _ _ _ (fun r u => ?_) t; split <;> simp only [takeValveTime_frame, settle_frame])

/-- Where no valve has been de-energised, no time is counted for one. -/
theorem countClosed_of_open (s t : State)
    (h : ∀ r : RobotId, s.doses[r].valve = true → t.doses[r].valve = true) : countClosed s t = t := by
  have hf : ∀ r : RobotId, (s.doses[r].valve && !t.doses[r].valve) = false := fun r => by
    have := h r
    cases h1 : s.doses[r].valve <;> cases h2 : t.doses[r].valve <;> simp_all
  simp only [countClosed, hf, Bool.false_eq_true, if_false]
  exact forEach_keeps (fun u => u) _ _ (fun _ _ => rfl) t

theorem shareSettle_frame (r : RobotId) (s : State) :
    (shareSettle r s).pins = s.pins ∧ (shareSettle r s).pitch = s.pitch ∧ (shareSettle r s).cameras = s.cameras
      ∧ (shareSettle r s).gates = s.gates ∧ (shareSettle r s).stops = s.stops ∧ (shareSettle r s).fill = s.fill
      ∧ (shareSettle r s).mainSwitch = s.mainSwitch ∧ (shareSettle r s).time = s.time
      ∧ (shareSettle r s).link = s.link ∧ (shareSettle r s).pending = s.pending := by
  simp only [shareSettle, shareOfTick]
  (repeat' split) <;> simp [settleExpiry_frame, settle_frame]

theorem shareNoFlow_frame (r : RobotId) (s : State) :
    (shareNoFlow r s).pins = s.pins ∧ (shareNoFlow r s).pitch = s.pitch ∧ (shareNoFlow r s).cameras = s.cameras
      ∧ (shareNoFlow r s).gates = s.gates ∧ (shareNoFlow r s).stops = s.stops ∧ (shareNoFlow r s).fill = s.fill
      ∧ (shareNoFlow r s).mainSwitch = s.mainSwitch
      ∧ (shareNoFlow r s).link = s.link ∧ (shareNoFlow r s).pending = s.pending := by
  simp only [shareNoFlow, countClosed_frame, shareOfTick]
  (repeat' split) <;> simp [noFlowExpiry_frame, settle_frame]

theorem shareCheck_frame (r : RobotId) (s : State) :
    (shareCheck r s).pins = s.pins ∧ (shareCheck r s).pitch = s.pitch ∧ (shareCheck r s).cameras = s.cameras
      ∧ (shareCheck r s).gates = s.gates ∧ (shareCheck r s).stops = s.stops ∧ (shareCheck r s).fill = s.fill
      ∧ (shareCheck r s).mainSwitch = s.mainSwitch
      ∧ (shareCheck r s).link = s.link ∧ (shareCheck r s).pending = s.pending := by
  simp only [shareCheck, countClosed_frame, shareOfTick]
  (repeat' split) <;> simp [checkExpiry_frame, settle_frame]

theorem shareValveTime_frame (r : RobotId) (s : State) :
    (shareValveTime r s).pins = s.pins ∧ (shareValveTime r s).pitch = s.pitch
      ∧ (shareValveTime r s).cameras = s.cameras ∧ (shareValveTime r s).gates = s.gates
      ∧ (shareValveTime r s).stops = s.stops ∧ (shareValveTime r s).fill = s.fill
      ∧ (shareValveTime r s).mainSwitch = s.mainSwitch ∧ (shareValveTime r s).link = s.link
      ∧ (shareValveTime r s).pending = s.pending := by
  simp only [shareValveTime, shareOfTick]
  (repeat' split) <;> simp [valveSecond_frame, noteShare_frame, settle_frame]

theorem sharePoll_frame (r : RobotId) (s : State) :
    (sharePoll r s).pins = s.pins ∧ (sharePoll r s).pitch = s.pitch ∧ (sharePoll r s).cameras = s.cameras
      ∧ (sharePoll r s).gates = s.gates ∧ (sharePoll r s).stops = s.stops ∧ (sharePoll r s).fill = s.fill
      ∧ (sharePoll r s).mainSwitch = s.mainSwitch ∧ (sharePoll r s).link = s.link
      ∧ (sharePoll r s).pending = s.pending := by
  simp only [sharePoll, shareOfTick]
  (repeat' split) <;> simp [pollExpiry_frame, noteShare_frame, settle_frame]

theorem shareAlike_frame (s : State) :
    (shareAlike s).pins = s.pins ∧ (shareAlike s).pitch = s.pitch ∧ (shareAlike s).cameras = s.cameras
      ∧ (shareAlike s).gates = s.gates ∧ (shareAlike s).fill = s.fill
      ∧ (shareAlike s).link = s.link ∧ (shareAlike s).pending = s.pending := by
  simp only [shareAlike, countClosed_frame, shareOfTick]
  (repeat' split) <;> simp [discrepancyExpiry_frame, settle_frame]

theorem sharePullin_frame (g : GroupId) (s : State) :
    (sharePullin g s).pins = s.pins ∧ (sharePullin g s).pitch = s.pitch ∧ (sharePullin g s).cameras = s.cameras
      ∧ (sharePullin g s).gates = s.gates ∧ (sharePullin g s).stops = s.stops ∧ (sharePullin g s).fill = s.fill
      ∧ (sharePullin g s).mainSwitch = s.mainSwitch ∧ (sharePullin g s).time = s.time
      ∧ (sharePullin g s).link = s.link ∧ (sharePullin g s).pending = s.pending := by
  simp only [sharePullin, shareOfTick, shareGroup]
  (repeat' split) <;> simp [pullinExpiry_frame, settle_frame]

theorem shareFallOut_frame (g : GroupId) (s : State) :
    (shareFallOut g s).pins = s.pins ∧ (shareFallOut g s).pitch = s.pitch
      ∧ (shareFallOut g s).cameras = s.cameras ∧ (shareFallOut g s).gates = s.gates
      ∧ (shareFallOut g s).stops = s.stops ∧ (shareFallOut g s).fill = s.fill
      ∧ (shareFallOut g s).mainSwitch = s.mainSwitch
      ∧ (shareFallOut g s).link = s.link ∧ (shareFallOut g s).pending = s.pending := by
  simp only [shareFallOut, countClosed_frame, shareOfTick, shareGroup]
  (repeat' split) <;> simp [fallOutExpiry_frame, settle_frame]

theorem shareDropout_frame (g : GroupId) (s : State) :
    (shareDropout g s).pins = s.pins ∧ (shareDropout g s).pitch = s.pitch
      ∧ (shareDropout g s).cameras = s.cameras ∧ (shareDropout g s).gates = s.gates
      ∧ (shareDropout g s).stops = s.stops ∧ (shareDropout g s).fill = s.fill
      ∧ (shareDropout g s).mainSwitch = s.mainSwitch ∧ (shareDropout g s).time = s.time
      ∧ (shareDropout g s).link = s.link ∧ (shareDropout g s).pending = s.pending := by
  simp only [shareDropout, shareOfTick, shareGroup]
  (repeat' split) <;> simp [dropoutExpiry_frame, settle_frame]

theorem shareWeld_frame (g : GroupId) (s : State) :
    (shareWeld g s).pins = s.pins ∧ (shareWeld g s).pitch = s.pitch ∧ (shareWeld g s).cameras = s.cameras
      ∧ (shareWeld g s).gates = s.gates ∧ (shareWeld g s).stops = s.stops ∧ (shareWeld g s).fill = s.fill
      ∧ (shareWeld g s).mainSwitch = s.mainSwitch ∧ (shareWeld g s).time = s.time
      ∧ (shareWeld g s).link = s.link ∧ (shareWeld g s).pending = s.pending := by
  simp only [shareWeld, shareOfTick, shareGroup]
  (repeat' split) <;> simp [weldExpiry_frame, settle_frame]

theorem shareDrain_frame (i : PlaceId) (s : State) :
    (shareDrain i s).pins = s.pins ∧ (shareDrain i s).pitch = s.pitch ∧ (shareDrain i s).cameras = s.cameras
      ∧ (shareDrain i s).gates = s.gates ∧ (shareDrain i s).stops = s.stops ∧ (shareDrain i s).fill = s.fill
      ∧ (shareDrain i s).mainSwitch = s.mainSwitch
      ∧ (shareDrain i s).link = s.link ∧ (shareDrain i s).pending = s.pending := by
  simp only [shareDrain, countClosed_frame, shareOfTick]
  (repeat' split) <;> simp [drainExpiry_frame, settle_frame]

theorem shareExpiry_frame (i : PlaceId) (s : State) :
    (shareExpiry i s).pins = s.pins ∧ (shareExpiry i s).pitch = s.pitch ∧ (shareExpiry i s).cameras = s.cameras
      ∧ (shareExpiry i s).gates = s.gates ∧ (shareExpiry i s).stops = s.stops ∧ (shareExpiry i s).fill = s.fill
      ∧ (shareExpiry i s).mainSwitch = s.mainSwitch ∧ (shareExpiry i s).time = s.time
      ∧ (shareExpiry i s).link = s.link ∧ (shareExpiry i s).pending = s.pending := by
  simp only [shareExpiry]
  (repeat' split) <;> simp [settle_frame, expireGrant_frame]

theorem shareGap_frame (s : State) :
    (shareGap s).pins = s.pins ∧ (shareGap s).pitch = s.pitch ∧ (shareGap s).cameras = s.cameras
      ∧ (shareGap s).gates = s.gates ∧ (shareGap s).stops = s.stops ∧ (shareGap s).fill = s.fill
      ∧ (shareGap s).mainSwitch = s.mainSwitch ∧ (shareGap s).time = s.time
      ∧ (shareGap s).pending = s.pending := by
  simp only [shareGap, shareOfTick]
  (repeat' split) <;> simp [gapExpiry_frame, settle_frame]

theorem rxdByte_frame (b : Byte) (s : State) :
    (rxdByte b s).pins = s.pins ∧ (rxdByte b s).pitch = s.pitch ∧ (rxdByte b s).track = s.track
      ∧ (rxdByte b s).cameras = s.cameras ∧ (rxdByte b s).gates = s.gates ∧ (rxdByte b s).stops = s.stops
      ∧ (rxdByte b s).fill = s.fill ∧ (rxdByte b s).robots = s.robots ∧ (rxdByte b s).doses = s.doses
      ∧ (rxdByte b s).bus = s.bus ∧ (rxdByte b s).mainSwitch = s.mainSwitch ∧ (rxdByte b s).groups = s.groups
      ∧ (rxdByte b s).access = s.access ∧ (rxdByte b s).time = s.time ∧ (rxdByte b s).counters = s.counters
      ∧ (rxdByte b s).events = s.events ∧ (rxdByte b s).pending = s.pending := by
  simp only [rxdByte]
  simp

theorem frameChecked_frame (b : Byte) (s : State) :
    (frameChecked b s).pins = s.pins ∧ (frameChecked b s).pitch = s.pitch ∧ (frameChecked b s).track = s.track
      ∧ (frameChecked b s).cameras = s.cameras ∧ (frameChecked b s).gates = s.gates
      ∧ (frameChecked b s).stops = s.stops ∧ (frameChecked b s).fill = s.fill
      ∧ (frameChecked b s).robots = s.robots ∧ (frameChecked b s).doses = s.doses
      ∧ (frameChecked b s).bus = s.bus ∧ (frameChecked b s).mainSwitch = s.mainSwitch
      ∧ (frameChecked b s).groups = s.groups ∧ (frameChecked b s).access = s.access
      ∧ (frameChecked b s).time = s.time ∧ (frameChecked b s).counters = s.counters
      ∧ (frameChecked b s).events = s.events ∧ (frameChecked b s).pending = s.pending := by
  simp only [frameChecked]
  (repeat' split) <;> simp

theorem lengthAbandon_frame (b : Byte) (s : State) :
    (lengthAbandon b s).pins = s.pins ∧ (lengthAbandon b s).pitch = s.pitch
      ∧ (lengthAbandon b s).track = s.track ∧ (lengthAbandon b s).cameras = s.cameras
      ∧ (lengthAbandon b s).gates = s.gates ∧ (lengthAbandon b s).stops = s.stops
      ∧ (lengthAbandon b s).fill = s.fill ∧ (lengthAbandon b s).robots = s.robots
      ∧ (lengthAbandon b s).doses = s.doses ∧ (lengthAbandon b s).bus = s.bus
      ∧ (lengthAbandon b s).mainSwitch = s.mainSwitch ∧ (lengthAbandon b s).groups = s.groups
      ∧ (lengthAbandon b s).access = s.access ∧ (lengthAbandon b s).time = s.time
      ∧ (lengthAbandon b s).counters = s.counters ∧ (lengthAbandon b s).events = s.events
      ∧ (lengthAbandon b s).pending = s.pending := by
  simp only [lengthAbandon]
  (repeat' split) <;> simp

theorem replySent_frame (s : State) :
    (replySent s).pins = s.pins ∧ (replySent s).pitch = s.pitch ∧ (replySent s).track = s.track
      ∧ (replySent s).cameras = s.cameras ∧ (replySent s).gates = s.gates ∧ (replySent s).stops = s.stops
      ∧ (replySent s).fill = s.fill ∧ (replySent s).robots = s.robots ∧ (replySent s).doses = s.doses
      ∧ (replySent s).bus = s.bus ∧ (replySent s).mainSwitch = s.mainSwitch ∧ (replySent s).groups = s.groups
      ∧ (replySent s).access = s.access ∧ (replySent s).time = s.time ∧ (replySent s).counters = s.counters
      ∧ (replySent s).events = s.events ∧ (replySent s).pending = s.pending := by
  simp only [replySent]
  simp

theorem raiseClamped_frame (unit phase : Nat) (s : State) :
    (raiseClamped unit phase s).pins = s.pins ∧ (raiseClamped unit phase s).pitch = s.pitch
      ∧ (raiseClamped unit phase s).track = s.track ∧ (raiseClamped unit phase s).cameras = s.cameras
      ∧ (raiseClamped unit phase s).gates = s.gates ∧ (raiseClamped unit phase s).stops = s.stops
      ∧ (raiseClamped unit phase s).fill = s.fill ∧ (raiseClamped unit phase s).robots = s.robots
      ∧ (raiseClamped unit phase s).doses = s.doses ∧ (raiseClamped unit phase s).bus = s.bus
      ∧ (raiseClamped unit phase s).mainSwitch = s.mainSwitch ∧ (raiseClamped unit phase s).groups = s.groups
      ∧ (raiseClamped unit phase s).access = s.access ∧ (raiseClamped unit phase s).time = s.time
      ∧ (raiseClamped unit phase s).counters = s.counters ∧ (raiseClamped unit phase s).link = s.link
      ∧ (raiseClamped unit phase s).pending = s.pending := by
  simp only [raiseClamped]
  simp

theorem clampCamera_frame (n : CameraId) (s : State) :
    (clampCamera n s).pins = s.pins ∧ (clampCamera n s).pitch = s.pitch ∧ (clampCamera n s).track = s.track
      ∧ (clampCamera n s).gates = s.gates ∧ (clampCamera n s).stops = s.stops ∧ (clampCamera n s).fill = s.fill
      ∧ (clampCamera n s).robots = s.robots ∧ (clampCamera n s).doses = s.doses ∧ (clampCamera n s).bus = s.bus
      ∧ (clampCamera n s).mainSwitch = s.mainSwitch ∧ (clampCamera n s).groups = s.groups
      ∧ (clampCamera n s).access = s.access ∧ (clampCamera n s).time = s.time
      ∧ (clampCamera n s).counters = s.counters ∧ (clampCamera n s).link = s.link
      ∧ (clampCamera n s).pending = s.pending := by
  simp only [clampCamera]
  (repeat' split) <;> simp [raiseClamped_frame]

theorem clampGate_frame (g : GateId) (s : State) :
    (clampGate g s).pins = s.pins ∧ (clampGate g s).pitch = s.pitch ∧ (clampGate g s).track = s.track
      ∧ (clampGate g s).cameras = s.cameras ∧ (clampGate g s).stops = s.stops ∧ (clampGate g s).fill = s.fill
      ∧ (clampGate g s).robots = s.robots ∧ (clampGate g s).doses = s.doses ∧ (clampGate g s).bus = s.bus
      ∧ (clampGate g s).mainSwitch = s.mainSwitch ∧ (clampGate g s).groups = s.groups
      ∧ (clampGate g s).access = s.access ∧ (clampGate g s).time = s.time
      ∧ (clampGate g s).counters = s.counters ∧ (clampGate g s).link = s.link
      ∧ (clampGate g s).pending = s.pending := by
  simp only [clampGate]
  (repeat' split) <;> simp [raiseClamped_frame]

theorem clampWindowStart_frame (s : State) :
    (clampWindowStart s).pins = s.pins ∧ (clampWindowStart s).track = s.track
      ∧ (clampWindowStart s).cameras = s.cameras ∧ (clampWindowStart s).gates = s.gates
      ∧ (clampWindowStart s).stops = s.stops ∧ (clampWindowStart s).fill = s.fill
      ∧ (clampWindowStart s).robots = s.robots ∧ (clampWindowStart s).doses = s.doses
      ∧ (clampWindowStart s).bus = s.bus ∧ (clampWindowStart s).mainSwitch = s.mainSwitch
      ∧ (clampWindowStart s).groups = s.groups ∧ (clampWindowStart s).access = s.access
      ∧ (clampWindowStart s).time = s.time ∧ (clampWindowStart s).counters = s.counters
      ∧ (clampWindowStart s).link = s.link ∧ (clampWindowStart s).pending = s.pending := by
  simp only [clampWindowStart]
  (repeat' split) <;> simp [raiseClamped_frame]

theorem clampWindowEnd_frame (s : State) :
    (clampWindowEnd s).pins = s.pins ∧ (clampWindowEnd s).track = s.track
      ∧ (clampWindowEnd s).cameras = s.cameras ∧ (clampWindowEnd s).gates = s.gates
      ∧ (clampWindowEnd s).stops = s.stops ∧ (clampWindowEnd s).fill = s.fill
      ∧ (clampWindowEnd s).robots = s.robots ∧ (clampWindowEnd s).doses = s.doses
      ∧ (clampWindowEnd s).bus = s.bus ∧ (clampWindowEnd s).mainSwitch = s.mainSwitch
      ∧ (clampWindowEnd s).groups = s.groups ∧ (clampWindowEnd s).access = s.access
      ∧ (clampWindowEnd s).time = s.time ∧ (clampWindowEnd s).counters = s.counters
      ∧ (clampWindowEnd s).link = s.link ∧ (clampWindowEnd s).pending = s.pending := by
  simp only [clampWindowEnd]
  (repeat' split) <;> simp [raiseClamped_frame]

theorem clampCounter_frame (s : State) :
    (clampCounter s).pins = s.pins ∧ (clampCounter s).track = s.track ∧ (clampCounter s).cameras = s.cameras
      ∧ (clampCounter s).gates = s.gates ∧ (clampCounter s).stops = s.stops ∧ (clampCounter s).fill = s.fill
      ∧ (clampCounter s).robots = s.robots ∧ (clampCounter s).doses = s.doses ∧ (clampCounter s).bus = s.bus
      ∧ (clampCounter s).mainSwitch = s.mainSwitch ∧ (clampCounter s).groups = s.groups
      ∧ (clampCounter s).access = s.access ∧ (clampCounter s).time = s.time
      ∧ (clampCounter s).counters = s.counters ∧ (clampCounter s).events = s.events
      ∧ (clampCounter s).link = s.link ∧ (clampCounter s).pending = s.pending := by
  simp only [clampCounter]
  simp

theorem clampAll_frame (s : State) :
    (clampAll s).pins = s.pins ∧ (clampAll s).track = s.track ∧ (clampAll s).stops = s.stops
      ∧ (clampAll s).fill = s.fill ∧ (clampAll s).robots = s.robots ∧ (clampAll s).doses = s.doses
      ∧ (clampAll s).bus = s.bus ∧ (clampAll s).mainSwitch = s.mainSwitch ∧ (clampAll s).groups = s.groups
      ∧ (clampAll s).access = s.access ∧ (clampAll s).time = s.time ∧ (clampAll s).counters = s.counters
      ∧ (clampAll s).link = s.link ∧ (clampAll s).pending = s.pending := by
  simp only [clampAll]
  simp [clampCamera_frame, clampGate_frame, clampWindowStart_frame, clampWindowEnd_frame,
    clampCounter_frame]

theorem checkLimits_frame (s : State) :
    (checkLimits s).pins = s.pins ∧ (checkLimits s).pitch = s.pitch ∧ (checkLimits s).fill = s.fill
      ∧ (checkLimits s).robots = s.robots ∧ (checkLimits s).doses = s.doses ∧ (checkLimits s).bus = s.bus
      ∧ (checkLimits s).mainSwitch = s.mainSwitch ∧ (checkLimits s).groups = s.groups
      ∧ (checkLimits s).access = s.access ∧ (checkLimits s).time = s.time
      ∧ (checkLimits s).counters = s.counters ∧ (checkLimits s).link = s.link
      ∧ (checkLimits s).pending = s.pending := by
  simp only [checkLimits]
  simp [deadlineCheck_frame, expireConfirm_frame]

theorem layoutBase_frame (layout : Bool) (s : State) :
    (layoutBase layout s).pins = s.pins ∧ (layoutBase layout s).pitch = s.pitch
      ∧ (layoutBase layout s).track = s.track ∧ (layoutBase layout s).stops = s.stops
      ∧ (layoutBase layout s).fill = s.fill ∧ (layoutBase layout s).robots = s.robots
      ∧ (layoutBase layout s).doses = s.doses ∧ (layoutBase layout s).bus = s.bus
      ∧ (layoutBase layout s).mainSwitch = s.mainSwitch ∧ (layoutBase layout s).groups = s.groups
      ∧ (layoutBase layout s).access = s.access ∧ (layoutBase layout s).time = s.time
      ∧ (layoutBase layout s).counters = s.counters ∧ (layoutBase layout s).events = s.events
      ∧ (layoutBase layout s).link = s.link ∧ (layoutBase layout s).pending = s.pending := by
  simp only [layoutBase]
  (repeat' split) <;> simp [activateStaged_frame]

theorem addSlot_frame (p : Nat) (s : State) :
    (addSlot p s).pins = s.pins ∧ (addSlot p s).pitch = s.pitch ∧ (addSlot p s).cameras = s.cameras
      ∧ (addSlot p s).gates = s.gates ∧ (addSlot p s).stops = s.stops ∧ (addSlot p s).fill = s.fill
      ∧ (addSlot p s).robots = s.robots ∧ (addSlot p s).doses = s.doses ∧ (addSlot p s).bus = s.bus
      ∧ (addSlot p s).mainSwitch = s.mainSwitch ∧ (addSlot p s).groups = s.groups
      ∧ (addSlot p s).access = s.access ∧ (addSlot p s).time = s.time ∧ (addSlot p s).counters = s.counters
      ∧ (addSlot p s).events = s.events ∧ (addSlot p s).link = s.link ∧ (addSlot p s).pending = s.pending := by
  simp only [addSlot]
  simp

theorem changeLength_frame (l : Nat) (s : State) :
    (changeLength l s).pins = s.pins ∧ (changeLength l s).pitch = s.pitch ∧ (changeLength l s).fill = s.fill
      ∧ (changeLength l s).robots = s.robots ∧ (changeLength l s).doses = s.doses
      ∧ (changeLength l s).bus = s.bus ∧ (changeLength l s).mainSwitch = s.mainSwitch
      ∧ (changeLength l s).groups = s.groups ∧ (changeLength l s).access = s.access
      ∧ (changeLength l s).time = s.time ∧ (changeLength l s).counters = s.counters
      ∧ (changeLength l s).link = s.link ∧ (changeLength l s).pending = s.pending := by
  simp only [changeLength]
  (repeat' split) <;> simp [discharge_frame, addSlot_frame]

theorem writeTrack_frame (pitch start stop : Nat) (s : State) :
    (writeTrack pitch start stop s).pins = s.pins ∧ (writeTrack pitch start stop s).track = s.track
      ∧ (writeTrack pitch start stop s).cameras = s.cameras ∧ (writeTrack pitch start stop s).gates = s.gates
      ∧ (writeTrack pitch start stop s).stops = s.stops ∧ (writeTrack pitch start stop s).fill = s.fill
      ∧ (writeTrack pitch start stop s).robots = s.robots ∧ (writeTrack pitch start stop s).doses = s.doses
      ∧ (writeTrack pitch start stop s).bus = s.bus ∧ (writeTrack pitch start stop s).mainSwitch = s.mainSwitch
      ∧ (writeTrack pitch start stop s).groups = s.groups ∧ (writeTrack pitch start stop s).access = s.access
      ∧ (writeTrack pitch start stop s).time = s.time ∧ (writeTrack pitch start stop s).counters = s.counters
      ∧ (writeTrack pitch start stop s).events = s.events ∧ (writeTrack pitch start stop s).link = s.link
      ∧ (writeTrack pitch start stop s).pending = s.pending := by
  simp only [writeTrack]
  simp

theorem trackConfig_frame (tag pitch : Half) (length : Byte) (infeedStart infeedEnd : Half) (s : State) :
    (trackConfig tag pitch length infeedStart infeedEnd s).pins = s.pins
      ∧ (trackConfig tag pitch length infeedStart infeedEnd s).fill = s.fill
      ∧ (trackConfig tag pitch length infeedStart infeedEnd s).robots = s.robots
      ∧ (trackConfig tag pitch length infeedStart infeedEnd s).doses = s.doses
      ∧ (trackConfig tag pitch length infeedStart infeedEnd s).bus = s.bus
      ∧ (trackConfig tag pitch length infeedStart infeedEnd s).mainSwitch = s.mainSwitch
      ∧ (trackConfig tag pitch length infeedStart infeedEnd s).groups = s.groups
      ∧ (trackConfig tag pitch length infeedStart infeedEnd s).access = s.access
      ∧ (trackConfig tag pitch length infeedStart infeedEnd s).time = s.time
      ∧ (trackConfig tag pitch length infeedStart infeedEnd s).counters = s.counters
      ∧ (trackConfig tag pitch length infeedStart infeedEnd s).pending = s.pending := by
  simp only [trackConfig]
  (repeat' split) <;> simp [clampAll_frame, checkLimits_frame, layoutBase_frame, changeLength_frame,
    writeTrack_frame]

theorem reconfigureCamera_frame (n : CameraId) (old new : CameraSettings) (s : State) :
    (reconfigureCamera n old new s).pins = s.pins ∧ (reconfigureCamera n old new s).pitch = s.pitch
      ∧ (reconfigureCamera n old new s).gates = s.gates ∧ (reconfigureCamera n old new s).stops = s.stops
      ∧ (reconfigureCamera n old new s).fill = s.fill ∧ (reconfigureCamera n old new s).robots = s.robots
      ∧ (reconfigureCamera n old new s).doses = s.doses ∧ (reconfigureCamera n old new s).bus = s.bus
      ∧ (reconfigureCamera n old new s).mainSwitch = s.mainSwitch
      ∧ (reconfigureCamera n old new s).groups = s.groups ∧ (reconfigureCamera n old new s).access = s.access
      ∧ (reconfigureCamera n old new s).time = s.time ∧ (reconfigureCamera n old new s).counters = s.counters
      ∧ (reconfigureCamera n old new s).events = s.events ∧ (reconfigureCamera n old new s).link = s.link
      ∧ (reconfigureCamera n old new s).pending = s.pending := by
  simp only [reconfigureCamera]
  (repeat' split) <;> simp [missAll_frame]

theorem stageCamera_frame (n : CameraId) (new : CameraSettings) (s : State) :
    (stageCamera n new s).pins = s.pins ∧ (stageCamera n new s).pitch = s.pitch
      ∧ (stageCamera n new s).track = s.track ∧ (stageCamera n new s).gates = s.gates
      ∧ (stageCamera n new s).stops = s.stops ∧ (stageCamera n new s).fill = s.fill
      ∧ (stageCamera n new s).robots = s.robots ∧ (stageCamera n new s).doses = s.doses
      ∧ (stageCamera n new s).bus = s.bus ∧ (stageCamera n new s).mainSwitch = s.mainSwitch
      ∧ (stageCamera n new s).groups = s.groups ∧ (stageCamera n new s).access = s.access
      ∧ (stageCamera n new s).time = s.time ∧ (stageCamera n new s).counters = s.counters
      ∧ (stageCamera n new s).link = s.link ∧ (stageCamera n new s).pending = s.pending := by
  simp only [stageCamera]
  (repeat' split) <;> simp [raiseClamped_frame]

theorem writeCamera_frame (n : CameraId) (new : CameraSettings) (s : State) :
    (writeCamera n new s).pins = s.pins ∧ (writeCamera n new s).pitch = s.pitch
      ∧ (writeCamera n new s).track = s.track ∧ (writeCamera n new s).gates = s.gates
      ∧ (writeCamera n new s).stops = s.stops ∧ (writeCamera n new s).fill = s.fill
      ∧ (writeCamera n new s).robots = s.robots ∧ (writeCamera n new s).doses = s.doses
      ∧ (writeCamera n new s).bus = s.bus ∧ (writeCamera n new s).mainSwitch = s.mainSwitch
      ∧ (writeCamera n new s).groups = s.groups ∧ (writeCamera n new s).access = s.access
      ∧ (writeCamera n new s).time = s.time ∧ (writeCamera n new s).counters = s.counters
      ∧ (writeCamera n new s).events = s.events ∧ (writeCamera n new s).link = s.link
      ∧ (writeCamera n new s).pending = s.pending := by
  simp only [writeCamera]
  simp

theorem configureCamera_frame (tag : Half) (n : CameraId) (new : CameraSettings) (s : State) :
    (configureCamera tag n new s).pins = s.pins ∧ (configureCamera tag n new s).fill = s.fill
      ∧ (configureCamera tag n new s).robots = s.robots ∧ (configureCamera tag n new s).doses = s.doses
      ∧ (configureCamera tag n new s).bus = s.bus ∧ (configureCamera tag n new s).mainSwitch = s.mainSwitch
      ∧ (configureCamera tag n new s).groups = s.groups ∧ (configureCamera tag n new s).access = s.access
      ∧ (configureCamera tag n new s).time = s.time ∧ (configureCamera tag n new s).counters = s.counters
      ∧ (configureCamera tag n new s).pending = s.pending := by
  simp only [configureCamera]
  (repeat' split) <;> simp [clampAll_frame, checkLimits_frame, layoutBase_frame, reconfigureCamera_frame,
    stageCamera_frame, writeCamera_frame]

theorem cameraConfig_frame (tag : Half) (camera enabled position : Byte) (phase classMask : Half) (required
    deadline : Byte) (s : State) :
    (cameraConfig tag camera enabled position phase classMask required deadline s).pins = s.pins
      ∧ (cameraConfig tag camera enabled position phase classMask required deadline s).fill = s.fill
      ∧ (cameraConfig tag camera enabled position phase classMask required deadline s).robots = s.robots
      ∧ (cameraConfig tag camera enabled position phase classMask required deadline s).doses = s.doses
      ∧ (cameraConfig tag camera enabled position phase classMask required deadline s).bus = s.bus
      ∧ (cameraConfig tag camera enabled position phase classMask required deadline s).mainSwitch = s.mainSwitch
      ∧ (cameraConfig tag camera enabled position phase classMask required deadline s).groups = s.groups
      ∧ (cameraConfig tag camera enabled position phase classMask required deadline s).access = s.access
      ∧ (cameraConfig tag camera enabled position phase classMask required deadline s).time = s.time
      ∧ (cameraConfig tag camera enabled position phase classMask required deadline s).counters = s.counters
      ∧ (cameraConfig tag camera enabled position phase classMask required deadline s).pending = s.pending := by
  simp only [cameraConfig]
  (repeat' split) <;> simp [configureCamera_frame]

theorem dropRejects_frame (g : GateId) (s : State) :
    (dropRejects g s).pins = s.pins ∧ (dropRejects g s).pitch = s.pitch ∧ (dropRejects g s).cameras = s.cameras
      ∧ (dropRejects g s).fill = s.fill ∧ (dropRejects g s).robots = s.robots
      ∧ (dropRejects g s).doses = s.doses ∧ (dropRejects g s).bus = s.bus
      ∧ (dropRejects g s).mainSwitch = s.mainSwitch ∧ (dropRejects g s).groups = s.groups
      ∧ (dropRejects g s).access = s.access ∧ (dropRejects g s).time = s.time
      ∧ (dropRejects g s).counters = s.counters ∧ (dropRejects g s).link = s.link
      ∧ (dropRejects g s).pending = s.pending := by
  simp only [dropRejects]
  simp [unconfirm_frame]

theorem reconfigureGate_frame (g : GateId) (old new : GateSettings) (s : State) :
    (reconfigureGate g old new s).pins = s.pins ∧ (reconfigureGate g old new s).pitch = s.pitch
      ∧ (reconfigureGate g old new s).cameras = s.cameras ∧ (reconfigureGate g old new s).fill = s.fill
      ∧ (reconfigureGate g old new s).robots = s.robots ∧ (reconfigureGate g old new s).doses = s.doses
      ∧ (reconfigureGate g old new s).bus = s.bus ∧ (reconfigureGate g old new s).mainSwitch = s.mainSwitch
      ∧ (reconfigureGate g old new s).groups = s.groups ∧ (reconfigureGate g old new s).access = s.access
      ∧ (reconfigureGate g old new s).time = s.time ∧ (reconfigureGate g old new s).counters = s.counters
      ∧ (reconfigureGate g old new s).link = s.link ∧ (reconfigureGate g old new s).pending = s.pending := by
  simp only [reconfigureGate]
  (repeat' split) <;> simp [dropRejects_frame]

theorem stageGate_frame (g : GateId) (new : GateSettings) (s : State) :
    (stageGate g new s).pins = s.pins ∧ (stageGate g new s).pitch = s.pitch
      ∧ (stageGate g new s).track = s.track ∧ (stageGate g new s).cameras = s.cameras
      ∧ (stageGate g new s).stops = s.stops ∧ (stageGate g new s).fill = s.fill
      ∧ (stageGate g new s).robots = s.robots ∧ (stageGate g new s).doses = s.doses
      ∧ (stageGate g new s).bus = s.bus ∧ (stageGate g new s).mainSwitch = s.mainSwitch
      ∧ (stageGate g new s).groups = s.groups ∧ (stageGate g new s).access = s.access
      ∧ (stageGate g new s).time = s.time ∧ (stageGate g new s).counters = s.counters
      ∧ (stageGate g new s).link = s.link ∧ (stageGate g new s).pending = s.pending := by
  simp only [stageGate]
  (repeat' split) <;> simp [raiseClamped_frame]

theorem writeGate_frame (g : GateId) (new : GateSettings) (s : State) :
    (writeGate g new s).pins = s.pins ∧ (writeGate g new s).pitch = s.pitch
      ∧ (writeGate g new s).track = s.track ∧ (writeGate g new s).cameras = s.cameras
      ∧ (writeGate g new s).stops = s.stops ∧ (writeGate g new s).fill = s.fill
      ∧ (writeGate g new s).robots = s.robots ∧ (writeGate g new s).doses = s.doses
      ∧ (writeGate g new s).bus = s.bus ∧ (writeGate g new s).mainSwitch = s.mainSwitch
      ∧ (writeGate g new s).groups = s.groups ∧ (writeGate g new s).access = s.access
      ∧ (writeGate g new s).time = s.time ∧ (writeGate g new s).counters = s.counters
      ∧ (writeGate g new s).events = s.events ∧ (writeGate g new s).link = s.link
      ∧ (writeGate g new s).pending = s.pending := by
  simp only [writeGate]
  simp

theorem configureGate_frame (tag : Half) (g : GateId) (new : GateSettings) (s : State) :
    (configureGate tag g new s).pins = s.pins ∧ (configureGate tag g new s).fill = s.fill
      ∧ (configureGate tag g new s).robots = s.robots ∧ (configureGate tag g new s).doses = s.doses
      ∧ (configureGate tag g new s).bus = s.bus ∧ (configureGate tag g new s).mainSwitch = s.mainSwitch
      ∧ (configureGate tag g new s).groups = s.groups ∧ (configureGate tag g new s).access = s.access
      ∧ (configureGate tag g new s).time = s.time ∧ (configureGate tag g new s).counters = s.counters
      ∧ (configureGate tag g new s).pending = s.pending := by
  simp only [configureGate]
  (repeat' split) <;> simp [clampAll_frame, checkLimits_frame, layoutBase_frame, reconfigureGate_frame,
    stageGate_frame, writeGate_frame]

theorem gateConfig_frame (tag : Half) (gate enabled position : Byte) (phase : Half) (width : Byte) (classMask :
    Half) (window : Byte) (s : State) :
    (gateConfig tag gate enabled position phase width classMask window s).pins = s.pins
      ∧ (gateConfig tag gate enabled position phase width classMask window s).fill = s.fill
      ∧ (gateConfig tag gate enabled position phase width classMask window s).robots = s.robots
      ∧ (gateConfig tag gate enabled position phase width classMask window s).doses = s.doses
      ∧ (gateConfig tag gate enabled position phase width classMask window s).bus = s.bus
      ∧ (gateConfig tag gate enabled position phase width classMask window s).mainSwitch = s.mainSwitch
      ∧ (gateConfig tag gate enabled position phase width classMask window s).groups = s.groups
      ∧ (gateConfig tag gate enabled position phase width classMask window s).access = s.access
      ∧ (gateConfig tag gate enabled position phase width classMask window s).time = s.time
      ∧ (gateConfig tag gate enabled position phase width classMask window s).counters = s.counters
      ∧ (gateConfig tag gate enabled position phase width classMask window s).pending = s.pending := by
  simp only [gateConfig]
  (repeat' split) <;> simp [configureGate_frame]

theorem fillerConfig_frame (tag : Half) (entry exit approach : Byte) (s : State) :
    (fillerConfig tag entry exit approach s).pins = s.pins
      ∧ (fillerConfig tag entry exit approach s).robots = s.robots
      ∧ (fillerConfig tag entry exit approach s).doses = s.doses
      ∧ (fillerConfig tag entry exit approach s).bus = s.bus
      ∧ (fillerConfig tag entry exit approach s).mainSwitch = s.mainSwitch
      ∧ (fillerConfig tag entry exit approach s).groups = s.groups
      ∧ (fillerConfig tag entry exit approach s).access = s.access
      ∧ (fillerConfig tag entry exit approach s).time = s.time
      ∧ (fillerConfig tag entry exit approach s).counters = s.counters
      ∧ (fillerConfig tag entry exit approach s).pending = s.pending := by
  simp only [fillerConfig]
  (repeat' split) <;> simp [clampAll_frame, checkLimits_frame, layoutBase_frame]

theorem trackRead_frame (tag : Half) (position : Byte) (s : State) :
    (trackRead tag position s).pins = s.pins ∧ (trackRead tag position s).pitch = s.pitch
      ∧ (trackRead tag position s).track = s.track ∧ (trackRead tag position s).cameras = s.cameras
      ∧ (trackRead tag position s).gates = s.gates ∧ (trackRead tag position s).stops = s.stops
      ∧ (trackRead tag position s).fill = s.fill ∧ (trackRead tag position s).robots = s.robots
      ∧ (trackRead tag position s).doses = s.doses ∧ (trackRead tag position s).bus = s.bus
      ∧ (trackRead tag position s).mainSwitch = s.mainSwitch ∧ (trackRead tag position s).groups = s.groups
      ∧ (trackRead tag position s).access = s.access ∧ (trackRead tag position s).time = s.time
      ∧ (trackRead tag position s).counters = s.counters ∧ (trackRead tag position s).events = s.events
      ∧ (trackRead tag position s).pending = s.pending := by
  simp only [trackRead]
  (repeat' split) <;> simp

theorem trackTally_frame (tag : Half) (clear : Byte) (s : State) :
    (trackTally tag clear s).pins = s.pins ∧ (trackTally tag clear s).pitch = s.pitch
      ∧ (trackTally tag clear s).cameras = s.cameras ∧ (trackTally tag clear s).gates = s.gates
      ∧ (trackTally tag clear s).stops = s.stops ∧ (trackTally tag clear s).fill = s.fill
      ∧ (trackTally tag clear s).robots = s.robots ∧ (trackTally tag clear s).doses = s.doses
      ∧ (trackTally tag clear s).bus = s.bus ∧ (trackTally tag clear s).mainSwitch = s.mainSwitch
      ∧ (trackTally tag clear s).groups = s.groups ∧ (trackTally tag clear s).access = s.access
      ∧ (trackTally tag clear s).time = s.time ∧ (trackTally tag clear s).counters = s.counters
      ∧ (trackTally tag clear s).events = s.events ∧ (trackTally tag clear s).pending = s.pending := by
  simp only [trackTally]
  (repeat' split) <;> simp

theorem emptySlots_frame (s : State) :
    (emptySlots s).pins = s.pins ∧ (emptySlots s).pitch = s.pitch ∧ (emptySlots s).cameras = s.cameras
      ∧ (emptySlots s).gates = s.gates ∧ (emptySlots s).stops = s.stops ∧ (emptySlots s).fill = s.fill
      ∧ (emptySlots s).robots = s.robots ∧ (emptySlots s).doses = s.doses ∧ (emptySlots s).bus = s.bus
      ∧ (emptySlots s).mainSwitch = s.mainSwitch ∧ (emptySlots s).groups = s.groups
      ∧ (emptySlots s).access = s.access ∧ (emptySlots s).time = s.time ∧ (emptySlots s).counters = s.counters
      ∧ (emptySlots s).events = s.events ∧ (emptySlots s).link = s.link
      ∧ (emptySlots s).pending = s.pending := by
  simp only [emptySlots]
  simp

theorem emptyUnitLists_frame (s : State) :
    (emptyUnitLists s).pins = s.pins ∧ (emptyUnitLists s).pitch = s.pitch ∧ (emptyUnitLists s).track = s.track
      ∧ (emptyUnitLists s).stops = s.stops ∧ (emptyUnitLists s).fill = s.fill
      ∧ (emptyUnitLists s).robots = s.robots ∧ (emptyUnitLists s).doses = s.doses
      ∧ (emptyUnitLists s).bus = s.bus ∧ (emptyUnitLists s).mainSwitch = s.mainSwitch
      ∧ (emptyUnitLists s).groups = s.groups ∧ (emptyUnitLists s).access = s.access
      ∧ (emptyUnitLists s).time = s.time ∧ (emptyUnitLists s).counters = s.counters
      ∧ (emptyUnitLists s).events = s.events ∧ (emptyUnitLists s).link = s.link
      ∧ (emptyUnitLists s).pending = s.pending := by
  simp only [emptyUnitLists]
  simp

theorem trackFlush_frame (tag : Half) (s : State) :
    (trackFlush tag s).pins = s.pins ∧ (trackFlush tag s).pitch = s.pitch ∧ (trackFlush tag s).stops = s.stops
      ∧ (trackFlush tag s).fill = s.fill ∧ (trackFlush tag s).mainSwitch = s.mainSwitch
      ∧ (trackFlush tag s).time = s.time ∧ (trackFlush tag s).pending = s.pending := by
  simp only [trackFlush]
  (repeat' split) <;> simp [abortJob_frame, settle_frame, emptySlots_frame, emptyUnitLists_frame]

theorem lineRelease_frame (tag : Half) (s : State) :
    (lineRelease tag s).pins = s.pins ∧ (lineRelease tag s).pitch = s.pitch
      ∧ (lineRelease tag s).track = s.track ∧ (lineRelease tag s).cameras = s.cameras
      ∧ (lineRelease tag s).gates = s.gates ∧ (lineRelease tag s).fill = s.fill
      ∧ (lineRelease tag s).robots = s.robots ∧ (lineRelease tag s).doses = s.doses
      ∧ (lineRelease tag s).bus = s.bus ∧ (lineRelease tag s).mainSwitch = s.mainSwitch
      ∧ (lineRelease tag s).groups = s.groups ∧ (lineRelease tag s).access = s.access
      ∧ (lineRelease tag s).time = s.time ∧ (lineRelease tag s).counters = s.counters
      ∧ (lineRelease tag s).events = s.events ∧ (lineRelease tag s).pending = s.pending := by
  simp only [lineRelease]
  simp

theorem clearGateFault_frame (tag : Half) (number : Byte) (s : State) :
    (clearGateFault tag number s).pins = s.pins ∧ (clearGateFault tag number s).pitch = s.pitch
      ∧ (clearGateFault tag number s).track = s.track ∧ (clearGateFault tag number s).cameras = s.cameras
      ∧ (clearGateFault tag number s).stops = s.stops ∧ (clearGateFault tag number s).fill = s.fill
      ∧ (clearGateFault tag number s).robots = s.robots ∧ (clearGateFault tag number s).doses = s.doses
      ∧ (clearGateFault tag number s).bus = s.bus ∧ (clearGateFault tag number s).mainSwitch = s.mainSwitch
      ∧ (clearGateFault tag number s).groups = s.groups ∧ (clearGateFault tag number s).access = s.access
      ∧ (clearGateFault tag number s).time = s.time ∧ (clearGateFault tag number s).counters = s.counters
      ∧ (clearGateFault tag number s).events = s.events
      ∧ (clearGateFault tag number s).pending = s.pending := by
  simp only [clearGateFault]
  (repeat' split) <;> simp

theorem robotConfig_frame (tag : Half) (robot zone address : Byte) (s : State) :
    (robotConfig tag robot zone address s).pins = s.pins
      ∧ (robotConfig tag robot zone address s).pitch = s.pitch
      ∧ (robotConfig tag robot zone address s).track = s.track
      ∧ (robotConfig tag robot zone address s).cameras = s.cameras
      ∧ (robotConfig tag robot zone address s).gates = s.gates
      ∧ (robotConfig tag robot zone address s).stops = s.stops
      ∧ (robotConfig tag robot zone address s).fill = s.fill
      ∧ (robotConfig tag robot zone address s).doses = s.doses
      ∧ (robotConfig tag robot zone address s).bus = s.bus
      ∧ (robotConfig tag robot zone address s).mainSwitch = s.mainSwitch
      ∧ (robotConfig tag robot zone address s).groups = s.groups
      ∧ (robotConfig tag robot zone address s).access = s.access
      ∧ (robotConfig tag robot zone address s).time = s.time
      ∧ (robotConfig tag robot zone address s).counters = s.counters
      ∧ (robotConfig tag robot zone address s).events = s.events
      ∧ (robotConfig tag robot zone address s).pending = s.pending := by
  simp only [robotConfig]
  (repeat' split) <;> simp

theorem takeRecipe_frame (r : RobotId) (atOnce : Bool) (new : Recipe) (s : State) :
    (takeRecipe r atOnce new s).pins = s.pins ∧ (takeRecipe r atOnce new s).pitch = s.pitch
      ∧ (takeRecipe r atOnce new s).track = s.track ∧ (takeRecipe r atOnce new s).cameras = s.cameras
      ∧ (takeRecipe r atOnce new s).gates = s.gates ∧ (takeRecipe r atOnce new s).stops = s.stops
      ∧ (takeRecipe r atOnce new s).fill = s.fill ∧ (takeRecipe r atOnce new s).robots = s.robots
      ∧ (takeRecipe r atOnce new s).bus = s.bus ∧ (takeRecipe r atOnce new s).mainSwitch = s.mainSwitch
      ∧ (takeRecipe r atOnce new s).groups = s.groups ∧ (takeRecipe r atOnce new s).access = s.access
      ∧ (takeRecipe r atOnce new s).time = s.time ∧ (takeRecipe r atOnce new s).counters = s.counters
      ∧ (takeRecipe r atOnce new s).events = s.events ∧ (takeRecipe r atOnce new s).link = s.link
      ∧ (takeRecipe r atOnce new s).pending = s.pending := by
  simp only [takeRecipe]
  (repeat' split) <;> simp

theorem recipeLoad_frame (tag : Half) (robot : Byte) (new : Recipe) (s : State) :
    (recipeLoad tag robot new s).pins = s.pins ∧ (recipeLoad tag robot new s).pitch = s.pitch
      ∧ (recipeLoad tag robot new s).track = s.track ∧ (recipeLoad tag robot new s).cameras = s.cameras
      ∧ (recipeLoad tag robot new s).gates = s.gates ∧ (recipeLoad tag robot new s).stops = s.stops
      ∧ (recipeLoad tag robot new s).fill = s.fill ∧ (recipeLoad tag robot new s).robots = s.robots
      ∧ (recipeLoad tag robot new s).bus = s.bus ∧ (recipeLoad tag robot new s).mainSwitch = s.mainSwitch
      ∧ (recipeLoad tag robot new s).groups = s.groups ∧ (recipeLoad tag robot new s).access = s.access
      ∧ (recipeLoad tag robot new s).time = s.time ∧ (recipeLoad tag robot new s).counters = s.counters
      ∧ (recipeLoad tag robot new s).events = s.events ∧ (recipeLoad tag robot new s).pending = s.pending := by
  simp only [recipeLoad]
  (repeat' split) <;> simp [takeRecipe_frame]

theorem leaveOff_frame (r : RobotId) (s : State) :
    (leaveOff r s).pins = s.pins ∧ (leaveOff r s).pitch = s.pitch ∧ (leaveOff r s).track = s.track
      ∧ (leaveOff r s).cameras = s.cameras ∧ (leaveOff r s).gates = s.gates ∧ (leaveOff r s).stops = s.stops
      ∧ (leaveOff r s).fill = s.fill ∧ (leaveOff r s).doses = s.doses ∧ (leaveOff r s).bus = s.bus
      ∧ (leaveOff r s).mainSwitch = s.mainSwitch ∧ (leaveOff r s).groups = s.groups
      ∧ (leaveOff r s).access = s.access ∧ (leaveOff r s).counters = s.counters ∧ (leaveOff r s).link = s.link
      ∧ (leaveOff r s).pending = s.pending := by
  simp only [leaveOff]
  simp [changeRobot_frame]

theorem enterOff_frame (r : RobotId) (s : State) :
    (enterOff r s).pins = s.pins ∧ (enterOff r s).pitch = s.pitch ∧ (enterOff r s).track = s.track
      ∧ (enterOff r s).cameras = s.cameras ∧ (enterOff r s).gates = s.gates ∧ (enterOff r s).stops = s.stops
      ∧ (enterOff r s).fill = s.fill ∧ (enterOff r s).doses = s.doses ∧ (enterOff r s).mainSwitch = s.mainSwitch
      ∧ (enterOff r s).groups = s.groups ∧ (enterOff r s).access = s.access ∧ (enterOff r s).time = s.time
      ∧ (enterOff r s).counters = s.counters ∧ (enterOff r s).link = s.link
      ∧ (enterOff r s).pending = s.pending := by
  simp only [enterOff]
  simp [changeRobot_frame]

theorem robotRead_frame (tag : Half) (robot : Byte) (s : State) :
    (robotRead tag robot s).pins = s.pins ∧ (robotRead tag robot s).pitch = s.pitch
      ∧ (robotRead tag robot s).track = s.track ∧ (robotRead tag robot s).cameras = s.cameras
      ∧ (robotRead tag robot s).gates = s.gates ∧ (robotRead tag robot s).stops = s.stops
      ∧ (robotRead tag robot s).fill = s.fill ∧ (robotRead tag robot s).robots = s.robots
      ∧ (robotRead tag robot s).doses = s.doses ∧ (robotRead tag robot s).bus = s.bus
      ∧ (robotRead tag robot s).mainSwitch = s.mainSwitch ∧ (robotRead tag robot s).groups = s.groups
      ∧ (robotRead tag robot s).access = s.access ∧ (robotRead tag robot s).time = s.time
      ∧ (robotRead tag robot s).counters = s.counters ∧ (robotRead tag robot s).events = s.events
      ∧ (robotRead tag robot s).pending = s.pending := by
  simp only [robotRead]
  (repeat' split) <;> simp

theorem clearRobotFault_frame (tag : Half) (number : Byte) (s : State) :
    (clearRobotFault tag number s).pins = s.pins ∧ (clearRobotFault tag number s).pitch = s.pitch
      ∧ (clearRobotFault tag number s).cameras = s.cameras ∧ (clearRobotFault tag number s).gates = s.gates
      ∧ (clearRobotFault tag number s).stops = s.stops ∧ (clearRobotFault tag number s).fill = s.fill
      ∧ (clearRobotFault tag number s).mainSwitch = s.mainSwitch ∧ (clearRobotFault tag number s).time = s.time
      ∧ (clearRobotFault tag number s).pending = s.pending := by
  simp only [clearRobotFault]
  (repeat' split) <;> simp [changeRobot_frame, settle_frame]

theorem groupClose_frame (tag : Half) (group : Byte) (s : State) :
    (groupClose tag group s).pins = s.pins ∧ (groupClose tag group s).pitch = s.pitch
      ∧ (groupClose tag group s).cameras = s.cameras ∧ (groupClose tag group s).gates = s.gates
      ∧ (groupClose tag group s).stops = s.stops ∧ (groupClose tag group s).fill = s.fill
      ∧ (groupClose tag group s).mainSwitch = s.mainSwitch ∧ (groupClose tag group s).time = s.time
      ∧ (groupClose tag group s).pending = s.pending := by
  simp only [groupClose]
  (repeat' split) <;> simp [closeGroup_frame, settle_frame]

theorem groupOpen_frame (tag : Half) (group : Byte) (s : State) :
    (groupOpen tag group s).pins = s.pins ∧ (groupOpen tag group s).pitch = s.pitch
      ∧ (groupOpen tag group s).cameras = s.cameras ∧ (groupOpen tag group s).gates = s.gates
      ∧ (groupOpen tag group s).stops = s.stops ∧ (groupOpen tag group s).fill = s.fill
      ∧ (groupOpen tag group s).mainSwitch = s.mainSwitch ∧ (groupOpen tag group s).time = s.time
      ∧ (groupOpen tag group s).pending = s.pending := by
  simp only [groupOpen]
  (repeat' split) <;> simp [openGroup_frame, settle_frame]

theorem powerRead_frame (tag : Half) (s : State) :
    (powerRead tag s).pins = s.pins ∧ (powerRead tag s).pitch = s.pitch ∧ (powerRead tag s).track = s.track
      ∧ (powerRead tag s).cameras = s.cameras ∧ (powerRead tag s).gates = s.gates
      ∧ (powerRead tag s).stops = s.stops ∧ (powerRead tag s).fill = s.fill
      ∧ (powerRead tag s).robots = s.robots ∧ (powerRead tag s).doses = s.doses ∧ (powerRead tag s).bus = s.bus
      ∧ (powerRead tag s).mainSwitch = s.mainSwitch ∧ (powerRead tag s).groups = s.groups
      ∧ (powerRead tag s).access = s.access ∧ (powerRead tag s).time = s.time
      ∧ (powerRead tag s).counters = s.counters ∧ (powerRead tag s).events = s.events
      ∧ (powerRead tag s).pending = s.pending := by
  simp only [powerRead]
  simp

theorem clearSwitchFault_frame (tag : Half) (number : Byte) (s : State) :
    (clearSwitchFault tag number s).pins = s.pins ∧ (clearSwitchFault tag number s).pitch = s.pitch
      ∧ (clearSwitchFault tag number s).track = s.track ∧ (clearSwitchFault tag number s).cameras = s.cameras
      ∧ (clearSwitchFault tag number s).gates = s.gates ∧ (clearSwitchFault tag number s).stops = s.stops
      ∧ (clearSwitchFault tag number s).fill = s.fill ∧ (clearSwitchFault tag number s).robots = s.robots
      ∧ (clearSwitchFault tag number s).doses = s.doses ∧ (clearSwitchFault tag number s).bus = s.bus
      ∧ (clearSwitchFault tag number s).groups = s.groups ∧ (clearSwitchFault tag number s).access = s.access
      ∧ (clearSwitchFault tag number s).time = s.time ∧ (clearSwitchFault tag number s).counters = s.counters
      ∧ (clearSwitchFault tag number s).events = s.events
      ∧ (clearSwitchFault tag number s).pending = s.pending := by
  simp only [clearSwitchFault]
  (repeat' split) <;> simp

theorem clearGroupFault_frame (tag : Half) (number : Byte) (s : State) :
    (clearGroupFault tag number s).pins = s.pins ∧ (clearGroupFault tag number s).pitch = s.pitch
      ∧ (clearGroupFault tag number s).cameras = s.cameras ∧ (clearGroupFault tag number s).gates = s.gates
      ∧ (clearGroupFault tag number s).stops = s.stops ∧ (clearGroupFault tag number s).fill = s.fill
      ∧ (clearGroupFault tag number s).mainSwitch = s.mainSwitch ∧ (clearGroupFault tag number s).time = s.time
      ∧ (clearGroupFault tag number s).pending = s.pending := by
  simp only [clearGroupFault]
  (repeat' split) <;> simp [enterGroup_frame, settle_frame]

theorem placeGrant_frame (i : PlaceId) (g : Grant) (s : State) :
    (placeGrant i g s).pins = s.pins ∧ (placeGrant i g s).pitch = s.pitch ∧ (placeGrant i g s).track = s.track
      ∧ (placeGrant i g s).cameras = s.cameras ∧ (placeGrant i g s).gates = s.gates
      ∧ (placeGrant i g s).stops = s.stops ∧ (placeGrant i g s).fill = s.fill
      ∧ (placeGrant i g s).robots = s.robots ∧ (placeGrant i g s).doses = s.doses
      ∧ (placeGrant i g s).bus = s.bus ∧ (placeGrant i g s).mainSwitch = s.mainSwitch
      ∧ (placeGrant i g s).groups = s.groups ∧ (placeGrant i g s).time = s.time
      ∧ (placeGrant i g s).counters = s.counters ∧ (placeGrant i g s).link = s.link
      ∧ (placeGrant i g s).pending = s.pending := by
  simp only [placeGrant]
  simp [raiseGrantState_frame]

theorem grantRequest_frame (tag : Half) (kind zones : Byte) (badge : Long) (duration : Half) (s : State) :
    (grantRequest tag kind zones badge duration s).pins = s.pins
      ∧ (grantRequest tag kind zones badge duration s).pitch = s.pitch
      ∧ (grantRequest tag kind zones badge duration s).cameras = s.cameras
      ∧ (grantRequest tag kind zones badge duration s).gates = s.gates
      ∧ (grantRequest tag kind zones badge duration s).stops = s.stops
      ∧ (grantRequest tag kind zones badge duration s).fill = s.fill
      ∧ (grantRequest tag kind zones badge duration s).mainSwitch = s.mainSwitch
      ∧ (grantRequest tag kind zones badge duration s).time = s.time
      ∧ (grantRequest tag kind zones badge duration s).pending = s.pending := by
  simp only [grantRequest]
  (repeat' split) <;> simp [settle_frame, placeGrant_frame]

theorem endByRequest_frame (i : PlaceId) (g : Grant) (s : State) :
    (endByRequest i g s).pins = s.pins ∧ (endByRequest i g s).pitch = s.pitch
      ∧ (endByRequest i g s).track = s.track ∧ (endByRequest i g s).cameras = s.cameras
      ∧ (endByRequest i g s).gates = s.gates ∧ (endByRequest i g s).stops = s.stops
      ∧ (endByRequest i g s).fill = s.fill ∧ (endByRequest i g s).doses = s.doses
      ∧ (endByRequest i g s).mainSwitch = s.mainSwitch ∧ (endByRequest i g s).groups = s.groups
      ∧ (endByRequest i g s).time = s.time ∧ (endByRequest i g s).counters = s.counters
      ∧ (endByRequest i g s).link = s.link ∧ (endByRequest i g s).pending = s.pending := by
  simp only [endByRequest]
  (repeat' split) <;> simp [enterGrant_frame, endGrant_frame]

theorem grantEnd_frame (tag number : Half) (s : State) :
    (grantEnd tag number s).pins = s.pins ∧ (grantEnd tag number s).pitch = s.pitch
      ∧ (grantEnd tag number s).cameras = s.cameras ∧ (grantEnd tag number s).gates = s.gates
      ∧ (grantEnd tag number s).stops = s.stops ∧ (grantEnd tag number s).fill = s.fill
      ∧ (grantEnd tag number s).mainSwitch = s.mainSwitch ∧ (grantEnd tag number s).time = s.time
      ∧ (grantEnd tag number s).pending = s.pending := by
  simp only [grantEnd]
  (repeat' split) <;> simp [settle_frame, endByRequest_frame]

theorem extendGrant_frame (i : PlaceId) (g : Grant) (minutes : Nat) (s : State) :
    (extendGrant i g minutes s).pins = s.pins ∧ (extendGrant i g minutes s).pitch = s.pitch
      ∧ (extendGrant i g minutes s).track = s.track ∧ (extendGrant i g minutes s).cameras = s.cameras
      ∧ (extendGrant i g minutes s).gates = s.gates ∧ (extendGrant i g minutes s).stops = s.stops
      ∧ (extendGrant i g minutes s).fill = s.fill ∧ (extendGrant i g minutes s).robots = s.robots
      ∧ (extendGrant i g minutes s).doses = s.doses ∧ (extendGrant i g minutes s).bus = s.bus
      ∧ (extendGrant i g minutes s).mainSwitch = s.mainSwitch ∧ (extendGrant i g minutes s).groups = s.groups
      ∧ (extendGrant i g minutes s).time = s.time ∧ (extendGrant i g minutes s).counters = s.counters
      ∧ (extendGrant i g minutes s).link = s.link ∧ (extendGrant i g minutes s).pending = s.pending := by
  simp only [extendGrant]
  (repeat' split) <;> simp [enterGrant_frame]

theorem grantExtend_frame (tag number minutes : Half) (s : State) :
    (grantExtend tag number minutes s).pins = s.pins ∧ (grantExtend tag number minutes s).pitch = s.pitch
      ∧ (grantExtend tag number minutes s).cameras = s.cameras
      ∧ (grantExtend tag number minutes s).gates = s.gates ∧ (grantExtend tag number minutes s).stops = s.stops
      ∧ (grantExtend tag number minutes s).fill = s.fill
      ∧ (grantExtend tag number minutes s).mainSwitch = s.mainSwitch
      ∧ (grantExtend tag number minutes s).time = s.time
      ∧ (grantExtend tag number minutes s).pending = s.pending := by
  simp only [grantExtend]
  (repeat' split) <;> simp [settle_frame, extendGrant_frame]

theorem grantRead_frame (tag : Half) (place : Byte) (s : State) :
    (grantRead tag place s).pins = s.pins ∧ (grantRead tag place s).pitch = s.pitch
      ∧ (grantRead tag place s).track = s.track ∧ (grantRead tag place s).cameras = s.cameras
      ∧ (grantRead tag place s).gates = s.gates ∧ (grantRead tag place s).stops = s.stops
      ∧ (grantRead tag place s).fill = s.fill ∧ (grantRead tag place s).robots = s.robots
      ∧ (grantRead tag place s).doses = s.doses ∧ (grantRead tag place s).bus = s.bus
      ∧ (grantRead tag place s).mainSwitch = s.mainSwitch ∧ (grantRead tag place s).groups = s.groups
      ∧ (grantRead tag place s).access = s.access ∧ (grantRead tag place s).time = s.time
      ∧ (grantRead tag place s).counters = s.counters ∧ (grantRead tag place s).events = s.events
      ∧ (grantRead tag place s).pending = s.pending := by
  simp only [grantRead]
  (repeat' split) <;> simp

theorem clearZoneLatch_frame (tag : Half) (number : Byte) (s : State) :
    (clearZoneLatch tag number s).pins = s.pins ∧ (clearZoneLatch tag number s).pitch = s.pitch
      ∧ (clearZoneLatch tag number s).cameras = s.cameras ∧ (clearZoneLatch tag number s).gates = s.gates
      ∧ (clearZoneLatch tag number s).stops = s.stops ∧ (clearZoneLatch tag number s).fill = s.fill
      ∧ (clearZoneLatch tag number s).mainSwitch = s.mainSwitch ∧ (clearZoneLatch tag number s).time = s.time
      ∧ (clearZoneLatch tag number s).pending = s.pending := by
  simp only [clearZoneLatch]
  (repeat' split) <;> simp [settle_frame]

theorem clearCabinetLatch_frame (tag : Half) (number : Byte) (s : State) :
    (clearCabinetLatch tag number s).pins = s.pins ∧ (clearCabinetLatch tag number s).pitch = s.pitch
      ∧ (clearCabinetLatch tag number s).track = s.track ∧ (clearCabinetLatch tag number s).cameras = s.cameras
      ∧ (clearCabinetLatch tag number s).gates = s.gates ∧ (clearCabinetLatch tag number s).stops = s.stops
      ∧ (clearCabinetLatch tag number s).fill = s.fill ∧ (clearCabinetLatch tag number s).robots = s.robots
      ∧ (clearCabinetLatch tag number s).doses = s.doses ∧ (clearCabinetLatch tag number s).bus = s.bus
      ∧ (clearCabinetLatch tag number s).mainSwitch = s.mainSwitch
      ∧ (clearCabinetLatch tag number s).groups = s.groups ∧ (clearCabinetLatch tag number s).time = s.time
      ∧ (clearCabinetLatch tag number s).counters = s.counters
      ∧ (clearCabinetLatch tag number s).events = s.events
      ∧ (clearCabinetLatch tag number s).pending = s.pending := by
  simp only [clearCabinetLatch]
  (repeat' split) <;> simp

theorem timeSet_frame (tag : Half) (seconds : Long) (s : State) :
    (timeSet tag seconds s).pins = s.pins ∧ (timeSet tag seconds s).pitch = s.pitch
      ∧ (timeSet tag seconds s).track = s.track ∧ (timeSet tag seconds s).cameras = s.cameras
      ∧ (timeSet tag seconds s).gates = s.gates ∧ (timeSet tag seconds s).stops = s.stops
      ∧ (timeSet tag seconds s).fill = s.fill ∧ (timeSet tag seconds s).robots = s.robots
      ∧ (timeSet tag seconds s).doses = s.doses ∧ (timeSet tag seconds s).bus = s.bus
      ∧ (timeSet tag seconds s).mainSwitch = s.mainSwitch ∧ (timeSet tag seconds s).groups = s.groups
      ∧ (timeSet tag seconds s).access = s.access ∧ (timeSet tag seconds s).counters = s.counters
      ∧ (timeSet tag seconds s).events = s.events ∧ (timeSet tag seconds s).pending = s.pending := by
  simp only [timeSet]
  simp

theorem timeRead_frame (tag : Half) (s : State) :
    (timeRead tag s).pins = s.pins ∧ (timeRead tag s).pitch = s.pitch ∧ (timeRead tag s).track = s.track
      ∧ (timeRead tag s).cameras = s.cameras ∧ (timeRead tag s).gates = s.gates
      ∧ (timeRead tag s).stops = s.stops ∧ (timeRead tag s).fill = s.fill ∧ (timeRead tag s).robots = s.robots
      ∧ (timeRead tag s).doses = s.doses ∧ (timeRead tag s).bus = s.bus
      ∧ (timeRead tag s).mainSwitch = s.mainSwitch ∧ (timeRead tag s).groups = s.groups
      ∧ (timeRead tag s).access = s.access ∧ (timeRead tag s).time = s.time
      ∧ (timeRead tag s).counters = s.counters ∧ (timeRead tag s).events = s.events
      ∧ (timeRead tag s).pending = s.pending := by
  simp only [timeRead]
  simp

theorem acceptCounter_frame (kind : Byte) (tag : Half) (i : CounterId) (c : Counter) (s : State) :
    (acceptCounter kind tag i c s).pins = s.pins ∧ (acceptCounter kind tag i c s).pitch = s.pitch
      ∧ (acceptCounter kind tag i c s).cameras = s.cameras ∧ (acceptCounter kind tag i c s).gates = s.gates
      ∧ (acceptCounter kind tag i c s).stops = s.stops ∧ (acceptCounter kind tag i c s).fill = s.fill
      ∧ (acceptCounter kind tag i c s).mainSwitch = s.mainSwitch ∧ (acceptCounter kind tag i c s).time = s.time
      ∧ (acceptCounter kind tag i c s).pending = s.pending := by
  simp only [acceptCounter]
  simp [storeCounter_frame, settle_frame]

theorem counterLoad_frame (tag : Half) (counter : Byte) (total : Long) (s : State) :
    (counterLoad tag counter total s).pins = s.pins ∧ (counterLoad tag counter total s).pitch = s.pitch
      ∧ (counterLoad tag counter total s).cameras = s.cameras
      ∧ (counterLoad tag counter total s).gates = s.gates ∧ (counterLoad tag counter total s).stops = s.stops
      ∧ (counterLoad tag counter total s).fill = s.fill
      ∧ (counterLoad tag counter total s).mainSwitch = s.mainSwitch
      ∧ (counterLoad tag counter total s).time = s.time
      ∧ (counterLoad tag counter total s).pending = s.pending := by
  simp only [counterLoad]
  (repeat' split) <;> simp [acceptCounter_frame]

theorem counterLimits_frame (tag : Half) (counter : Byte) (warn due : Long) (margin zone : Byte) (s : State) :
    (counterLimits tag counter warn due margin zone s).pins = s.pins
      ∧ (counterLimits tag counter warn due margin zone s).pitch = s.pitch
      ∧ (counterLimits tag counter warn due margin zone s).cameras = s.cameras
      ∧ (counterLimits tag counter warn due margin zone s).gates = s.gates
      ∧ (counterLimits tag counter warn due margin zone s).stops = s.stops
      ∧ (counterLimits tag counter warn due margin zone s).fill = s.fill
      ∧ (counterLimits tag counter warn due margin zone s).mainSwitch = s.mainSwitch
      ∧ (counterLimits tag counter warn due margin zone s).time = s.time
      ∧ (counterLimits tag counter warn due margin zone s).pending = s.pending := by
  simp only [counterLimits]
  (repeat' split) <;> simp [acceptCounter_frame]

theorem counterReset_frame (tag : Half) (counter : Byte) (s : State) :
    (counterReset tag counter s).pins = s.pins ∧ (counterReset tag counter s).pitch = s.pitch
      ∧ (counterReset tag counter s).cameras = s.cameras ∧ (counterReset tag counter s).gates = s.gates
      ∧ (counterReset tag counter s).stops = s.stops ∧ (counterReset tag counter s).fill = s.fill
      ∧ (counterReset tag counter s).mainSwitch = s.mainSwitch ∧ (counterReset tag counter s).time = s.time
      ∧ (counterReset tag counter s).pending = s.pending := by
  simp only [counterReset]
  (repeat' split) <;> simp [acceptCounter_frame]

theorem counterRead_frame (tag : Half) (counter : Byte) (s : State) :
    (counterRead tag counter s).pins = s.pins ∧ (counterRead tag counter s).pitch = s.pitch
      ∧ (counterRead tag counter s).track = s.track ∧ (counterRead tag counter s).cameras = s.cameras
      ∧ (counterRead tag counter s).gates = s.gates ∧ (counterRead tag counter s).stops = s.stops
      ∧ (counterRead tag counter s).fill = s.fill ∧ (counterRead tag counter s).robots = s.robots
      ∧ (counterRead tag counter s).doses = s.doses ∧ (counterRead tag counter s).bus = s.bus
      ∧ (counterRead tag counter s).mainSwitch = s.mainSwitch ∧ (counterRead tag counter s).groups = s.groups
      ∧ (counterRead tag counter s).access = s.access ∧ (counterRead tag counter s).time = s.time
      ∧ (counterRead tag counter s).counters = s.counters ∧ (counterRead tag counter s).events = s.events
      ∧ (counterRead tag counter s).pending = s.pending := by
  simp only [counterRead]
  (repeat' split) <;> simp

theorem bootDoors_frame (s : State) :
    (bootDoors s).pins = s.pins ∧ (bootDoors s).pitch = s.pitch ∧ (bootDoors s).cameras = s.cameras
      ∧ (bootDoors s).gates = s.gates ∧ (bootDoors s).fill = s.fill ∧ (bootDoors s).mainSwitch = s.mainSwitch
      ∧ (bootDoors s).time = s.time ∧ (bootDoors s).link = s.link ∧ (bootDoors s).pending = s.pending := by
  simp only [bootDoors]
  (repeat' split) <;> simp [zoneIntrusion_frame, cabinetIntrusion_frame]

theorem bootInputs_frame (s : State) :
    (bootInputs s).pins = s.pins ∧ (bootInputs s).pitch = s.pitch ∧ (bootInputs s).cameras = s.cameras
      ∧ (bootInputs s).gates = s.gates ∧ (bootInputs s).fill = s.fill ∧ (bootInputs s).time = s.time
      ∧ (bootInputs s).link = s.link ∧ (bootInputs s).pending = s.pending := by
  simp only [bootInputs]
  simp [bootDoors_frame]

theorem ident_frame (tag : Half) (s : State) :
    (ident tag s).pins = s.pins ∧ (ident tag s).pitch = s.pitch ∧ (ident tag s).track = s.track
      ∧ (ident tag s).cameras = s.cameras ∧ (ident tag s).gates = s.gates ∧ (ident tag s).stops = s.stops
      ∧ (ident tag s).fill = s.fill ∧ (ident tag s).robots = s.robots ∧ (ident tag s).doses = s.doses
      ∧ (ident tag s).bus = s.bus ∧ (ident tag s).mainSwitch = s.mainSwitch ∧ (ident tag s).groups = s.groups
      ∧ (ident tag s).access = s.access ∧ (ident tag s).time = s.time ∧ (ident tag s).counters = s.counters
      ∧ (ident tag s).events = s.events ∧ (ident tag s).pending = s.pending := by
  simp only [ident]
  simp

theorem status_frame (tag : Half) (s : State) :
    (status tag s).pins = s.pins ∧ (status tag s).pitch = s.pitch ∧ (status tag s).track = s.track
      ∧ (status tag s).cameras = s.cameras ∧ (status tag s).gates = s.gates ∧ (status tag s).stops = s.stops
      ∧ (status tag s).fill = s.fill ∧ (status tag s).robots = s.robots ∧ (status tag s).doses = s.doses
      ∧ (status tag s).bus = s.bus ∧ (status tag s).mainSwitch = s.mainSwitch ∧ (status tag s).groups = s.groups
      ∧ (status tag s).access = s.access ∧ (status tag s).time = s.time ∧ (status tag s).counters = s.counters
      ∧ (status tag s).events = s.events ∧ (status tag s).pending = s.pending := by
  simp only [status]
  simp

theorem faultClear_frame (tag : Half) (target number : Byte) (s : State) :
    (faultClear tag target number s).pins = s.pins ∧ (faultClear tag target number s).pitch = s.pitch
      ∧ (faultClear tag target number s).cameras = s.cameras ∧ (faultClear tag target number s).stops = s.stops
      ∧ (faultClear tag target number s).fill = s.fill ∧ (faultClear tag target number s).time = s.time
      ∧ (faultClear tag target number s).pending = s.pending := by
  simp only [faultClear]
  (repeat' split) <;> simp [clearGateFault_frame, clearRobotFault_frame, clearSwitchFault_frame,
    clearGroupFault_frame, clearZoneLatch_frame, clearCabinetLatch_frame]

/-! ## Requests at the link (R178, R180) -/

theorem linkIdle_iff (s : State) : s.linkIdle = true ↔ s.link.sending = none ∧ s.link.buffer = [] := by
  simp [State.linkIdle]

/-- With the link idle a request is its rule. -/
theorem hostRequest_of_idle {s : State} (h : s.linkIdle = true) (c : Instr) (rule : State → State) :
    hostRequest c rule s = .next (rule s) := by
  simp [hostRequest, h]

/-- With the link not idle a request's frame goes to the receive buffer. -/
theorem hostRequest_waits {s : State} (h : s.linkIdle = false) {c : Instr} {f : Frame} (hf : requestFrame c = some f)
    (rule : State → State) : hostRequest c rule s = .next { s with link := s.link.receive f } := by
  simp [hostRequest, h, hf, State.mapLink]

/-- All that a request can do: its rule with the link idle, and otherwise a change of the link alone. -/
theorem hostRequest_cases {c : Instr} {rule : State → State} {s t : State} (h : hostRequest c rule s = .next t) :
    (s.linkIdle = true ∧ t = rule s) ∨ (s.linkIdle = false ∧ ∃ l : Link, t = { s with link := l }) := by
  cases hi : s.linkIdle
  · refine .inr ⟨rfl, ?_⟩
    simp only [hostRequest, hi, Bool.false_eq_true, if_false] at h
    split at h <;> cases h
    · exact ⟨_, rfl⟩
    · exact ⟨s.link, rfl⟩
  · rw [hostRequest_of_idle hi] at h
    cases h
    exact .inl ⟨rfl, rfl⟩

/-- A frame handed to the receive buffer joins it, or is counted as overrun with two in it (R178). -/
theorem receive_eq (l : Link) (f : Frame) :
    l.receive f =
      if l.buffer.length < 2 then { l with buffer := l.buffer ++ [f] }
      else { l with overrunErrors := min (l.overrunErrors + 1) 65535 } := rfl

end Sys2Proof.Machine
end

