-- ==== Sys2Proof/Laws/Aborts.lean ====
section
/-! SUPPORT. Laws/Aborts.lean: what aborting jobs leaves, in the terms of Safety.lean: one lemma for the abort of one job,
and one that joins the aborts of some robots to those of others. -/

namespace Sys2Proof.Machine

/-- One count on a counter raises its total by one, up to the limit, and keeps the other counters (R159). -/
theorem countOn_counters (i k : CounterId) (s : State) :
    (k ≠ i → (countOn i s).counters[k] = s.counters[k])
      ∧ (countOn i s).counters[i].total = min (s.counters[i].total + 1) maxLong := by
  have e : (countOn i s).counters =
      s.counters.set i { s.counters[i] with total := countUpTo maxLong s.counters[i].total }.refresh := by
    unfold countOn storeCounter; dsimp only; split <;> simp
  rw [e]
  refine ⟨fun h => by rw [set_get, if_neg h], ?_⟩
  simp only [set_get, if_true, Counter.refresh, countUpTo]
  split <;> rfl

theorem countOn_congr (i : CounterId) {s t : State} (h : t.counters = s.counters) :
    (countOn i t).counters = (countOn i s).counters := by
  unfold countOn storeCounter; rw [h]; dsimp only; split <;> simp

/-- Editing a slot by its ticket keeps head, next ticket, length, tallies and every ticket. -/
theorem editSlot_track (t : Half) (f : Slot → Slot) (s : State) :
    (editSlot t f s).track.head = s.track.head ∧ (editSlot t f s).track.nextTicket = s.track.nextTicket
      ∧ (editSlot t f s).track.length = s.track.length ∧ (editSlot t f s).track.tallies = s.track.tallies
      ∧ ∀ q : Nat, ((editSlot t f s).slotAt q).ticket = (s.slotAt q).ticket := by
  unfold editSlot; split <;> simp

/-- Positions 128 apart are one place of the ring. -/
theorem slotAt_mod (s : State) (p : Nat) : s.slotAt (p % 128) = s.slotAt p := by
  
  have e : ringIndex s.track.head (p % 128) = ringIndex s.track.head p := Fin.ext (by simp [ringIndex])
  unfold State.slotAt; simp only [e]

/-- A position that a ticket names lies on the ring. -/
theorem positionOf_lt {s : State} {t : Half} {p : Nat} (h : s.positionOf t = some p) : p < 128 := by
  unfold State.positionOf at h
  obtain ⟨hp, i, hi, he, least⟩ := List.find?_eq_some_iff_getElem.1 h
  simp only [List.getElem_range] at he
  subst he
  by_contra far
  have := least (i % 128) (by omega)
  simp only [List.getElem_range, slotAt_mod, hp] at this
  contradiction

/-- Two states whose tracks have one length and the same tickets find a ticket at the same position. -/
theorem positionOf_congr {s t : State} (hl : t.track.length = s.track.length)
    (ht : ∀ q : Nat, (t.slotAt q).ticket = (s.slotAt q).ticket) (k : Half) : t.positionOf k = s.positionOf k := by
  unfold State.positionOf; rw [hl]; simp only [ht]

theorem abortJob_none {r : RobotId} {s : State} (h : s.robots[r].job = none) : abortJob r s = s := by
  unfold abortJob failJob; rw [h]

/-- What a command's entry does to the bus depends on the bus and the robots alone. -/
theorem raiseCommand_congr (r : RobotId) (c : BusCommand) {s t : State} (hr : t.robots = s.robots) (hb : t.bus = s.bus) :
    (raiseCommand r c t).bus = (raiseCommand r c s).bus := by
  unfold raiseCommand passMoment State.mapQueue State.newEntry
  rw [hr, hb]; split <;> simp [hb]

/-- What an edit of a slot does to the track depends on the track alone. -/
theorem editSlot_congr (k : Half) (f : Slot → Slot) {s t : State} (h : t.track = s.track) :
    (editSlot k f t).track = (editSlot k f s).track := by
  cases s; cases t; dsimp only at h; subst h
  unfold editSlot State.positionOf editSlotAt putSlot State.slotAt
  dsimp only; generalize List.find? _ _ = o; cases o <;> rfl

/-- What the abort of a robot's job leaves of each part it touches (R78). -/
theorem abortJob_parts {r : RobotId} {j : Job} {s : State} (h : s.robots[r].job = some j) :
    (abortJob r s).robots = s.robots.set r { s.robots[r] with job := none }
      ∧ (abortJob r s).doses = s.doses.set r (abortedDose s r j)
      ∧ (abortJob r s).counters = (if j.opened = true then (countOn (cycleCounter r) s).counters else s.counters)
      ∧ (abortJob r s).bus = (raiseCommand r .fillAbort s).bus
      ∧ (abortJob r s).track = (editSlot j.ticket (abortedSlot s r j) s).track := by
  unfold abortJob failJob
  rw [h]
  dsimp only
  refine ⟨?_, ?_, ?_, ?_, ?_⟩
  · split <;> simp [dropJob, State.mapRobot, updateAt, recordFill_frame, raiseCommand_frame, countOn_frame, editSlot_frame]
  · split <;> rename_i ho <;>
      simp [dropJob_frame, recordFill, State.mapDose, updateAt, raiseCommand_frame, countOn_frame, editSlot_frame, ho,
        abortedDose, Dose.drive] <;> split <;> simp_all
  · split <;> simp [dropJob_frame, recordFill_frame, raiseCommand_frame, editSlot_frame]
    exact countOn_congr _ (by simp [editSlot_frame])
  · split <;> simp only [dropJob_frame, recordFill_frame] <;>
      exact raiseCommand_congr _ _ (by simp [countOn_frame, editSlot_frame]) (by simp [countOn_frame, editSlot_frame])
  · split <;> rename_i ho <;> simp only [dropJob_frame, recordFill_frame, raiseCommand_frame, countOn_frame] <;>
      rw [editSlot_congr (s := s) _ _ (by simp)] <;> congr 2 <;>
      funext sl <;> simp [writeFailure, abortedSlot, ho] <;> rfl

/-- FILL_ABORT raised for a robot is among its entries, whatever its mode (R85). -/
theorem raiseCommand_fillAbort (r : RobotId) (s : State) :
    ∃ e ∈ (raiseCommand r .fillAbort s).bus.queues[r].entries, e.command = .fillAbort := by
  refine ⟨s.newEntry .fillAbort, ?_, rfl⟩
  simp only [raiseCommand, ne_eq, not_true, and_false, if_false, passMoment, mapQueue_get, if_true]
  unfold RobotQueue.enter RobotQueue.entries
  (repeat' split) <;> simp

/-- Editing a slot by a ticket edits the slot at the position the ticket names, and no other. -/
theorem slotAt_editSlot (k : Half) (f : Slot → Slot) (s : State) (hf : ∀ sl, (f sl).ticket = sl.ticket) {q : Nat}
    (hq : q < 128) :
    (editSlot k f s).slotAt q = if s.positionOf k = some q then f (s.slotAt q) else s.slotAt q := by
  unfold editSlot
  cases h : s.positionOf k with
  | none => simp
  | some p =>
    simp only [slotAt_editSlotAt _ _ _ _ (positionOf_lt h) hq, Option.some.injEq]
    by_cases e : q = p
    · subst e; simp only [if_true, ← hf (s.slotAt q)]
    · simp [e, Ne.symm e]

/-- The abort of a robot's job is the abort of that job alone (R78). -/
theorem jobsAborted_abortJob (r : RobotId) (s : State) :
    jobsAborted (fun q => decide (q = r)) s (abortJob r s) := by
  cases h : s.robots[r].job with
  | none =>
    have none_of {q : RobotId} {j : Job} (hq : decide (q = r) = true) (hj : j ∈ s.robots[q].job) : False := by
      rw [of_decide_eq_true hq, h] at hj; contradiction
    rw [abortJob_none h]
    exact ⟨⟨fun _ _ => rfl, fun q => ⟨fun hq j hj => (none_of hq hj).elim, fun _ => ⟨rfl, rfl⟩⟩⟩, rfl, rfl, rfl, rfl,
      fun p _ => ⟨fun q hq j hj => (none_of hq hj).elim, fun _ => rfl⟩⟩
  | some j =>
    obtain ⟨-, doses, counters, bus, track⟩ := abortJob_parts h
    have one (i : CounterId) (hi : i ≠ cycleCounter r) : (abortJob r s).counters[i] = s.counters[i] := by
      rw [counters]; split
      · exact (countOn_counters _ _ _).1 hi
      · rfl
    have slots (p : Nat) (hp : p < 128) : (abortJob r s).slotAt p =
        if s.positionOf j.ticket = some p then abortedSlot s r j (s.slotAt p) else s.slotAt p := by
      rw [← slotAt_editSlot j.ticket (abortedSlot s r j) s (fun _ => rfl) hp]; unfold State.slotAt; simp only [track]
    obtain ⟨head, ticket, length, tallies, -⟩ := editSlot_track j.ticket (abortedSlot s r j) s
    refine ⟨⟨fun i hi => one i fun e => ?_, fun q => ⟨fun hq k hk => ?_, fun hq => ?_⟩⟩, by rw [track, head],
      by rw [track, ticket], by rw [track, length], by rw [track, tallies], fun p hp => ⟨fun q hq k hk at_p => ?_, fun hn => ?_⟩⟩
    · subst e; simp only [cycleCounter] at hi; omega
    · obtain rfl := of_decide_eq_true hq
      rw [h] at hk; cases hk
      refine ⟨by rw [doses, set_get, if_pos rfl], fun ho => ?_, fun ho => by rw [counters]; simp [ho], ?_⟩
      · rw [counters, if_pos ho]; exact (countOn_counters _ (cycleCounter q) s).2
      · rw [bus]; exact raiseCommand_fillAbort _ _
    · have hqr : q ≠ r := by
        rintro rfl; rcases hq with hq | hq
        · simp at hq
        · rw [h] at hq; contradiction
      exact ⟨by rw [doses, set_get, if_neg hqr], one _ fun e => hqr (Fin.ext (by simpa [cycleCounter] using e))⟩
    · obtain rfl := of_decide_eq_true hq
      rw [h] at hk; cases hk
      exact ⟨q, by simp, j, h, rfl, by rw [slots p hp, if_pos at_p]⟩
    · rw [slots p hp, if_neg (hn r (by simp) j h)]

/-- The slot at the position a ticket names carries it (R12). -/
theorem positionOf_ticket {s : State} {k : Half} {p : Nat} (h : s.positionOf k = some p) : (s.slotAt p).ticket = k := by
  simpa using List.find?_some h

/-- Aborts change no slot's ticket, so every ticket stays at its position (R12). -/
theorem slotsAborted_positionOf {a : RobotId → Bool} {s t : State} (h : slotsAborted a s t) (k : Half) :
    t.positionOf k = s.positionOf k := by
  obtain ⟨-, -, length, -, slots⟩ := h
  refine positionOf_congr length (fun q => ?_) k
  rw [← slotAt_mod t q, ← slotAt_mod s q]
  obtain ⟨marked, kept⟩ := slots (q % 128) (by omega)
  by_cases e : ∃ r : RobotId, a r = true ∧ ∃ j ∈ s.robots[r].job, s.positionOf j.ticket = some (q % 128)
  · obtain ⟨r, hr, j, hj, at_p⟩ := e
    obtain ⟨_, _, _, _, _, e⟩ := marked r hr j hj at_p
    rw [e]; rfl
  · rw [kept fun r hr j hj at_p => e ⟨r, hr, j, hj, at_p⟩]

/-- Aborts of some robots' jobs, and then of others', are the aborts of all of them. -/
theorem jobsAborted_trans {a b : RobotId → Bool} {s t u : State} (h1 : jobsAborted a s t) (h2 : jobsAborted b t u)
    (jobs : ∀ r : RobotId, t.robots[r].job = if a r = true then none else s.robots[r].job)
    (told : ∀ r : RobotId, (∃ e ∈ t.bus.queues[r].entries, e.command = .fillAbort) →
      ∃ e ∈ u.bus.queues[r].entries, e.command = .fillAbort) :
    jobsAborted (fun r => a r || b r) s u := by
  have place := slotsAborted_positionOf h1.2
  obtain ⟨⟨c1, f1⟩, head1, ticket1, length1, tallies1, s1⟩ := h1
  obtain ⟨⟨c2, f2⟩, head2, ticket2, length2, tallies2, s2⟩ := h2
  -- A job that is still held at t was not aborted before t, and its fill stands as at s.
  have held {r : RobotId} {j : Job} (hj : j ∈ t.robots[r].job) :
      a r = false ∧ j ∈ s.robots[r].job ∧ t.doses[r] = s.doses[r] := by
    have := jobs r
    cases ha : a r with
    | true => rw [ha, if_pos rfl] at this; rw [this] at hj; contradiction
    | false => rw [ha, if_neg (by simp)] at this; exact ⟨rfl, this ▸ hj, ((f1 r).2 (.inl ha)).1⟩
  have kept {r : RobotId} {j : Job} (ha : a r = false) (hj : j ∈ s.robots[r].job) : j ∈ t.robots[r].job := by
    rw [jobs r, ha]; simpa using hj
  refine ⟨⟨fun i hi => (c2 i hi).trans (c1 i hi), fun r => ⟨fun hr j hj => ?_, fun hr => ?_⟩⟩, head2.trans head1,
    ticket2.trans ticket1, length2.trans length1, tallies2.trans tallies1, fun p hp => ⟨fun r hr j hj at_p => ?_, fun hn => ?_⟩⟩
  · cases ha : a r with
    | true =>
      obtain ⟨d, o, n, e⟩ := (f1 r).1 ha j hj
      obtain ⟨d', c'⟩ := (f2 r).2 (.inr (by rw [jobs r, ha]; rfl))
      exact ⟨d'.trans d, fun ho => by rw [c']; exact o ho, fun ho => c'.trans (n ho), told r e⟩
    | false =>
      obtain ⟨d', c'⟩ := (f1 r).2 (.inl ha)
      obtain ⟨d, o, n, e⟩ := (f2 r).1 (by simpa [ha] using hr) j (kept ha hj)
      exact ⟨by rw [d]; simp only [abortedDose, d'], fun ho => by rw [o ho, c'], fun ho => (n ho).trans c', e⟩
  · have quiet : a r = false ∨ s.robots[r].job = none := hr.imp_left fun h => (Bool.or_eq_false_iff.1 h).1
    have quiet' : b r = false ∨ t.robots[r].job = none := by
      rcases hr with h | h
      · exact .inl (Bool.or_eq_false_iff.1 h).2
      · exact .inr (by rw [jobs r, h]; split <;> rfl)
    obtain ⟨d, c⟩ := (f1 r).2 quiet
    obtain ⟨d', c'⟩ := (f2 r).2 quiet'
    exact ⟨d'.trans d, c'.trans c⟩
  · obtain ⟨marked, keep⟩ := s1 p hp
    obtain ⟨marked', keep'⟩ := s2 p hp
    by_cases later : ∃ q : RobotId, b q = true ∧ ∃ k ∈ t.robots[q].job, t.positionOf k.ticket = some p
    · obtain ⟨q, hq, k, hk, at_k⟩ := later
      obtain ⟨q2, hq2, k2, hk2, same, e⟩ := marked' q hq k hk at_k
      obtain ⟨-, hs, flow⟩ := held hk2
      refine ⟨q2, by simp [hq2], k2, hs, ?_, ?_⟩
      · rw [same, ← positionOf_ticket ((place _).symm.trans at_k), positionOf_ticket at_p]
      · rw [e]
        by_cases first : ∃ q : RobotId, a q = true ∧ ∃ k ∈ s.robots[q].job, s.positionOf k.ticket = some p
        · obtain ⟨q1, hq1, k1, hk1, at1⟩ := first
          obtain ⟨q3, -, k3, -, -, e3⟩ := marked q1 hq1 k1 hk1 at1
          rw [e3]; simp [abortedSlot, flow, BitVec.or_assoc]
        · rw [keep fun q hq k hk at_k => first ⟨q, hq, k, hk, at_k⟩]; simp [abortedSlot, flow]
    · rw [keep' fun q hq k hk at_k => later ⟨q, hq, k, hk, at_k⟩]
      cases ha : a r with
      | true =>
        obtain ⟨q, hq, k, hk, same, e⟩ := marked r ha j hj at_p
        exact ⟨q, by simp [hq], k, hk, same, e⟩
      | false => exact (later ⟨r, by simpa [ha] using hr, j, kept ha hj, (place _).trans at_p⟩).elim
  · rw [(s2 p hp).2 fun r hr j hj at_p => ?_, (s1 p hp).2 fun r hr j hj at_p => hn r (by simp [hr]) j hj at_p]
    exact hn r (by simp [hr]) j (held hj).2.1 ((place _).symm.trans at_p)

end Sys2Proof.Machine
end

