-- ==== Sys2Proof/WellFormed.lean ====
section
/-! DEFINITION. WellFormed.lean: the checks a command must pass to name a step of the part. The operand types rule
out units that do not exist; three rows name an occurrence that only some operand values bring about. -/

namespace Sys2Proof

/-- The status bytes STATUS records know: READY and NOT_READY (11.4, R31). -/
abbrev knownStatusValue (v : Byte) : Bool := v == 1 || v == 2

/-- The LEN bytes a frame may carry (R176). -/
abbrev lenInRange (v : Byte) : Bool := decide (3 ≤ v.toNat) && decide (v.toNat ≤ 240)

/-- A well-formed command: STATUS_UNKNOWN_VALUE carries a value that is neither READY nor NOT_READY (R31),
LENGTH_ABANDON carries a byte outside 3..240 (R176), and a POLL that was not acknowledged returns no bytes (R82). -/
def Instr.wellFormed : Instr → Bool
  | .statusUnknownValue _ v => !knownStatusValue v
  | .lengthAbandon v => !lenInRange v
  | .pollDone acked st code => acked || (st == 0 && code == 0)
  | _ => true

end Sys2Proof
end

