-- ==== Sys2Proof/Tests/Slice0.lean ====
section
/-! SUPPORT. Tests/Slice0.lean: the author's checks: ill-formed commands that WellFormed refuses, numbers the manual works
out, and for every statement with hypotheses a state and operands that meet them, clause by clause. -/

namespace Sys2Proof.Tests

open Sys2Proof.Machine

set_option Elab.async false

/-! ## WellFormed: an ill-formed command for each check -/

theorem test_wellformed_status_value : (Instr.statusUnknownValue 0 1).wellFormed = false
    ∧ (Instr.statusUnknownValue 0 2).wellFormed = false ∧ (Instr.statusUnknownValue 0 3).wellFormed = true := by decide +kernel

theorem test_wellformed_length : (Instr.lengthAbandon 3).wellFormed = false ∧ (Instr.lengthAbandon 240).wellFormed = false
    ∧ (Instr.lengthAbandon 2).wellFormed = true ∧ (Instr.lengthAbandon 241).wellFormed = true := by decide +kernel

theorem test_wellformed_poll : (Instr.pollDone false 1 0).wellFormed = false ∧ (Instr.pollDone false 0 1).wellFormed = false
    ∧ (Instr.pollDone false 0 0).wellFormed = true := by decide +kernel

/-! ## Numbers the manual works out -/

/-- R178: the check of the nine characters "123456789" is 0x29B1. -/
theorem test_frame_check :
    frameCheck [0x31, 0x32, 0x33, 0x34, 0x35, 0x36, 0x37, 0x38, 0x39] = 0x29B1 := by decide +kernel

/-- The recipe of section 5.7. -/
def recipe : Recipe :=
  { target := 5000, kFactor := 40000, underTol := 20, overTol := 30, minOpen := 50, afterflowMax := 600, shift := 2
    settle := 80, initial := 300 }

/-- Section 5.7: N 20,000, â 313, C 19,687; V 5,002 and 4,996; E 5,038, then 4,979. -/
theorem test_worked_fill :
    closeCalc recipe 5000 = { targetPulses := 20000, rounded := 313, count := 19687 }
      ∧ fillVolume 20009 40000 = 5002 ∧ fillVolume 19985 40000 = 4996
      ∧ learnedEstimate recipe 322 5000 = 5038 ∧ learnedEstimate recipe 300 5038 = 4979 := by decide +kernel

/-- Section 5.8: the clamped close count 4, the volumes 620, 5,275 and 10,485,750, the clamp at Amax, the truncation toward
zero, and the outlier thresholds. -/
theorem test_worked_limits :
    (closeCalc { recipe with target := 100, kFactor := 1000, minOpen := 4 } 800).count = 4
      ∧ fillVolume 62 1000 = 620 ∧ fillVolume 21100 40000 = 5275 ∧ fillVolume 1048575 1000 = 10485750
      ∧ learnedEstimate { recipe with afterflowMax := 300, shift := 0 } 320 4700 = 4800
      ∧ learnedEstimate recipe 311 4979 = 4979 ∧ learnedEstimate recipe 310 4979 = 4975
      ∧ isOutlier 1415 5038 = true ∧ isOutlier 80 0 = true ∧ isOutlier 64 0 = false := by decide +kernel

/-! ## States for the witnesses -/

/-- The state a command answers. -/
def after (r : Result) : State :=
  match r with
  | .next t => t
  | .fault _ => State.reset
  | .refused _ => State.reset

/-- A short track, so that what is said of every slot is soon looked through. -/
def short : State := { State.reset with track := { State.reset.track with length := 16 } }

/-- RUN is high. -/
def running (s : State) : State := { s with pins := { s.pins with run := true } }

/-- An enabled camera at position 3 that is READY. -/
def camera : Camera :=
  { Camera.reset with
    cfg := { enabled := true, position := 3, phase := 0, mask := 1, required := true, deadline := 2 }, state := .ready }

/-- An enabled gate at position 10. -/
def gate : Gate := { Gate.reset with cfg := { Gate.reset.cfg with enabled := true, position := 10 } }

def withCamera (c : Camera) : State := { short with cameras := short.cameras.set 0 c }

def withGate (g : Gate) : State := { short with gates := short.gates.set 0 g }

/-- The slot at position p holds the record, but for its ticket. -/
def withSlot (p : Nat) (sl : Slot) (s : State) : State := putSlot p { sl with ticket := (s.slotAt p).ticket } s

/-- A slot that waits for camera 0. -/
def awaiting : Slot :=
  { Slot.fresh 0 with occupancy := .occupied, verdicts := [{ camera := 0, verdict := .awaited }] }

def withRobot (r : Robot) (d : Dose) (s : State) : State :=
  { s with robots := s.robots.set 0 r, doses := s.doses.set 0 d }

/-- A job on the slot at position 1 in the given state, with the given timers. -/
def job (st : JobState) (settleTimer noFlowTimer : Nat) : Job :=
  { ticket := (short.slotAt 1).ticket, state := st, opened := st != .approach, recipe := recipe
    close := if st = .approach then none else some { targetPulses := 20000, rounded := 313, count := 19687 }
    settleTimer := settleTimer, noFlowTimer := noFlowTimer }

/-- Robot 0 in PRODUCTION with the job. -/
def busyRobot (j : Job) : Robot := { Robot.reset 0 with mode := .production, armed := true, job := some j }

/-- The Dose Unit of that robot. -/
def busyDose (j : Job) : Dose :=
  { Dose.reset with
    active := some recipe, estimate := 5000, flow := 19000, valve := j.state == .filling
    window := j.state != .approach }

/-- The power is on and group 0 is CLOSED. -/
def powered (s : State) : State :=
  { s with
    pins := { s.pins with msa := true, msb := false, mirror := s.pins.mirror.set 0 true }
    mainSwitch := { state := .on, alike := none, latch := false }
    groups := s.groups.set 0 { state := .closed, timer := none } }

/-- A fill under way. -/
def filling (j : Job) : State := withRobot (busyRobot j) (busyDose j) (powered short)

/-- A grant of number 1 over zone 1. -/
def grant (kind : GrantKind) (st : GrantState) : Grant :=
  { number := 1, kind := kind, zones := if kind = .cabinet then 15 else 2, badge := 9, duration := 1, drainStart := 0
    expiry := 60, drainTimer := 0, state := st, doorOpened := true }

def granted (g : Grant) (s : State) : State :=
  { s with access := { s.access with grants := s.access.grants.set 0 (some g), nextNumber := 2 } }

/-- A fill under way in zone 0, a grant over zone 1, and an event in the queue. -/
def busy : State :=
  raiseEvent .strayMotion 0 0 0 (granted (grant .zoneEntry .isOpen) (filling (job .filling 0 0)))

/-- A bus on which the transaction runs. -/
def sending (t : Transaction) (s : State) : State := { s with bus := { s.bus with transaction := some t } }

/-- One entry in robot 0's queue. -/
def entry (c : BusCommand) : BusEntry := { serial := 5, turn := 5, command := c, failed := false }

def queued (places : List BusEntry) (s : State) : State :=
  { s with bus := { s.bus with queues := s.bus.queues.set 0 { places := places, waiting := [] } } }

/-! ## The queue, the invariants and the rules over every command -/

theorem test_step_hypotheses :
    { short with pending := [Instr.strayEdge, .msTick] }.pending = .strayEdge :: [.msTick] ∧ State.reset.pending = [] :=
  ⟨rfl, rfl⟩

/-- A step from a state with a fill, a grant and an event keeps to a next state. -/
theorem test_invariants_step : ∃ t : State, step { busy with pending := [.strayEdge] } = .next t := ⟨_, rfl⟩

theorem test_tickets_hypotheses : ticketsConsecutive busy := by unfold ticketsConsecutive; decide +kernel

theorem test_events_hypotheses : eventsInOrder busy ∧ accountHolds busy := by
  unfold eventsInOrder accountHolds; decide +kernel

theorem test_addresses_hypotheses : addressesDistinct busy := by unfold addressesDistinct; decide +kernel

theorem test_counters_hypotheses : countersComputed busy := by unfold countersComputed; decide +kernel

/-- What fillsPowered says of a robot, on a job that is known. -/
theorem test_fills_hypotheses : coilsSwitched busy ∧ fillsPowered busy := by
  refine ⟨by unfold coilsSwitched; decide +kernel, ?_⟩
  have others : ∀ r : RobotId, r ≠ 0 →
      busy.robots[r].job = none ∧ busy.doses[r].valve = false ∧ busy.doses[r].window = false := by decide +kernel
  have first : busy.robots[(0 : RobotId)].job = some (job .filling 0 0) := by decide +kernel
  intro r
  by_cases h : r = 0
  · subst h
    rw [first]
    refine ⟨?_, ?_, ?_⟩
    · rintro j ⟨⟩; decide +kernel
    · exact ⟨fun _ => ⟨_, rfl, rfl⟩, fun _ => by decide +kernel⟩
    · exact ⟨fun _ => ⟨_, rfl, by decide +kernel⟩, fun _ => by decide +kernel⟩
  · obtain ⟨hj, hv, hw⟩ := others r h
    rw [hj, hv, hw]
    simp

theorem test_grants_hypotheses : grantsDistinct busy ∧ grantedZonesUnpowered busy := by
  have others : ∀ i : PlaceId, i ≠ 0 → busy.access.grants[i] = none := by decide +kernel
  have first : busy.access.grants[(0 : PlaceId)] = some (grant .zoneEntry .isOpen) := by decide +kernel
  have only : ∀ (i : PlaceId) (g : Grant), busy.access.grants[i] = some g → i = 0 ∧ g = grant .zoneEntry .isOpen := by
    intro i g h
    by_cases hi : i = 0
    · subst hi; rw [first] at h; exact ⟨rfl, (Option.some.inj h).symm⟩
    · rw [others i hi] at h; cases h
  refine ⟨⟨by decide +kernel, ?_⟩, ?_⟩
  · intro i g h
    obtain ⟨rfl, rfl⟩ := only i g h
    refine ⟨by decide +kernel, by decide +kernel, by decide +kernel, ?_⟩
    intro k y hk
    obtain ⟨rfl, rfl⟩ := only k y hk
    decide +kernel
  · intro i g h
    obtain ⟨rfl, rfl⟩ := only i g h
    decide +kernel

/-- Every counter loaded, and group 0 OPEN with the power on. -/
def ready : State :=
  { powered short with
    groups := short.groups
    pins := { short.pins with msa := true, msb := false }
    counters := Vector.replicate 28 { Counter.reset with total := 3, state := .normal } }

theorem test_coils_hypotheses :
    ∃ t : State, exec (.groupClose 7 0) ready = .next t ∧ coil ready 0 = false ∧ coil t 0 = true :=
  ⟨after (exec (.groupClose 7 0) ready), rfl, by decide +kernel, by decide +kernel⟩

/-- A total that falls: by COUNTER_RESET under a grant over the counter's zone, and by power-on reset. -/
theorem test_totals_hypotheses :
    let s := granted (grant .zoneEntry .isOpen) ready
    countersComputed s
      ∧ (∃ t : State, exec (.counterReset 7 2) s = .next t ∧ t.counters[(2 : CounterId)].total < s.counters[(2 : CounterId)].total)
      ∧ ∃ t : State, exec (.powerOnReset true false) s = .next t
        ∧ t.counters[(2 : CounterId)].total < s.counters[(2 : CounterId)].total :=
  ⟨by unfold countersComputed; decide +kernel,
    ⟨after (exec (.counterReset 7 2) (granted (grant .zoneEntry .isOpen) ready)), rfl, by decide +kernel⟩,
    ⟨after (exec (.powerOnReset true false) (granted (grant .zoneEntry .isOpen) ready)), rfl, by decide +kernel⟩⟩

/-- The request of a frame that waits: it energises a coil, and clears a total under a grant. -/
theorem test_taken_hypotheses :
    let buffered (f : Frame) (s : State) : State := { s with link := { s.link with buffer := [f] } }
    coil (after (exec .requestTaken (buffered ⟨0x30, 7, [0]⟩ ready))) 0 = true
      ∧ (after (exec .requestTaken (buffered ⟨0x62, 7, [2]⟩ (granted (grant .zoneEntry .isOpen) ready)))).counters[(2 : CounterId)].total
        = 0 ∧ ready.counters[(2 : CounterId)].total = 3 ∧ ready.link.sending = none := by decide +kernel

/-- The receive buffer holds the frames, and a reply is still to be sent or not. -/
def linked (frames : List Frame) (sending : Option Reply) : State :=
  { short with link := { short.link with buffer := frames, sending := sending } }

/-- A reply still to be sent. -/
def unsent : Option Reply := some { kind := 0x81, tag := 0, code := .ok, fields := [] }

/-- A request that is refused, and one that is not; and a link that is not idle, with room in the buffer and without. -/
theorem test_refused_hypotheses :
    requestFrame (.trackRead 7 200) = some ⟨0x14, 7, [200]⟩ ∧ short.link.sending = none ∧ short.link.buffer = []
      ∧ (∃ (t : State) (r : Reply), exec (.trackRead 7 200) short = .next t ∧ t.link.sending = some r ∧ r.code ≠ .ok)
      ∧ (∃ (t : State) (r : Reply), exec (.ident 7) short = .next t ∧ t.link.sending = some r ∧ r.code = .ok)
      ∧ (linked [] unsent).link.sending ≠ none ∧ (linked [] unsent).link.buffer.length < 2
      ∧ (linked [⟨1, 0, []⟩] none).link.buffer ≠ [] ∧ (linked [⟨1, 0, []⟩] none).link.buffer.length < 2
      ∧ 2 ≤ (linked [⟨1, 0, []⟩, ⟨2, 0, []⟩] unsent).link.buffer.length :=
  ⟨rfl, rfl, rfl, ⟨_, _, rfl, rfl, by decide +kernel⟩, ⟨_, _, rfl, rfl, by decide +kernel⟩, by decide +kernel,
    by decide +kernel, by decide +kernel, by decide +kernel, by decide +kernel⟩

/-- R178: a request row waits behind a reply that is still to be sent, and is counted as overrun behind two frames. -/
theorem test_request_waits :
    (after (exec (.ident 7) (linked [] unsent))).link.buffer = [⟨0x01, 7, []⟩]
      ∧ (after (exec (.ident 7) (linked [] unsent))).link.sending = unsent
      ∧ (after (exec (.ident 7) (linked [⟨1, 0, []⟩, ⟨2, 0, []⟩] unsent))).link.overrunErrors = 1 := by decide +kernel

/-- Robot 0 in PRODUCTION with its last status RETRACTED and the given queue, as R70 asks where it is armed. -/
def heldRobot (held armed : Bool) (places : List BusEntry) : State :=
  { queued places
      (withRobot { Robot.reset 0 with mode := .production, armed := armed, held := held, lastStatus := some .retracted }
        { Dose.reset with active := some recipe, estimate := 5000 } (powered short)) with
    counters := Vector.replicate 28 { Counter.reset with total := 3, state := .normal } }

theorem test_settling_hypotheses :
    (∀ i : PlaceId, short.access.grants[i] = none)
      ∧ (∀ r : RobotId, short.robots[r].held = true → available short r = false)
      ∧ (heldRobot true true [entry .hold]).robots[(0 : RobotId)].held = true
      ∧ available (heldRobot true true [entry .hold]) 0 = true
      ∧ (∀ e ∈ (heldRobot true true [entry .hold]).bus.queues[(0 : RobotId)].entries, e.command ≠ .release)
      ∧ (∃ e ∈ (heldRobot true true [entry .release]).bus.queues[(0 : RobotId)].entries, e.command = .release)
      ∧ available (heldRobot true false []) 0 = false ∧ (heldRobot false true []).robots[(0 : RobotId)].held = false := by
  decide +kernel

theorem test_frame_bytes_hypotheses :
    (⟨0x70, 0x1234, List.replicate 237 0xB7⟩ : Frame).fields.length ≤ 237 ∧ short.link.receiver = .hunt
      ∧ short.link.gap = none ∧ short.link.buffer.length < 2
      ∧ { short.link with buffer := [⟨1, 0, []⟩] }.buffer.length < 2 := by decide +kernel

theorem test_request_frames_hypotheses :
    requestFrame (.grantExtend 7 0x1234 480) = some ⟨0x42, 7, [0x34, 0x12, 0xE0, 0x01]⟩
      ∧ short.link.sending = none ∧ { short.link with buffer := [⟨0x42, 7, [0x34, 0x12, 0xE0, 0x01]⟩] }.buffer
        = ⟨0x42, 7, [0x34, 0x12, 0xE0, 0x01]⟩ :: []
      ∧ (linked [⟨0x42, 7, [0x34, 0x12, 0xE0, 0x01]⟩, ⟨1, 0, []⟩] none).link.buffer
        = ⟨0x42, 7, [0x34, 0x12, 0xE0, 0x01]⟩ :: [⟨1, 0, []⟩]
      ∧ requestFrame (.restart 7) = some ⟨0x03, 7, []⟩ := by decide +kernel

/-! ## Resets and time -/

theorem test_resets_hypotheses : (∀ d : DoorId, busy.pins.doors[d] = false) ∧ busy.linkIdle = true
    ∧ (∃ up baud : Bool, Instr.powerOnReset true false = .powerOnReset up baud)
    ∧ ∃ tag : Half, Instr.restart 7 = .restart tag :=
  ⟨by decide +kernel, by decide +kernel, ⟨_, _, rfl⟩, ⟨_, rfl⟩⟩

/-- The times at which the clauses of the tick meet. -/
def timed (ms : Nat) (staged : Option Long) : State := { short with time := { short.time with ms := ms, staged := staged } }

theorem test_tick_hypotheses : (timed 998 none).time.ms < 999 ∧ (timed 999 (some 5)).time.ms = 999
    ∧ (timed 999 (some 5)).time.staged = some 5 ∧ (timed 999 (some 5)).events.queue.length < 64
    ∧ (timed 998 none).time.ms ≠ 999 ∧ (timed 1000 none).time.ms ≠ 999 := by decide +kernel

/-- Every timer runs, one tick short of its limit, with a drain, an isolation that waits for its group, and an overdue grant. -/
def brink : State :=
  let s := filling (job .filling 78 198)
  { s with
    pins := { s.pins with run := true, msa := true, msb := true, feedback := s.pins.feedback.set 1 false }
    cameras := s.cameras.set 0 { camera with silence := 1998 }
    gates := s.gates.set 0 { gate with output := some 2 }
    robots := s.robots.set 0 { s.robots[(0 : RobotId)] with pollTimer := 3 }
    doses := s.doses.set 0 { s.doses[(0 : RobotId)] with check := some 48 }
    counters := s.counters.set 8 { s.counters[(8 : CounterId)] with remainder := 998 }
    mainSwitch := { s.mainSwitch with alike := some 29 }
    groups := (s.groups.set 0 { state := .closed, timer := some 29 }).set 1 { state := .opening, timer := some 29 }
    access :=
      { s.access with
        grants := ((s.access.grants.set 0 (some { grant .zoneEntry .draining with zones := 1, drainTimer := 9998 })).set 1
          (some { grant .zoneEntry .isolating with number := 2 })).set 2
          (some { grant .zoneEntry .overdue with number := 3, zones := 8 })
        nextNumber := 4 }
    link := { s.link with gap := some 2 }
    time := { s.time with ms := 998 } }

theorem test_quiet_tick_hypotheses :
    brink.time.ms < 999 ∧ brink.time.ahead = [] ∧ (∀ n : CameraId, brink.cameras[n].silence < 1999)
      ∧ (∀ (g : GateId) (left : Nat), brink.gates[g].output = some left → 2 ≤ left)
      ∧ (∀ (r : RobotId) (j : Job), brink.robots[r].job = some j → j.noFlowTimer < 199
        ∧ j.settleTimer + 1 < j.recipe.settle)
      ∧ (∀ r : RobotId, brink.robots[r].pollTimer < 4)
      ∧ (∀ (r : RobotId) (ms : Nat), brink.doses[r].check = some ms → ms < 49)
      ∧ (∀ r : RobotId, brink.doses[r].check = none → brink.pins.feedback[r] = brink.doses[r].valve)
      ∧ (∀ r : RobotId, brink.counters[valveCounter r].remainder < 999)
      ∧ (∀ ms : Nat, brink.mainSwitch.alike = some ms → ms < 30)
      ∧ (∀ (g : GroupId) (ms : Nat), brink.groups[g].timer = some ms → ms < 30)
      ∧ (∀ (i : PlaceId) (g : Grant), brink.access.grants[i] = some g →
        (g.state = .draining →
          g.drainTimer < 9999 ∧ ∃ r : RobotId, g.covers brink.robots[r].zone = true ∧ brink.robots[r].job ≠ none)
        ∧ (g.kind ≠ .jog →
          (g.state = .isolating ∨ g.state = .isOpen ∨ g.state = .overdue →
            ∀ z : GroupId, g.covers z = true → brink.groups[z].state ≠ .faultWeld)
          ∧ (g.state = .isolating →
            ∃ z : GroupId, g.covers z = true ∧ brink.groups[z].state ≠ .isOpen
              ∧ (brink.groups[z].state ≠ .faultPullin ∨ brink.pins.mirror[z] = true))))
      ∧ (∀ r : RobotId, brink.robots[r].held = true → available brink r = false)
      ∧ (∀ ms : Nat, brink.link.gap = some ms → ms < 3) := by
  have outputs : ∀ g : GateId, brink.gates[g].output = none ∨ brink.gates[g].output = some 2 := by decide +kernel
  have jobs : ∀ r : RobotId, brink.robots[r].job = none ∨ brink.robots[r].job = some (job .filling 78 198) := by
    decide +kernel
  have checks : ∀ r : RobotId, brink.doses[r].check = none ∨ brink.doses[r].check = some 48 := by decide +kernel
  have timers : ∀ g : GroupId, brink.groups[g].timer = none ∨ brink.groups[g].timer = some 29 := by decide +kernel
  have grants : ∀ i : PlaceId, brink.access.grants[i] = none
      ∨ brink.access.grants[i] = some { grant .zoneEntry .draining with zones := 1, drainTimer := 9998 }
      ∨ brink.access.grants[i] = some { grant .zoneEntry .isolating with number := 2 }
      ∨ brink.access.grants[i] = some { grant .zoneEntry .overdue with number := 3, zones := 8 } := by decide +kernel
  refine ⟨by decide +kernel, by decide +kernel, by decide +kernel, ?_, ?_, by decide +kernel, ?_, by decide +kernel,
    by decide +kernel, ?_, ?_, ?_, by decide +kernel, ?_⟩
  · intro g left h; rcases outputs g with e | e <;> rw [e] at h <;> cases h; decide
  · intro r j h; rcases jobs r with e | e <;> rw [e] at h <;> cases h; decide +kernel
  · intro r ms h; rcases checks r with e | e <;> rw [e] at h <;> cases h; decide
  · intro ms h; have e : brink.mainSwitch.alike = some 29 := by decide +kernel
    rw [e] at h; cases h; decide
  · intro g ms h; rcases timers g with e | e <;> rw [e] at h <;> cases h; decide
  · intro i g h; rcases grants i with e | e | e | e <;> rw [e] at h <;> cases h <;> decide +kernel
  · intro ms h; have e : brink.link.gap = some 2 := by decide +kernel
    rw [e] at h; cases h; decide


/-! ## The conveyor, the pitch and the track -/

theorem test_stray_hypotheses : short.pins.run = false ∧ short.pitch.stray = false
    ∧ { short.pitch with stray := true }.stray = true := by decide +kernel

/-- A track whose pitch counter stands at a value, with RUN high. -/
def counting (counter : Nat) : State := running { short with pitch := { short.pitch with counter := counter } }

/-- The last edge before the boundary, with a gate whose phase it is and a camera whose phase it is, neither with anything to
do. -/
def lastEdge : State :=
  { counting 1022 with
    gates := short.gates.set 0 { gate with cfg := { gate.cfg with phase := 1023 } }
    cameras := short.cameras.set 0 { camera with cfg := { camera.cfg with phase := 1023 } } }

theorem test_counted_edge_hypotheses :
    lastEdge.pins.run = true ∧ lastEdge.pitch.counter + 1 < lastEdge.pitch.length
      ∧ (∀ g : GateId, lastEdge.gates[g].cfg.phase = lastEdge.pitch.counter + 1 →
        lastEdge.gates[g].pendingFire = none ∨ lastEdge.gates[g].cfg.enabled = false)
      ∧ (∀ n : CameraId, lastEdge.cameras[n].cfg.phase = lastEdge.pitch.counter + 1 →
        (lastEdge.slotAt lastEdge.cameras[n].cfg.position).awaits n = false
          ∨ lastEdge.cameras[n].cfg.enabled = false)
      ∧ short.pins.run = false := by decide +kernel

theorem test_boundary_hypotheses :
    (counting 1023).pins.run = true ∧ (counting 1023).pitch.counter + 1 = (counting 1023).pitch.length
      ∧ (counting 1023).track.length ≤ 128 ∧ 14 + 1 < (counting 1023).track.length := by decide +kernel

theorem test_discharge_hypotheses :
    ({ awaiting with decision := some 1 }.occupancy = .occupied ∧ { awaiting with decision := some 1 }.decision = some 1)
      ∧ (awaiting.occupancy = .occupied ∧ awaiting.decision = none)
      ∧ { awaiting with occupancy := .removed }.occupancy = .removed ∧ (Slot.fresh 0).occupancy = .empty := by
  decide +kernel

theorem test_length_hypotheses : 128 ≤ 128 ∧ short.track.length ≤ 128 ∧ short.track.length ≤ 17 ∧ 0 < short.track.length
    ∧ 16 ≤ 16 ∧ 16 < 17 ∧ 15 + 1 = short.track.length ∧ 14 + 1 < short.track.length ∧ 16 = short.track.length
    ∧ ticketsConsecutive short := by
  unfold ticketsConsecutive; decide +kernel

/-- R41: the seventeenth late number pushes out the oldest. -/
theorem test_late_numbers : (List.range 17).foldl (fun l n => addLate l (BitVec.ofNat 8 n)) []
    = (List.range 16).map fun n => BitVec.ofNat 8 (n + 1) := by decide +kernel

/-! ## Cameras and gates -/

/-- Camera 0 at its phase, with the slot at its position. -/
def atPhase (c : Camera) (sl : Slot) : State := withSlot 3 sl (withCamera c)

/-- A slot that is OCCUPIED and nothing else. -/
def occupied : Slot := { Slot.fresh 0 with occupancy := .occupied }

/-- Camera 0's arrivals, READY and not, and none: an EMPTY slot, a disabled camera, a position past the track. The slot one
past the camera, not outstanding and outstanding, and past the track. -/
theorem test_arrivals_hypotheses :
    let placed (p : Nat) : Camera := { camera with cfg := { camera.cfg with position := p } }
    let arrived (s : State) : Bool :=
      s.cameras[(0 : CameraId)].cfg.enabled && decide (s.cameras[(0 : CameraId)].cfg.position < s.track.length)
        && (s.slotAt s.cameras[(0 : CameraId)].cfg.position).occupancy == .occupied
    let passed (s : State) : Bool :=
      s.cameras[(0 : CameraId)].cfg.enabled && decide (s.cameras[(0 : CameraId)].cfg.position + 1 < s.track.length)
        && s.cameras[(0 : CameraId)].outstanding.all fun o =>
          o.ticket != (s.slotAt (s.cameras[(0 : CameraId)].cfg.position + 1)).ticket
    (arrived (atPhase camera occupied) = true ∧ (atPhase camera occupied).cameras[(0 : CameraId)].state = .ready)
      ∧ (arrived (atPhase { camera with state := .lost } occupied) = true ∧ CameraState.lost ≠ .ready)
      ∧ arrived (atPhase camera (Slot.fresh 0)) = false ∧ arrived (atPhase Camera.reset occupied) = false
      ∧ arrived (withSlot 15 occupied (withCamera (placed 15))) = true ∧ arrived (withCamera (placed 16)) = false
      ∧ passed (withCamera camera) = true ∧ passed (withCamera (placed 14)) = true
      ∧ passed (withCamera (placed 15)) = false
      ∧ passed (withCamera { camera with outstanding := [{ number := 1, ticket := (short.slotAt 4).ticket }] }) = false := by
  decide +kernel

/-- Gate A with a fire that was not made, enabled and disabled, and with none; and the slot at its position with a class of
its mask, rejected already, and neither. -/
theorem test_gate_arrivals_hypotheses :
    let missed : Gate := { gate with pendingFire := some 7 }
    let masked : Gate := { gate with cfg := { gate.cfg with mask := 1 } }
    let chosen (s : State) (g : GateId) : Bool :=
      s.gates[g].cfg.enabled && decide (s.gates[g].cfg.position < s.track.length)
        && (s.slotAt s.gates[g].cfg.position).occupancy == .occupied
        && ((s.slotAt s.gates[g].cfg.position).defects &&& s.gates[g].cfg.mask != 0
          || (s.slotAt s.gates[g].cfg.position).decision.isSome)
    ((withGate missed).gates[(0 : GateId)].pendingFire = some 7 ∧ (withGate missed).gates[(0 : GateId)].cfg.enabled = true)
      ∧ (withGate gate).gates[(0 : GateId)].pendingFire = none ∧ Gate.reset.cfg.enabled = false
      ∧ chosen (withSlot 10 { occupied with defects := 1 } (withGate masked)) 0 = true
      ∧ chosen (withSlot 10 { occupied with decision := some 1 } (withGate gate)) 0 = true
      ∧ chosen (withSlot 10 occupied (withGate masked)) 0 = false
      ∧ chosen (withSlot 10 { occupied with occupancy := .removed, defects := 1 } (withGate masked)) 0 = false := by
  decide +kernel

/-- Fill entry with robot 0 available under each pair of recipes, with no robot available, and with a slot that is not to
be filled. -/
theorem test_fill_entry_hypotheses :
    let at1 (sl : Slot) (d : Dose) : State :=
      let s := withSlot 1 sl (heldRobot false true [])
      { s with doses := s.doses.set 0 d }
    let dose (active staged : Option Recipe) : Dose := { Dose.reset with active := active, staged := staged }
    (heldRobot false false []).robots[(0 : RobotId)].mode = .production
      ∧ (heldRobot false false []).groups[(0 : GroupId)].state = .closed ∧ short.robots[(0 : RobotId)].mode ≠ .production
      ∧ short.groups[(0 : GroupId)].state ≠ .closed
      ∧ ticketsConsecutive (at1 occupied (dose (some recipe) none))
      ∧ (at1 occupied (dose (some recipe) none)).fill.entry = 1 ∧ 1 < (at1 occupied (dose (some recipe) none)).track.length
      ∧ ((at1 occupied Dose.reset).slotAt 1).occupancy = .occupied ∧ ((at1 occupied Dose.reset).slotAt 1).decision = none
      ∧ available (at1 occupied (dose (some recipe) none)) 0 = true
      ∧ available (at1 occupied (dose (some recipe) (some { recipe with shift := 3 }))) 0 = true
      ∧ available (at1 occupied (dose none (some recipe))) 0 = true
      ∧ (∀ q : RobotId, ¬ q < 0) ∧ (∀ r : RobotId, available (withSlot 1 occupied short) r = false)
      ∧ ticketsConsecutive (withSlot 1 occupied short)
      ∧ (short.slotAt 1).occupancy ≠ .occupied ∧ ({ occupied with decision := some 0 } : Slot).decision ≠ none := by
  unfold ticketsConsecutive; decide +kernel

/-- The premise that the camera's phase is reached, on camera 0. -/
def reached (s : State) : Bool :=
  s.cameras[(0 : CameraId)].cfg.enabled && decide (s.pitch.counter = s.cameras[(0 : CameraId)].cfg.phase)
    && decide (s.cameras[(0 : CameraId)].cfg.position < s.track.length)
    && (s.slotAt s.cameras[(0 : CameraId)].cfg.position).awaits 0
    && !s.cameras[(0 : CameraId)].hasOutstanding (s.slotAt s.cameras[(0 : CameraId)].cfg.position).ticket

/-- Fifteen entries, or sixteen, of other slots outstanding. -/
def outstanding (n : Nat) : List Outstanding := List.replicate n { number := 9, ticket := 9 }

theorem test_phase_hypotheses :
    (reached (atPhase { camera with outstanding := outstanding 15 } awaiting) = true ∧ camera.state = .ready
        ∧ awaiting.occupancy = .occupied ∧ (outstanding 15).length < 16)
      ∧ (reached (atPhase { camera with outstanding := outstanding 16 } awaiting) = true ∧ 16 ≤ (outstanding 16).length)
      ∧ (reached (atPhase { camera with state := .lost } awaiting) = true)
      ∧ (reached (atPhase camera { awaiting with occupancy := .removed }) = true)
      ∧ reached (atPhase camera (Slot.fresh 0)) = false := by decide +kernel

theorem test_fire_hypotheses :
    let s := withGate { gate with pendingFire := some (short.slotAt 10).ticket }
    s.gates[(0 : GateId)].pendingFire = some (short.slotAt 10).ticket ∧ s.positionOf (short.slotAt 10).ticket = some 10
      ∧ s.gates[(0 : GateId)].cfg.enabled = true ∧ s.pitch.counter = s.gates[(0 : GateId)].cfg.phase
      ∧ (withGate gate).gates[(0 : GateId)].pendingFire = none
      ∧ (withGate { gate with cfg := { gate.cfg with phase := 1 } }).pitch.counter ≠ 1 := by decide +kernel

theorem test_missing_hypotheses : { awaiting with occupancy := .removed }.occupancy = .removed
    ∧ awaiting.occupancy ≠ .removed ∧ (∃ e ∈ awaiting.verdicts, e.camera = 0 ∧ e.verdict = .awaited)
    ∧ (∀ e ∈ awaiting.verdicts, e.camera = 1 → e.verdict ≠ .awaited)
    ∧ ∀ e ∈ [({ camera := 0, verdict := .missing } : VerdictEntry)], e.camera = 0 → e.verdict ≠ .awaited := by
  decide +kernel

theorem test_deadline_hypotheses :
    ticketsConsecutive (withSlot 5 awaiting (withCamera camera))
      ∧ (withCamera camera).cameras[(0 : CameraId)].cfg.enabled = true
      ∧ (withCamera camera).cameras[(1 : CameraId)].cfg.enabled = false
      ∧ camera.cfg.position + camera.cfg.deadline ≤ 5 ∧ ¬ camera.cfg.position + camera.cfg.deadline ≤ 4 := by
  unfold ticketsConsecutive; decide +kernel

/-- At the deadline an outstanding number goes late; of a full late list the oldest goes (R41, R42). -/
theorem test_deadline_full_late_list :
    let ticket := (short.slotAt 5).ticket
    let sixteen : List Byte := (List.range 16).map fun k => BitVec.ofNat 8 (100 + k)
    let full := { camera with outstanding := [{ number := 1, ticket := ticket }], late := sixteen }
    let after := deadlineCheck 0 (withSlot 5 awaiting (withCamera full))
    after.cameras[(0 : CameraId)].outstanding = []
      ∧ after.cameras[(0 : CameraId)].late = sixteen.drop 1 ++ [1] := by decide +kernel

/-- Camera 0 with the slot at position 4 outstanding under number 1, and number 2 late. -/
def answered : State :=
  withSlot 4 awaiting
    (withCamera { camera with outstanding := [{ number := 1, ticket := (short.slotAt 4).ticket }], late := [2] })

theorem test_verdict_hypotheses :
    answered.cameras[(0 : CameraId)].cfg.enabled = true ∧ answered.cameras[(0 : CameraId)].receiver = .idle
      ∧ (answered.cameras[(0 : CameraId)].outstanding.find? fun o => o.number == 1)
        = some { number := 1, ticket := (short.slotAt 4).ticket }
      ∧ answered.positionOf (short.slotAt 4).ticket = some 4
      ∧ (answered.cameras[(0 : CameraId)].outstanding.find? fun o => o.number == 2) = none
      ∧ (answered.cameras[(0 : CameraId)].outstanding.find? fun o => o.number == 3) = none := by decide +kernel

theorem test_status_hypotheses :
    ticketsConsecutive answered ∧ answered.cameras[(0 : CameraId)].state = .ready
      ∧ (withCamera { camera with state := .lost }).cameras[(0 : CameraId)].state ≠ .ready
      ∧ (0 : Byte) ≠ 1 ∧ (3 : Byte) ≠ 2
      ∧ (running (withCamera { camera with silence := 1999 })).pins.run = true
      ∧ (withCamera { camera with silence := 1999 }).cameras[(0 : CameraId)].silence = 1999 := by
  unfold ticketsConsecutive; decide +kernel

theorem test_port_hypotheses :
    recordOfKind 0x5A = some .verdict ∧ recordOfKind 0x3C = some .status ∧ recordOfKind 0x5B = none
      ∧ (withCamera { camera with receiver := .discarding }).cameras[(0 : CameraId)].receiver = .discarding
      ∧ (withCamera { camera with receiver := .collecting .verdict [1] }).cameras[(0 : CameraId)].receiver
        = .collecting .verdict [1]
      ∧ [(1 : Byte)].length + 1 < RecordKind.verdict.params
      ∧ (withCamera { camera with receiver := .collecting .verdict [1, 2] }).cameras[(0 : CameraId)].receiver
        = .collecting .verdict [1, 2]
      ∧ (withCamera { camera with receiver := .collecting .status [] }).cameras[(0 : CameraId)].receiver
        = .collecting .status []
      ∧ (withCamera camera).cameras[(0 : CameraId)].bits = []
      ∧ (withCamera { camera with bits := List.replicate 6 true }).cameras[(0 : CameraId)].bits.length < 7
      ∧ (withCamera camera).cameras[(1 : CameraId)].cfg.enabled = false := by
  decide +kernel

theorem test_port_idle_hypotheses (k : RecordKind) (ps : List Byte) :
    (withCamera camera).cameras[(0 : CameraId)].receiver ≠ .collecting k ps := by
  rw [show (withCamera camera).cameras[(0 : CameraId)].receiver = .idle by decide +kernel]
  simp

/-- A gate with two entries in its confirm list, the first as old as the window. -/
def confirming : State :=
  withGate
    { gate with
      confirm := [{ ticket := (short.slotAt 12).ticket, age := 2 }, { ticket := (short.slotAt 11).ticket, age := 1 }]
      output := some 1 }

/-- R29: an unknown kind byte within a record, and the last parameter of a verdict. -/
theorem test_port_events :
    ((after (exec (.cameraKindByte 0 0x5B)
        (withCamera { camera with receiver := .collecting .verdict [1] }))).events.queue.map EventRecord.kind)
        = [.brokenRecord, .unknownRecord]
      ∧ ((after (exec (.cameraParameterByte 0 4)
        (withCamera { camera with receiver := .collecting .verdict [9, 0], late := [9] }))).events.queue.map EventRecord.detail2)
        = [1] := by decide +kernel

theorem test_rejects_hypotheses :
    confirming.gates[(0 : GateId)].cfg.enabled = true
      ∧ confirming.gates[(0 : GateId)].confirm =
        { ticket := (short.slotAt 12).ticket, age := 2 } :: [{ ticket := (short.slotAt 11).ticket, age := 1 }]
      ∧ confirming.positionOf (short.slotAt 12).ticket = some 12
      ∧ confirming.gates[(0 : GateId)].confirm =
        [{ ticket := (short.slotAt 12).ticket, age := 2 }] ++ [{ ticket := (short.slotAt 11).ticket, age := 1 }]
      ∧ confirming.gates[(0 : GateId)].cfg.window ≤ 2 ∧ 1 < confirming.gates[(0 : GateId)].cfg.window
      ∧ (withGate gate).gates[(0 : GateId)].confirm = [] ∧ (withGate gate).gates[(1 : GateId)].cfg.enabled = false
      ∧ confirming.gates[(0 : GateId)].output = some 1
      ∧ (withGate { gate with output := some 2 }).gates[(0 : GateId)].output = some (0 + 2)
      ∧ confirming.gates[(0 : GateId)].unconfirmed = 0
      ∧ (withGate { gate with unconfirmed := 1 }).gates[(0 : GateId)].unconfirmed = 1
      ∧ (withGate { gate with unconfirmed := 255, latch := true }).gates[(0 : GateId)].latch = true := by
  decide +kernel


/-! ## The robot bus -/

/-- Commands of robots 0 and 1, and of robot 2 that is LOST. -/
def contended : State :=
  let e (turn : Nat) (c : BusCommand) : BusEntry := { serial := turn, turn := turn, command := c, failed := false }
  { short with
    robots := short.robots.set 2 { Robot.reset 2 with mode := .lost }
    bus :=
      { short.bus with
        queues := ((short.bus.queues.set 0 { places := [e 7 .poll, e 8 .hold], waiting := [] }).set 1
          { places := [e 9 .release], waiting := [] }).set 2 { places := [e 1 .fillAbort], waiting := [] } } }

theorem test_bus_oldest_hypotheses :
    contended.bus.transaction = none ∧ contended.bus.clockHeldBy = none ∧ contended.bus.broadcast = false
      ∧ contended.robots[(0 : RobotId)].mode ≠ .lost
      ∧ (contended.bus.queues[(0 : RobotId)].places.find? fun e => !e.command.isPoll)
        = some { serial := 8, turn := 8, command := .hold, failed := false }
      ∧ ∀ (q : RobotId) (y : BusEntry), q ≠ 0 → contended.robots[q].mode ≠ .lost →
        (contended.bus.queues[q].places.find? fun e => !e.command.isPoll) = some y → 8 < y.turn := by
  refine ⟨by decide +kernel, by decide +kernel, by decide +kernel, by decide +kernel, by decide +kernel, ?_⟩
  have others : ∀ q : RobotId, q ≠ 0 → contended.robots[q].mode ≠ .lost →
      (contended.bus.queues[q].places.find? fun e => !e.command.isPoll) = none
        ∨ (contended.bus.queues[q].places.find? fun e => !e.command.isPoll)
          = some { serial := 9, turn := 9, command := .release, failed := false } := by decide +kernel
  intro q y hq hl h
  rcases others q hq hl with e | e <;> rw [e] at h <;> cases h
  decide

/-- Robot 7 was polled last, so that the round-robin starts at robot 0 and ends at robot 7, whose entry is the only one. -/
def pollOnly : State :=
  { short with bus := { short.bus with queues := short.bus.queues.set 7 { places := [entry .poll], waiting := [] } } }

theorem test_bus_poll_hypotheses :
    pollOnly.bus.broadcast = false
      ∧ (∀ q : RobotId, pollOnly.robots[q].mode = .lost ∨ ∀ y ∈ pollOnly.bus.queues[q].places, y.command = .poll)
      ∧ (∀ l : Fin 8, l < 7 → ∀ y ∈ pollOnly.bus.queues[pollOnly.bus.lastPolled + 1 + l].places, y.command ≠ .poll)
      ∧ (pollOnly.bus.queues[pollOnly.bus.lastPolled + 1 + (7 : Fin 8)].places.find? fun e => e.command.isPoll)
        = some (entry .poll)
      ∧ ((queued [entry .poll] short).bus.queues[short.bus.lastPolled + 1 + (0 : Fin 8)].places.find?
        fun e => e.command.isPoll) = some (entry .poll) := by decide +kernel

theorem test_bus_busy_hypotheses :
    (sending .broadcastHold short).bus.transaction = some .broadcastHold ∧ short.bus.clockHeldBy = none
      ∧ { short.bus with broadcast := true }.broadcast = true
      ∧ { short.bus with clockHeldBy := some (0 : RobotId) }.clockHeldBy ≠ none := by decide +kernel

theorem test_places_hypotheses :
    contended.robots[(2 : RobotId)].mode = .lost ∧ BusCommand.hold ≠ .fillAbort
      ∧ (queued [entry .poll] short).bus.queues[(0 : RobotId)].places.length < 2
      ∧ (queued [entry .poll, entry .poll] short).bus.queues[(0 : RobotId)].places = [entry .poll, entry .poll]
      ∧ (entry .poll).command = .poll
      ∧ (queued [entry .hold, entry .poll] short).bus.queues[(0 : RobotId)].places = [entry .hold, entry .poll]
      ∧ (entry .hold).command ≠ .poll := by decide +kernel

/-- Robot 0 in MANUAL, with a command and a poll queued and the one or the other on the bus. -/
def onBus (c : BusCommand) (failures : Nat) : State :=
  sending (.addressed 0 5 c 0)
    (queued [entry c] (withRobot { Robot.reset 0 with mode := .manual, failures := failures } Dose.reset short))

theorem test_commands_hypotheses :
    (onBus .hold 1).bus.transaction = some (.addressed 0 5 .hold 0) ∧ (onBus .hold 1).bus.clockHeldBy = none
      ∧ BusCommand.hold ≠ .poll ∧ (onBus .hold 1).robots[(0 : RobotId)].mode = .manual
      ∧ (onBus .hold 1).robots[(0 : RobotId)].failures < 2
      ∧ ((onBus .hold 1).bus.queues[(0 : RobotId)].places.find? fun e => e.serial == 5) = some (entry .hold)
      ∧ (entry .hold).failed = false := by decide +kernel

/-- Robot 0 in a mode, with a command on the bus that has failed before or not. -/
def retried (c : BusCommand) (m : RobotMode) (failed : Bool) : State :=
  sending (.addressed 0 5 c 0)
    (queued [{ entry c with failed := failed }] (withRobot { Robot.reset 0 with mode := m } Dose.reset short))

/-- A first failure, a FILL_ABORT that fails again, another command that does, a FILL_ABORT of a robot in OFF, and an entry
that has left its place. -/
theorem test_retries_hypotheses :
    let found (s : State) := s.bus.queues[(0 : RobotId)].places.find? fun e => e.serial == 5
    found (retried .hold .manual false) = some (entry .hold) ∧ (entry .hold).failed = false
      ∧ found (retried .fillAbort .manual true) = some { entry .fillAbort with failed := true }
      ∧ (retried .fillAbort .manual true).robots[(0 : RobotId)].mode ≠ .off
      ∧ found (retried .hold .manual true) = some { entry .hold with failed := true } ∧ BusCommand.hold ≠ .fillAbort
      ∧ found (retried .fillAbort .off true) = some { entry .fillAbort with failed := true }
      ∧ (retried .fillAbort .off true).robots[(0 : RobotId)].mode = .off
      ∧ ∀ e ∈ (sending (.addressed 0 9 .hold 0) (queued [entry .hold] short)).bus.queues[(0 : RobotId)].places,
        e.serial ≠ 9 := by decide +kernel

/-- A LOST robot and one in OFF with their poll, or another transaction, on the bus. -/
theorem test_lost_hypotheses :
    (retried .poll .lost false).robots[(0 : RobotId)].mode = .lost ∧ (retried .poll .off false).robots[(0 : RobotId)].mode = .off
      ∧ (retried .poll .lost false).bus.transaction = some (.addressed 0 5 .poll 0)
      ∧ (retried .poll .lost false).bus.clockHeldBy = none
      ∧ (retried .hold .manual true).bus.transaction = some (.addressed 0 5 .hold 0)
      ∧ (retried .hold .manual true).bus.clockHeldBy = none
      ∧ (sending .broadcastHold short).bus.transaction = some .broadcastHold := by decide +kernel

/-- R66: a robot that holds a job and becomes LOST by a held clock raises ROBOT_LOST with 1 as second detail word. -/
theorem test_lost_with_job :
    let s := sending (.addressed 0 5 .hold 0) (queued [entry .hold] (filling (job .filling 0 0)))
    let near : State := { s with robots := s.robots.set 0 { s.robots[(0 : RobotId)] with failures := 2 } }
    near.robots[(0 : RobotId)].mode = .production ∧ near.robots[(0 : RobotId)].job ≠ none
      ∧ ((after (exec (.clockHoldTimeout 0) near)).events.queue.map fun e => (e.kind, e.detail2))
        = [(.robotLost, 1), (.robotMode, 2)]
      ∧ (after (exec (.clockHoldTimeout 0) near)).bus.clockHeldBy = some 0 := by decide +kernel

theorem test_polls_hypotheses :
    (onBus .poll 1).bus.transaction = some (.addressed 0 5 .poll 0) ∧ (onBus .poll 1).robots[(0 : RobotId)].mode = .manual
      ∧ (onBus .poll 1).robots[(0 : RobotId)].failures < 2 ∧ (1 : Byte) ≠ 0 ∧ 5 < (6 : Byte).toNat := by decide +kernel

theorem test_failures_hypotheses :
    (onBus .poll 2).robots[(0 : RobotId)].mode ≠ .off ∧ (onBus .poll 2).robots[(0 : RobotId)].mode ≠ .lost
      ∧ (onBus .poll 2).robots[(0 : RobotId)].failures = 2 ∧ (onBus .poll 2).robots[(0 : RobotId)].job = none
      ∧ (onBus .poll 2).events.queue.length + 3 ≤ 64 ∧ (onBus .poll 1).robots[(0 : RobotId)].failures < 2
      ∧ { short.bus with clockHeldBy := some (0 : RobotId) }.clockHeldBy = some 0
      ∧ (withRobot { Robot.reset 0 with mode := .manual, pollTimer := 4 } Dose.reset short).robots[(0 : RobotId)].pollTimer
        = 4 ∧ short.time.ahead = [] := by decide +kernel

/-! ## Fills -/

theorem test_start_hypotheses :
    (filling (job .approach 0 0)).robots[(0 : RobotId)].job = some (job .approach 0 0)
      ∧ (job .approach 0 0).state = .approach ∧ (filling (job .approach 0 0)).doses[(0 : RobotId)].valve = false
      ∧ ∀ j : Job, (filling (job .filling 0 0)).robots[(0 : RobotId)].job = some j → j.state ≠ .approach := by
  refine ⟨by decide +kernel, by decide +kernel, by decide +kernel, ?_⟩
  intro j h
  have e : (filling (job .filling 0 0)).robots[(0 : RobotId)].job = some (job .filling 0 0) := by decide +kernel
  rw [e] at h; cases h; decide

/-- The flow count stands at a value. -/
def flowing (flow : Nat) (st : JobState) : State :=
  let s := filling (job st 0 0)
  { s with doses := s.doses.set 0 { s.doses[(0 : RobotId)] with flow := flow } }

/-- The pulse before the closing one, the closing pulse, a pulse in SETTLING at the limit of the count, and a drip. -/
theorem test_flow_hypotheses :
    let f (n : Nat) := min (n + 1) 1048575
    (flowing 19685 .filling).doses[(0 : RobotId)].window = true
      ∧ (flowing 19685 .filling).robots[(0 : RobotId)].job = some (job .filling 0 0)
      ∧ f 19685 < (job .filling 0 0).closing.count ∧ (job .filling 0 0).closing.count ≤ f 19686
      ∧ (flowing 19686 .filling).doses[(0 : RobotId)].valve = true
      ∧ (flowing 1048575 .settling).robots[(0 : RobotId)].job = some (job .settling 0 0)
      ∧ (flowing 1048575 .settling).doses[(0 : RobotId)].window = true
      ∧ short.doses[(0 : RobotId)].window = false := by decide +kernel

theorem test_failed_hypotheses :
    (filling (job .filling 0 0)).robots[(0 : RobotId)].job = some (job .filling 0 0)
      ∧ (filling (job .filling 0 0)).positionOf (job .filling 0 0).ticket = some 1 ∧ 1 < 128
      ∧ (job .filling 0 0).opened = true ∧ (job .approach 0 0).opened = false ∧ short.robots[(0 : RobotId)].job = none
      ∧ (filling (job .approach 0 0)).positionOf (job .approach 0 0).ticket = some 1 := by decide +kernel

theorem test_reported_hypotheses :
    (filling (job .settling 0 0)).robots[(0 : RobotId)].job = some (job .settling 0 0)
      ∧ (filling (job .settling 0 0)).positionOf (job .settling 0 0).ticket = some 1
      ∧ (filling (job .settling 0 0)).robots[(0 : RobotId)].mode ≠ .lost := by decide +kernel

/-- The fill section in which the slot at position 1 is one beyond the exit, and the one in which it is at the approach
limit. -/
def withFill (e x a : Nat) (s : State) : State := { s with fill := { entry := e, exit := x, approach := a } }

theorem test_limits_hypotheses :
    (job .settling 79 0).settleTimer + 1 = (job .settling 79 0).recipe.settle ∧ (job .settling 79 0).state = .settling
      ∧ (job .filling 0 199).noFlowTimer = 199 ∧ (job .filling 0 199).state = .filling
      ∧ (withFill 0 0 0 (filling (job .settling 79 0))).positionOf (job .settling 79 0).ticket = some (0 + 1)
      ∧ (withFill 0 1 1 (filling (job .approach 0 0))).positionOf (job .approach 0 0).ticket = some (0 + 1) := by
  decide +kernel

/-- Robot 0's valve check has run so long, or does not run. -/
def checking (ms : Option Nat) (valve : Bool) : State :=
  withRobot { Robot.reset 0 with mode := .manual } { Dose.reset with check := ms, valve := valve } short

theorem test_valves_hypotheses :
    (checking (some 49) true).doses[(0 : RobotId)].check = some 49
      ∧ (checking (some 49) true).pins.feedback[(0 : RobotId)] ≠ (checking (some 49) true).doses[(0 : RobotId)].valve
      ∧ (checking (some 49) false).pins.feedback[(0 : RobotId)] = (checking (some 49) false).doses[(0 : RobotId)].valve
      ∧ (checking (some 0) true).pins.feedback[(0 : RobotId)] ≠ true
      ∧ (checking (some 0) true).doses[(0 : RobotId)].check ≠ none
      ∧ true = (checking (some 0) true).doses[(0 : RobotId)].valve
      ∧ true ≠ (checking (some 0) false).doses[(0 : RobotId)].valve
      ∧ (checking none false).doses[(0 : RobotId)].check = none
      ∧ (checking none true).doses[(0 : RobotId)].valve = true
      ∧ { short.counters[(8 : CounterId)] with remainder := 999 }.remainder = 999 ∧ short.time.ahead = [] := by
  decide +kernel

/-- The fill's valve has been de-energised, with its valve-open remainder at a value. -/
def shut (remainder : Nat) : State :=
  let s := filling (job .filling 0 0)
  { s with
    doses := s.doses.set 0 { s.doses[(0 : RobotId)] with valve := false }
    counters := s.counters.set 8 { s.counters[(8 : CounterId)] with remainder := remainder } }

theorem test_closed_hypotheses :
    let s := filling (job .filling 0 0)
    (∀ r : RobotId, s.doses[r].valve = true → s.doses[r].valve = true)
      ∧ s.doses[(0 : RobotId)].valve = true ∧ (shut 998).doses[(0 : RobotId)].valve = false ∧ (shut 998).time.ahead = []
      ∧ (∀ q : RobotId, q ≠ 0 → s.doses[q].valve = true → (shut 998).doses[q].valve = true)
      ∧ (shut 998).counters[valveCounter 0].remainder < 999 ∧ (shut 999).counters[valveCounter 0].remainder = 999
      ∧ (shut 999).doses[(0 : RobotId)].valve = false ∧ (shut 999).time.ahead = []
      ∧ ∀ q : RobotId, q ≠ 0 → s.doses[q].valve = true → (shut 999).doses[q].valve = true := by decide +kernel

/-- R97: the no-flow end of a fill counts the millisecond of its tick. -/
theorem test_no_flow_counts :
    (after (exec (.noFlow 0) (filling (job .filling 0 199)))).counters[(8 : CounterId)].remainder = 1 := by decide +kernel

/-- R102: an afterflow of 65,536 pulses is held at 65,535 in AFTERFLOW_OUTLIER. -/
theorem test_outlier_held :
    let s := filling (job .settling 0 0)
    let far : State := { s with doses := s.doses.set 0 { s.doses[(0 : RobotId)] with flow := 19687 + 65536 } }
    ((reportJob 0 false far).events.queue.map fun e => (e.kind, e.detail1, e.detail2))
      = [(.afterflowOutlier, 65535, 5000)] := by decide +kernel

theorem test_valve_fault_hypotheses :
    short.robots[(0 : RobotId)].mode = .off ∧ (checking none true).robots[(0 : RobotId)].mode ≠ .off
      ∧ (checking none true).robots[(0 : RobotId)].mode ≠ .faulted
      ∧ (checking none true).robots[(0 : RobotId)].job = none ∧ (checking none true).events.queue.length + 2 ≤ 64 := by
  decide +kernel

theorem test_dose_hypotheses :
    recipe.inRange = true
      ∧ { recipe with target := 100, kFactor := 1000, afterflowMax := 0, initial := 0 }.inRange = true
      ∧ (min recipe.minOpen (targetPulses recipe) + (5000 + 8) / 16 ≤ targetPulses recipe)
      ∧ (targetPulses recipe < min recipe.minOpen (targetPulses recipe) + (400000 + 8) / 16)
      ∧ 5000 ≤ 16 * recipe.afterflowMax ∧ 5000 ≤ 16 * 322 ∧ 16 * 300 ≤ 5038 := by decide +kernel


/-! ## The main switch, the power groups and service access -/

/-- The contacts read so, in a switch state with the alike timer at a value. -/
def switched (msa msb : Bool) (st : SwitchState) (alike : Option Nat) : State :=
  { short with
    pins := { short.pins with msa := msa, msb := msb }
    mainSwitch := { state := st, alike := alike, latch := false } }

theorem test_contacts_hypotheses :
    ¬ ((switched false true .off none).pins.msa = true ∧ (switched false true .off none).pins.msb = false)
      ∧ ¬ ((switched true false .on none).pins.msa = false ∧ (switched true false .on none).pins.msb = true)
      ∧ (switched true false .on none).mainSwitch.state = .on
      ∧ (switched true true .discrepant none).mainSwitch.state ≠ .on
      ∧ (switched true false .on none).pins.msa ≠ (switched true false .on none).pins.msb
      ∧ ¬ ((switched true true .on none).pins.msa = false ∧ (switched true true .on none).pins.msb = false)
      ∧ (switched true true .on none).pins.msa = (switched true true .on none).pins.msb
      ∧ (switched true true .on (some 30)).mainSwitch.alike = some 30 := by decide +kernel

theorem test_cut_hypotheses :
    coil busy 0 = true ∧ coil busy 1 = false ∧ busy.groups[busy.robots[(0 : RobotId)].zone].state = .closed
      ∧ busy.groups[busy.robots[(7 : RobotId)].zone].state ≠ .closed := by decide +kernel

/-- The switch leaving ON under a fill marks its slot, closes its valve and starts the close check (R78, R79, R110). -/
theorem test_cut_marks_the_slot :
    busy.robots[(0 : RobotId)].job = some (job .filling 0 0) ∧ busy.positionOf (job .filling 0 0).ticket = some 1
      ∧ ((cutPower busy).slotAt 1).fill = .aborted ∧ ((cutPower busy).slotAt 1).defects = 0x4000
      ∧ (cutPower busy).doses[(0 : RobotId)].valve = false
      ∧ (cutPower busy).doses[(0 : RobotId)].check = some 0 := by decide +kernel

/-- Group 0 in a state, its timer at a value. -/
def grouped (st : GroupState) (timer : Option Nat) : State :=
  { short with groups := short.groups.set 0 { state := st, timer := timer } }

theorem test_contactor_hypotheses :
    short.pins.mirror[(0 : GroupId)] ≠ true ∧ (powered short).pins.mirror[(0 : GroupId)] ≠ false
      ∧ (grouped .closing (some 149)).groups[(0 : GroupId)] = { state := .closing, timer := some 149 }
      ∧ (grouped .closed (some 30)).groups[(0 : GroupId)] = { state := .closed, timer := some 30 }
      ∧ (grouped .opening (some 99)).groups[(0 : GroupId)] = { state := .opening, timer := some 99 }
      ∧ (grouped .isOpen (some 99)).groups[(0 : GroupId)] = { state := .isOpen, timer := some 99 }
      ∧ (grouped .faultPullin (some 99)).groups[(0 : GroupId)] = { state := .faultPullin, timer := some 99 } := by
  decide +kernel

theorem test_doors_hypotheses :
    busy.pins.doors[(0 : DoorId)] = false ∧ doorReleased busy 0 = false ∧ (0 : DoorId) = zoneDoor 0
      ∧ doorReleased busy 4 = false ∧ (4 : DoorId) = cabinetDoor ∧ doorReleased busy 1 = true
      ∧ { busy.pins with doors := busy.pins.doors.set 0 true }.doors[(0 : DoorId)] = true
      ∧ (∀ i : PlaceId, short.access.grants[i] = none)
      ∧ { busy.access with zoneLatch := busy.access.zoneLatch.set 0 true }.zoneLatch[(0 : GroupId)] = true
      ∧ busy.access.zoneLatch[(0 : GroupId)] = false ∧ busy.robots[(0 : RobotId)].zone = 0
      ∧ busy.robots[(7 : RobotId)].zone ≠ 0 ∧ busy.events.queue.length < 64 := by decide +kernel

/-- A door closing under grants that it ends, and under ones that it does not: one in OPEN, one of another door, and one with
a door still open. -/
theorem test_closing_hypotheses :
    let waits (st : GrantState) : State := granted (grant .zoneEntry st) short
    let beside : State :=
      let s := granted (grant .cabinet .overdue) short
      { s with pins := { s.pins with doors := s.pins.doors.set 1 true } }
    ((waits .overdue).access.grants[(0 : PlaceId)] = some (grant .zoneEntry .overdue)
        ∧ (waits .awaitingClose).access.grants[(0 : PlaceId)] = some (grant .zoneEntry .awaitingClose))
      ∧ (grant .zoneEntry .overdue).hasDoor 1 = true
      ∧ (∀ k : DoorId, (grant .zoneEntry .overdue).hasDoor k = true → short.pins.doors[k] = false)
      ∧ ((grant .zoneEntry .isOpen).state ≠ .overdue ∧ (grant .zoneEntry .isOpen).state ≠ .awaitingClose)
      ∧ (grant .zoneEntry .overdue).hasDoor 0 = false
      ∧ beside.access.grants[(0 : PlaceId)] = some (grant .cabinet .overdue)
      ∧ ((grant .cabinet .overdue).hasDoor 1 = true ∧ beside.pins.doors[(1 : DoorId)] = true)
      ∧ short.access.cabinetLatch = false ∧ { short.access with cabinetLatch := true }.cabinetLatch = true := by
  decide +kernel

/-- A grant over zone 0, where the fill is under way. -/
def draining (kind : GrantKind) (ms : Nat) : Grant :=
  { grant kind .draining with zones := 1, drainTimer := ms }

theorem test_drains_hypotheses :
    (granted (grant .jog .draining) short).access.grants[(0 : PlaceId)] = some (grant .jog .draining)
      ∧ (grant .jog .draining).state = .draining ∧ drained (granted (grant .jog .draining) short) (grant .jog .draining) = true
      ∧ (granted (draining .zoneEntry 9999) (filling (job .filling 0 0))).access.grants[(0 : PlaceId)]
        = some (draining .zoneEntry 9999)
      ∧ drained (granted (draining .zoneEntry 9999) (filling (job .filling 0 0))) (draining .zoneEntry 9999) = false
      ∧ (draining .zoneEntry 9999).drainTimer = 9999
      ∧ drained (granted (draining .zoneEntry 0) short) (draining .zoneEntry 0) = true := by decide +kernel

/-- Group 1, which the grant covers, in a state. -/
def covered (kind : GrantKind) (st : GrantState) (group : GroupState) : State :=
  { granted (grant kind st) short with groups := short.groups.set 1 { state := group, timer := none } }

theorem test_isolation_hypotheses :
    (covered .zoneEntry .isolating .isOpen).access.grants[(0 : PlaceId)] = some (grant .zoneEntry .isolating)
      ∧ (grant .zoneEntry .isolating).kind ≠ .jog
      ∧ (∀ z : GroupId, (grant .zoneEntry .isolating).covers z = true →
        (covered .zoneEntry .isolating .isOpen).groups[z].state ≠ .faultWeld)
      ∧ (grant .cabinet .overdue).covers 1 = true
      ∧ (covered .cabinet .overdue .faultWeld).groups[(1 : GroupId)].state = .faultWeld
      ∧ ∀ y : GroupId, y < 1 → (grant .cabinet .overdue).covers y = true →
        (covered .cabinet .overdue .faultWeld).groups[y].state ≠ .faultWeld := by decide +kernel

/-- The rollover that brings the uptime to 60, the grant's expiry, with the door of zone 1 open or closed. -/
def expiring (st : GrantState) (uptime : Long) (isOpen : Bool) : State :=
  { granted (grant .zoneEntry st) short with
    time := { short.time with ms := 999, uptime := uptime }
    pins := { short.pins with doors := short.pins.doors.set 1 isOpen } }

theorem test_expiry_hypotheses :
    (expiring .isOpen 59 true).access.grants[(0 : PlaceId)] = some (grant .zoneEntry .isOpen)
      ∧ (expiring .isOpen 59 true).time.ms = 999 ∧ (expiring .isOpen 59 true).time.uptime + 1 = (grant .zoneEntry .isOpen).expiry
      ∧ (expiring .isOpen 58 true).time.uptime + 1 ≠ (grant .zoneEntry .isOpen).expiry
      ∧ openDoors (expiring .isOpen 59 true) (grant .zoneEntry .isOpen) ≠ 0
      ∧ openDoors (expiring .isOpen 59 false) (grant .zoneEntry .isOpen) = 0
      ∧ (grant .zoneEntry .draining).state = .draining ∧ (grant .zoneEntry .overdue).state = .overdue := by decide +kernel

/-! ## The host link -/

theorem test_receiver_hypotheses :
    short.link.receiver = .hunt ∧ (0xB7 : Byte) = 0xB7 ∧ (0xB6 : Byte) ≠ 0xB7
      ∧ { short.link with receiver := .length }.receiver = .length
      ∧ 3 ≤ (3 : Byte).toNat ∧ (240 : Byte).toNat ≤ 240 ∧ (2 : Byte).toNat < 3 ∧ 240 < (241 : Byte).toNat
      ∧ { short.link with receiver := .body 3 [1, 0, 0] }.receiver = .body 3 [1, 0, 0]
      ∧ [(1 : Byte), 0, 0].length + 1 < (3 : Byte).toNat + 2
      ∧ [(1 : Byte), 0, 0, 0].length + 1 = (3 : Byte).toNat + 2
      ∧ { short.link with gap := some 3 }.gap = some 3 := by decide +kernel

/-- The last byte of the frame of IDENT with TAG 0, which agrees with its check, and another, which does not. -/
theorem test_frame_hypotheses :
    (frameCheck [3, 1, 0, 0] = (frameCheck [3, 1, 0, 0]).extractLsb' 8 8 ++ (frameCheck [3, 1, 0, 0]).setWidth 8)
      ∧ frameCheck [3, 1, 0, 0] ≠ (frameCheck [3, 1, 0, 0]).extractLsb' 8 8 ++ ((frameCheck [3, 1, 0, 0]).setWidth 8 + 1 : Byte)
      ∧ { short.link with buffer := [⟨1, 0, []⟩] }.buffer.length < 2
      ∧ 2 ≤ { short.link with buffer := [⟨1, 0, []⟩, ⟨2, 0, []⟩] }.buffer.length := by decide +kernel

theorem test_malformed_hypotheses :
    short.link.sending = none ∧ short.link.buffer = []
      ∧ (∃ y : Frame, requestFrame (.trackRead 0 0) = some y ∧ y.kind = (⟨0x14, 9, [1, 2]⟩ : Frame).kind
        ∧ y.fields.length ≠ (⟨0x14, 9, [1, 2]⟩ : Frame).fields.length)
      ∧ 5 < (6 : Byte).toNat
      ∧ ∀ (c : Instr) (y : Frame), requestFrame c = some y → y.kind ≠ 0x04 := by
  refine ⟨by decide +kernel, by decide +kernel, ⟨_, rfl, by decide +kernel, by decide +kernel⟩, by decide, ?_⟩
  intro c y h
  cases c <;> simp only [requestFrame, Option.some.injEq, reduceCtorEq] at h <;> subst h <;> simp

theorem test_reads_hypotheses : (15 : Byte).toNat < short.track.length ∧ ¬ (16 : Byte).toNat < short.track.length := by
  decide +kernel


/-! ## Requests -/

/-- The settings after reset pass the checks with the active values repeated; a shorter pitch passes them, and one of 15
does not. -/
theorem test_track_config_hypotheses :
    let pitched (p : Nat) : State := { short with pitch := { short.pitch with length := p, windowStart := 0, windowEnd := p - 1 } }
    settingsOk short = true ∧ (1024 : Half).toNat = short.pitch.length ∧ (running short).pins.run = true
      ∧ (16 : Half).toNat ≠ short.pitch.length ∧ settingsOk (pitched 16) = true
      ∧ settingsOk { short with pitch := { short.pitch with length := 15, windowStart := 0, windowEnd := 14 } } = false
      ∧ (∀ n : CameraId, short.cameras[n].staged = CameraStaged.absent ∧ short.cameras[n].cfg.phase < (16 : Half).toNat
        ∧ ∀ p : Nat, p < short.track.length → short.cameras[n].cfg.position + short.cameras[n].cfg.deadline ≤ p →
          (short.slotAt p).awaits n = false)
      ∧ ∀ g : GateId, short.gates[g].staged = GateStaged.absent ∧ short.gates[g].cfg.phase < (16 : Half).toNat
        ∧ ∀ e ∈ short.gates[g].confirm, e.age < short.gates[g].cfg.window := by decide +kernel

/-- Staged values, whose checks pass and do not; the other lengths that pass and do not; and a window that alone differs. -/
theorem test_track_change_hypotheses :
    let staged : State :=
      withCamera { camera with staged := { phase := some 7, mask := none, required := none, deadline := some 13 } }
    let written : State :=
      withCamera { camera with cfg := { camera.cfg with phase := 7, deadline := 13 }, staged := CameraStaged.absent }
    let long (l : Nat) (s : State) : State := { s with track := { s.track with length := l } }
    staged.pins.run = false ∧ staged.cameras[(0 : CameraId)].staged ≠ CameraStaged.absent ∧ staged.linkIdle = true
      ∧ settingsOk (long 17 written) = true ∧ settingsOk (long 16 written) = true
      ∧ settingsOk (long 128 short) = true ∧ settingsOk (long 129 short) = false ∧ settingsOk (long 15 short) = false
      ∧ (5 : Half).toNat ≠ short.pitch.windowStart
      ∧ settingsOk { short with pitch := { short.pitch with windowStart := 5 } } = true
      ∧ (running short).linkIdle = true := by decide +kernel

/-- What CAMERA_CONFIG and GATE_CONFIG ask of the other units. -/
def calm (s : State) : Bool :=
  (List.finRange 6).all (fun k => decide (s.cameras[k].staged = CameraStaged.absent)
      && decide (s.cameras[k].cfg.phase < s.pitch.length)
      && (List.range s.track.length).all fun p =>
        decide (p < s.cameras[k].cfg.position + s.cameras[k].cfg.deadline) || !(s.slotAt p).awaits k)
    && (List.finRange 2).all (fun g => decide (s.gates[g].staged = GateStaged.absent)
      && decide (s.gates[g].cfg.phase < s.pitch.length)
      && s.gates[g].confirm.all fun e => decide (e.age < s.gates[g].cfg.window))
    && decide (s.pitch.windowStart < s.pitch.length) && decide (s.pitch.windowEnd < s.pitch.length)
    && decide (s.pitch.counter < s.pitch.length)

/-- Camera 0 enabled at position 3, gate A disabled: the settings that pass and the ones that do not. -/
theorem test_camera_config_hypotheses :
    let cfg (en : Bool) (p : Nat) : CameraSettings := { camera.cfg with enabled := en, position := p, deadline := 15 }
    calm (withCamera camera) = true ∧ (withCamera camera).pins.run = false
      ∧ settingsOk (withCamera { camera with cfg := cfg true 3 }) = true
      ∧ settingsOk (withCamera { camera with cfg := cfg false 127 }) = true
      ∧ settingsOk (withCamera { camera with cfg := cfg true 15 }) = true
      ∧ settingsOk (withCamera { camera with cfg := cfg true 16 }) = false
      ∧ short.cameras[(0 : CameraId)].cfg.enabled = false ∧ max 1 (0 : Byte).toNat = short.cameras[(0 : CameraId)].cfg.position
      ∧ max 1 (3 : Byte).toNat = camera.cfg.position ∧ (1023 : Half).toNat < short.pitch.length
      ∧ short.pitch.length ≤ (1024 : Half).toNat ∧ (0x0FFF : Half) &&& 0xF000 = 0
      ∧ (∀ p : Nat, p < short.track.length → 3 + 1 ≤ p → ((withCamera camera).slotAt p).awaits 0 = false) := by
  decide +kernel

/-- Gate A enabled at position 10 with a confirm entry and a pending fire. -/
def rejecting : State :=
  withGate
    { gate with
      confirm := [{ ticket := (short.slotAt 11).ticket, age := 1 }], pendingFire := some (short.slotAt 10).ticket }

theorem test_gate_config_hypotheses :
    let moved (en : Bool) (p : Nat) : State :=
      withGate { gate with cfg := { gate.cfg with enabled := en, position := p, window := 8 } }
    calm rejecting = true ∧ ticketsConsecutive rejecting ∧ settingsOk rejecting = true ∧ gateWindowOk rejecting = true
      ∧ (settingsOk (moved true 4) = true ∧ gateWindowOk (moved true 4) = true)
      ∧ settingsOk (moved true 3) = false ∧ settingsOk (moved true 15) = true ∧ settingsOk (moved true 16) = false
      ∧ settingsOk (moved false 127) = true ∧ settingsOk (moved false 0) = false
      ∧ (∀ e ∈ rejecting.gates[(0 : GateId)].confirm, e.age < (2 : Byte).toNat)
      ∧ (10 : Byte).toNat = rejecting.gates[(0 : GateId)].cfg.position := by
  unfold ticketsConsecutive; decide +kernel

/-- A fill section that passes, one that does not, and a job that is held. -/
theorem test_filler_config_hypotheses :
    settingsOk (withFill 1 13 12 short) = true ∧ settingsOk (withFill 1 14 12 short) = false
      ∧ (⟨1, 13, 12⟩ : FillSection) ≠ short.fill ∧ (⟨1, 2, 1⟩ : FillSection) = short.fill
      ∧ (∀ r : RobotId, short.robots[r].job = none) ∧ (filling (job .filling 0 0)).robots[(0 : RobotId)].job ≠ none
      ∧ (∀ g : GateId, short.gates[g].confirm = []) ∧ calm short = true := by decide +kernel

theorem test_flush_hypotheses : (running short).pins.run = true ∧ rejecting.pins.run = false
    ∧ rejecting.track.length ≤ 128 := by decide +kernel

theorem test_robot_config_hypotheses :
    (1 ≤ (30 : Byte).toNat ∧ (30 : Byte).toNat ≤ 30 ∧ ∀ q : RobotId, q ≠ 0 → short.robots[q].address ≠ (30 : Byte).toNat)
      ∧ ¬ (31 : Byte).toNat ≤ 30 ∧ short.robots[(1 : RobotId)].address = (2 : Byte).toNat
      ∧ short.robots[(0 : RobotId)].mode = .off ∧ short.bus.queues[(0 : RobotId)].entries = []
      ∧ (queued [entry .fillAbort] short).bus.queues[(0 : RobotId)].entries ≠ []
      ∧ recipe.inRange = true ∧ { recipe with target := 99 }.inRange = false
      ∧ short.robots[(0 : RobotId)].job = none ∧ short.doses[(0 : RobotId)].active = none
      ∧ (filling (job .filling 0 0)).doses[(0 : RobotId)].active ≠ none := by decide +kernel

/-- Robot 0 in a mode, with its counters loaded and an active recipe. -/
def moded (m : RobotMode) : State :=
  withRobot { Robot.reset 0 with mode := m, lastStatus := some .retracted } { Dose.reset with active := some recipe } ready

theorem test_robot_mode_hypotheses :
    (moded .manual).robots[(0 : RobotId)].mode = .manual ∧ locked (moded .manual) 0 = false
      ∧ ¬ ((moded .manual).counters[cycleCounter 0].state = .unloaded
        ∨ (moded .manual).counters[valveCounter 0].state = .unloaded)
      ∧ ((moded .manual).doses[(0 : RobotId)].active ≠ none ∧ (moded .manual).robots[(0 : RobotId)].lastStatus = some .retracted)
      ∧ short.counters[cycleCounter 0].state = .unloaded ∧ short.robots[(0 : RobotId)].mode = .off
      ∧ (moded .production).robots[(0 : RobotId)].job = none
      ∧ (busy.robots[(0 : RobotId)].mode = .production ∧ busy.robots[(0 : RobotId)].job ≠ none ∧ locked busy 0 = false)
      ∧ (moded .service).robots[(0 : RobotId)].mode = .service
      ∧ locked (granted { grant .zoneEntry .isOpen with zones := 1 } short) 0 = true ∧ 2 < (3 : Byte).toNat := by
  decide +kernel

theorem test_groups_hypotheses :
    ready.groups[(0 : GroupId)].state = .isOpen ∧ locked ready 0 = false
      ∧ (ready.mainSwitch.state = .on ∧ ready.pins.msa = true ∧ ready.pins.msb = false ∧ ready.mainSwitch.latch = false)
      ∧ ready.counters[contactorCounter 0].state = .normal ∧ short.counters[contactorCounter 0].state = .unloaded
      ∧ locked (granted { grant .zoneEntry .isOpen with zones := 1 } short) 0 = true ∧ short.mainSwitch.state ≠ .on
      ∧ (grouped .faultWeld none).groups[(0 : GroupId)].state = .faultWeld
      ∧ (grouped .opening (some 0)).groups[(0 : GroupId)].state = .opening ∧ coil (grouped .closing (some 0)) 0 = true
      ∧ coil short 0 = false := by decide +kernel

theorem test_clear_hypotheses :
    short.gates[(0 : GateId)].latch = false ∧ short.gates[(0 : GateId)].unconfirmed = 0
      ∧ ready.pins.msa ≠ ready.pins.msb ∧ (switched true true .on none).pins.msa = (switched true true .on none).pins.msb
      ∧ short.mainSwitch.latch = false
      ∧ short.pins.doors[zoneDoor 0] = false
      ∧ { short.pins with doors := short.pins.doors.set 0 true }.doors[zoneDoor 0] = true
      ∧ { short.pins with doors := short.pins.doors.set 4 true }.doors[cabinetDoor] = true
      ∧ (moded .faulted).robots[(0 : RobotId)].mode = .faulted
      ∧ (grouped .faultPullin none).groups[(0 : GroupId)].state = .faultPullin
      ∧ ((grouped .faultWeld none).groups[(0 : GroupId)].state = .faultWeld
        ∧ (grouped .faultWeld none).pins.mirror[(0 : GroupId)] = false)
      ∧ short.groups[(0 : GroupId)].state = .isOpen := by
  decide +kernel

theorem test_clear_robot_hypotheses (code : Byte) :
    (moded .faulted).robots[(0 : RobotId)].lastStatus ≠ some (.fault code) := by
  rw [show (moded .faulted).robots[(0 : RobotId)].lastStatus = some .retracted by decide +kernel]
  simp

/-- Zones 0 to 3 free of welds and of grants, the durations at their ends, a full table, a weld, and a conflict of kinds. -/
theorem test_grant_request_hypotheses :
    kindField 0 = some .zoneEntry ∧ kindField 1 = some .jog ∧ kindField 2 = some .cabinet ∧ kindField 3 = none
      ∧ (1 ≤ (1 : Half).toNat ∧ (480 : Half).toNat ≤ 480 ∧ (15 : Byte).toNat < 16)
      ∧ ¬ (481 : Half).toNat ≤ 480 ∧ ¬ (16 : Byte).toNat < 16
      ∧ short.access.grants[(0 : PlaceId)] = none
      ∧ (∀ i : PlaceId, (Vector.replicate 8 (some (grant .jog .isOpen)))[i] ≠ none)
      ∧ ((15 : Byte).setWidth 4 : ZoneSet) ≠ 0 ∧ ((0 : Byte).setWidth 4 : ZoneSet) = 0
      ∧ (¬ ∃ z : GroupId, ((15 : Byte).setWidth 4 : ZoneSet).getLsbD z.val = true ∧ short.groups[z].state = .faultWeld)
      ∧ (∃ z : GroupId, ((1 : Byte).setWidth 4 : ZoneSet).getLsbD z.val = true
        ∧ (grouped .faultWeld none).groups[z].state = .faultWeld)
      ∧ (granted (grant .zoneEntry .isOpen) short).access.grants[(1 : PlaceId)] = none
      ∧ (∀ y : PlaceId, y < 1 → (granted (grant .zoneEntry .isOpen) short).access.grants[y] ≠ none)
      ∧ (grant .zoneEntry .isOpen).zones &&& 2 ≠ 0 := by decide +kernel

theorem test_grant_end_hypotheses :
    grantsDistinct busy ∧ busy.access.grants[(0 : PlaceId)] = some (grant .zoneEntry .isOpen)
      ∧ (grant .zoneEntry .isOpen).number = 1 ∧ openDoors busy (grant .zoneEntry .isOpen) = 0
      ∧ openDoors (expiring .isOpen 0 true) (grant .zoneEntry .isOpen) ≠ 0
      ∧ (∀ i : PlaceId, short.access.grants[i] = none) ∧ 1 ≤ (1 : Half).toNat ∧ (480 : Half).toNat ≤ 480 :=
  ⟨test_grants_hypotheses.1, by decide +kernel, by decide +kernel, by decide +kernel, by decide +kernel,
    by decide +kernel, by decide, by decide⟩

theorem test_counter_set_hypotheses :
    short.counters[(0 : CounterId)].state = .unloaded ∧ ready.counters[(0 : CounterId)].state ≠ .unloaded
      ∧ (50 < (51 : Byte).toNat) ∧ (50 : Byte).toNat ≤ 50 ∧ (5 : Long).toNat < (6 : Long).toNat
      ∧ (6 : Long).toNat ≤ (6 : Long).toNat ∧ 20 ≤ (20 : CounterId).val ∧ 4 ≤ (4 : Byte).toNat
      ∧ (3 : Byte).toNat = (3 : GroupId).val ∧ (19 : CounterId).val < 20
      ∧ (qualifyingPlace busy 2).isSome = true ∧ (qualifyingPlace busy 0).isSome = false := by decide +kernel

/-- A queue of that many records, with so many lost. -/
def events (n lost : Nat) : State :=
  { short with events := { short.events with queue := List.replicate n (short.recordOf .switchOn 0 0 0), lost := lost } }

theorem test_event_hypotheses :
    (events 63 0).events.queue.length < 64 ∧ 64 ≤ (events 64 0).events.queue.length
      ∧ (0 : Byte).toNat < 1 ∧ 8 < (9 : Byte).toNat ∧ 1 ≤ (1 : Byte).toNat ∧ (8 : Byte).toNat ≤ 8
      ∧ (events 64 5).events.lost ≠ 0 ∧ (8 : Byte).toNat ≤ (events 64 5).events.queue.length
      ∧ (events 3 0).events.lost = 0 := by decide +kernel

/-- LINE_RELEASE with the switch back ON releases LSTOP (R59); the read that empties the queue releases ATN (R173). -/
theorem test_lines :
    lstop ready = true ∧ lstop (after (exec (.lineRelease 7) ready)) = false
      ∧ atnLow (events 3 0) = true ∧ atnLow (after (exec (.eventRead 7 2) (events 3 0))) = true
      ∧ atnLow (after (exec (.eventRead 7 3) (events 3 0))) = false := by decide +kernel

theorem test_field_hypotheses :
    6 ≤ (6 : Byte).toNat ∧ 2 ≤ (2 : Byte).toNat ∧ 15 < (16 : Byte).toNat ∧ (0x1000 : Half) &&& 0xF000 ≠ 0
      ∧ 250 < (251 : Byte).toNat ∧ 8 < (9 : Byte).toNat ∧ short.track.length ≤ (16 : Byte).toNat ∧ 8 ≤ (8 : Byte).toNat
      ∧ 4 ≤ (4 : Byte).toNat ∧ (1 : Byte) ≠ 0 ∧ 3 ≤ (3 : Byte).toNat ∧ 480 < (481 : Half).toNat
      ∧ 28 ≤ (28 : Byte).toNat := by decide +kernel

/-- The link is idle in the states that stand for the requests' hypotheses. -/
theorem test_idle_hypotheses :
    [short, running short, busy, ready, answered, rejecting, withCamera camera, moded .manual, moded .production,
      moded .faulted, grouped .faultWeld none, filling (job .filling 0 0), expiring .isOpen 0 true, events 64 5,
      queued [entry .fillAbort] short, switched true true .on none].all State.linkIdle = true
      ∧ (granted { grant .zoneEntry .isOpen with zones := 1 } short).linkIdle = true := by decide +kernel

end Sys2Proof.Tests
end

section
/-! What a camera and a gate do when their phase is reached, and at any other moment (R2, R37, R38, R50,
R51). -/

namespace Sys2Proof.Machine

/-! ## The camera's phase -/

/-- The camera is enabled, its phase is reached, and the slot at its position waits for it and has no outstanding entry
(R37). -/
def State.triggerDue (s : State) (n : CameraId) : Prop :=
  s.cameras[n].cfg.enabled = true ∧ s.pitch.counter = s.cameras[n].cfg.phase
    ∧ s.cameras[n].cfg.position < s.track.length ∧ (s.slotAt s.cameras[n].cfg.position).awaits n = true
    ∧ s.cameras[n].hasOutstanding (s.slotAt s.cameras[n].cfg.position).ticket = false

section
variable {n : CameraId} {s : State}

/-- At any other moment nothing happens (R2). -/
theorem triggerAt_of_not_due (h : ¬ s.triggerDue n) : triggerAt n s = s :=
  if_neg fun ⟨enabled, phase, onTrack, awaits, free⟩ => h ⟨enabled, phase, onTrack, awaits, by simpa using free⟩

/-- With the trigger due, the camera's state, the slot's occupancy and the length of the outstanding list decide, in this
order (R37, R38). -/
theorem triggerAt_of_due (h : s.triggerDue n) :
    triggerAt n s =
      if s.cameras[n].state ≠ .ready then missAt n s.cameras[n].cfg.position s
      else if (s.slotAt s.cameras[n].cfg.position).occupancy ≠ .occupied then s
      else if s.cameras[n].outstanding.length < Config.listCapacity then
        pulseTrigger n (s.slotAt s.cameras[n].cfg.position).ticket s
      else
        raiseEvent .triggerOverrun n.val (s.slotAt s.cameras[n].cfg.position).ticket
          (s.cameras[n].trigger.setWidth 16) (missAt n s.cameras[n].cfg.position s) := by
  obtain ⟨enabled, phase, onTrack, awaits, free⟩ := h
  exact if_pos ⟨enabled, phase, onTrack, awaits, by simpa using free⟩

theorem triggerAt_of_notReady (due : s.triggerDue n) (notReady : s.cameras[n].state ≠ .ready) :
    triggerAt n s = missAt n s.cameras[n].cfg.position s := by
  rw [triggerAt_of_due due, if_pos notReady]

theorem triggerAt_of_notOccupied (due : s.triggerDue n) (ready : s.cameras[n].state = .ready)
    (gone : (s.slotAt s.cameras[n].cfg.position).occupancy ≠ .occupied) : triggerAt n s = s := by
  rw [triggerAt_of_due due, if_neg (not_not.2 ready), if_pos gone]

theorem triggerAt_of_room (due : s.triggerDue n) (ready : s.cameras[n].state = .ready)
    (occupied : (s.slotAt s.cameras[n].cfg.position).occupancy = .occupied)
    (room : s.cameras[n].outstanding.length < 16) :
    triggerAt n s = pulseTrigger n (s.slotAt s.cameras[n].cfg.position).ticket s := by
  rw [triggerAt_of_due due, if_neg (not_not.2 ready), if_neg (not_not.2 occupied), if_pos room]

/-- With 16 entries outstanding no pulse is given and the trigger number does not advance (R38). -/
theorem triggerAt_of_full (due : s.triggerDue n) (ready : s.cameras[n].state = .ready)
    (occupied : (s.slotAt s.cameras[n].cfg.position).occupancy = .occupied)
    (full : 16 ≤ s.cameras[n].outstanding.length) :
    triggerAt n s =
      raiseEvent .triggerOverrun n.val (s.slotAt s.cameras[n].cfg.position).ticket
        (s.cameras[n].trigger.setWidth 16) (missAt n s.cameras[n].cfg.position s) := by
  rw [triggerAt_of_due due, if_neg (not_not.2 ready), if_neg (not_not.2 occupied), if_neg (not_lt.2 full)]

end

/-! ## The gate's phase -/

/-- Editing the slot that a ticket names is editing the slot at its position. -/
theorem editSlot_of_positionOf {t : Half} {p : Nat} {s : State} (f : Slot → Slot) (h : s.positionOf t = some p) :
    editSlot t f s = editSlotAt p f s := by
  rw [editSlot, h]

section
variable {g : GateId} {s : State}

theorem fireAt_of_none (idle : s.gates[g].pendingFire = none) : fireAt g s = s := by
  simp only [fireAt, idle]

/-- A pending fire is made if the gate is enabled and its phase is reached, and waits otherwise; an output that is still
energised gets the whole width anew (R50, R51). -/
theorem fireAt_of_pending {t : Half} (pending : s.gates[g].pendingFire = some t) :
    fireAt g s =
      if s.gates[g].cfg.enabled = true ∧ s.pitch.counter = s.gates[g].cfg.phase then
        countOn (gateCounter g)
          ((editSlot t (fun sl => { sl with reject := .fired }) s).mapGate g fun gt =>
            { gt with
              pendingFire := none
              confirm := gt.confirm ++ [{ ticket := t, age := 0 }]
              output := some gt.cfg.width })
      else s := by
  simp only [fireAt, pending]

/-- Without a pending fire, or away from the gate's phase, nothing happens (R2, R50). -/
theorem fireAt_of_not_due
    (h : s.gates[g].pendingFire = none ∨ s.gates[g].cfg.enabled = false ∨ s.pitch.counter ≠ s.gates[g].cfg.phase) :
    fireAt g s = s := by
  cases pending : s.gates[g].pendingFire with
  | none => exact fireAt_of_none pending
  | some t =>
    rw [fireAt_of_pending pending, if_neg]
    rintro ⟨enabled, phase⟩
    rcases h with idle | disabled | off
    · exact Option.some_ne_none t (pending.symm.trans idle)
    · exact Bool.false_ne_true (disabled.symm.trans enabled)
    · exact off phase

/-- A fire that is due for a slot on the track marks the slot at its position (R51). -/
theorem fireAt_of_due {t : Half} {p : Nat} (pending : s.gates[g].pendingFire = some t)
    (place : s.positionOf t = some p) (enabled : s.gates[g].cfg.enabled = true)
    (phase : s.pitch.counter = s.gates[g].cfg.phase) :
    fireAt g s = countOn (gateCounter g)
      { editSlotAt p (fun sl => { sl with reject := .fired }) s with
        gates := s.gates.set g
          { s.gates[g] with
            pendingFire := none, output := some s.gates[g].cfg.width
            confirm := s.gates[g].confirm ++ [{ ticket := t, age := 0 }] } } := by
  rw [fireAt_of_pending pending, if_pos ⟨enabled, phase⟩, editSlot_of_positionOf _ place]
  rfl

end

/-- Settles O23: the camera's half splits on whether the trigger is due and then on the three conditions that decide it,
the gate's half on whether the fire is due. -/
theorem phasesTriggerAndFire : Obligations.PhasesTriggerAndFire :=
  ⟨fun _ _ => ⟨triggerAt_of_room, triggerAt_of_full, triggerAt_of_notReady, triggerAt_of_notOccupied,
      triggerAt_of_not_due⟩,
    fun _ _ _ _ => ⟨fireAt_of_due, fireAt_of_not_due⟩⟩

end Sys2Proof.Machine
end

section
/-! FAULT_CLEAR of a gate and of the main switch, and what a counted reject does to its gate's count and latch
(R55, R56, R59, R112). -/

namespace Sys2Proof.Machine

/-! ## FAULT_CLEAR and LINE_RELEASE -/

/-- A unit's number, as a request's field carries it, names that unit. -/
theorem unitField_ofNat {n : Nat} (hn : n ≤ 256) (i : Fin n) : unitField n (BitVec.ofNat 8 i.val) = some i := by
  have value : (BitVec.ofNat 8 i.val).toNat = i.val := by
    rw [BitVec.toNat_ofNat]
    exact Nat.mod_eq_of_lt (i.isLt.trans_le hn)
  simp [unitField, value]

/-- FAULT_CLEAR naming a gate asks nothing of the latch or of the count that it clears (R56). -/
theorem clearGateFault_of_gate (tag : Half) (g : GateId) (s : State) :
    clearGateFault tag (BitVec.ofNat 8 g.val) s =
      accept kindFaultClear tag []
        { s with gates := s.gates.set g { s.gates[g] with latch := false, unconfirmed := 0 } } := by
  rw [clearGateFault, unitField_ofNat (by decide) g]
  rfl

/-- The pair is ALIKE with its two contacts reading the same (R108). -/
theorem pair_alike_iff (s : State) : s.pair = .alike ↔ s.pins.msa = s.pins.msb := by
  simp only [State.pair]
  cases s.pins.msa <;> cases s.pins.msb <;> decide

section
variable {s : State} (idle : s.linkIdle = true) (tag : Half)
include idle

/-! With the link idle each of these requests is its rule (R180). -/

theorem exec_faultClearGate_of_idle (number : Byte) :
    exec (.faultClearGate tag number) s = .next (clearGateFault tag number s) :=
  hostRequest_of_idle idle (.faultClearGate tag number) _

theorem exec_faultClearSwitch_of_idle (number : Byte) :
    exec (.faultClearSwitch tag number) s = .next (clearSwitchFault tag number s) :=
  hostRequest_of_idle idle (.faultClearSwitch tag number) _

theorem exec_lineRelease_of_idle : exec (.lineRelease tag) s = .next (lineRelease tag s) :=
  hostRequest_of_idle idle (.lineRelease tag) _

end

section
variable {s : State} (tag : Half)

/-- With the ON pair or the OFF pair FAULT_CLEAR naming the switch clears the latch (R112). -/
theorem clearSwitchFault_of_differing (h : s.pins.msa ≠ s.pins.msb) :
    clearSwitchFault tag 0 s =
      accept kindFaultClear tag [] { s with mainSwitch := { s.mainSwitch with latch := false } } := by
  rw [clearSwitchFault, if_neg (not_not.2 rfl), if_neg (mt (pair_alike_iff s).1 h)]

/-- With the pair ALIKE FAULT_CLEAR naming the switch is refused (R112). -/
theorem clearSwitchFault_of_alike (h : s.pins.msa = s.pins.msb) :
    clearSwitchFault tag 0 s = refuse kindFaultClear tag .state s := by
  rw [clearSwitchFault, if_neg (not_not.2 rfl), if_pos ((pair_alike_iff s).2 h)]

/-- LINE_RELEASE keeps the DISCREPANCY cause while the switch's latch is set, and only then (R59). -/
theorem lineRelease_discrepancy :
    (lineRelease tag s).stops.discrepancy = (s.stops.discrepancy && s.mainSwitch.latch) := rfl

theorem lineRelease_keepsBut : keepsBut [.stops, .link] s (lineRelease tag s) := by
  intro p kept
  cases p
  case stops => exact absurd (by decide) kept
  case link => exact absurd (by decide) kept
  all_goals simp only [Part.same, lineRelease_frame]

end

/-! ## Counted rejects (R55) -/

/-- The gate's record with one more consecutive unconfirmed reject: a count that reaches 2 sets the latch (R55). -/
def Gate.withUnconfirmed (gt : Gate) : Gate :=
  { gt with
    unconfirmed := countUpTo 255 gt.unconfirmed
    latch := gt.latch || decide (2 ≤ countUpTo 255 gt.unconfirmed) }

theorem countUnconfirmed_gate (g : GateId) (t : Half) (s : State) :
    (countUnconfirmed g t s).gates[g] = s.gates[g].withUnconfirmed := by
  simp only [countUnconfirmed, Gate.withUnconfirmed]
  split_ifs with latches
  · obtain ⟨reached, -⟩ := latches
    simpa [addGateFault] using .inr reached
  · have kept : (s.gates[g].latch || decide (2 ≤ countUpTo 255 s.gates[g].unconfirmed)) = s.gates[g].latch := by
      cases latched : s.gates[g].latch <;> simp_all
    rw [kept, mapGate_get, if_pos rfl]

/-- A reject that leaves without confirmation for a counted reason is one more for its gate (R55). -/
theorem unconfirm_gate {why : UnconfirmedReason} (counts : why.counts = true) (g : GateId) (t : Half) (s : State) :
    (unconfirm g why t s).gates[g] = s.gates[g].withUnconfirmed := by
  simp only [unconfirm, counts, if_true, countUnconfirmed_gate, raiseEvent_frame, editSlot_frame]

/-- A cleared gate latches again with the second counted reject (R55, R56). -/
theorem withUnconfirmed_twice_latch {gt : Gate} (cleared : gt.unconfirmed = 0) :
    gt.withUnconfirmed.withUnconfirmed.latch = true := by
  simp [Gate.withUnconfirmed, cleared, countUpTo]

/-- Settles O54: with the link idle each request is its rule, and two counted rejects take a cleared gate's count
to 2. -/
theorem gateAndSwitchFaultsAreCleared : Obligations.GateAndSwitchFaultsAreCleared := by
  intro s tag idle
  refine ⟨fun g => ⟨?clearsGate, ?latchesAgain⟩, fun differing => ?clearsSwitch, fun alike => ?refuses,
    fun cleared => ⟨lineRelease tag s, exec_lineRelease_of_idle idle tag, ?causeLeaves, lineRelease_keepsBut tag⟩⟩
  case clearsGate => rw [exec_faultClearGate_of_idle idle, clearGateFault_of_gate]
  case latchesAgain =>
    intro first second t _ noCount
    rw [unconfirm_gate rfl, unconfirm_gate rfl]
    exact withUnconfirmed_twice_latch noCount
  case clearsSwitch => rw [exec_faultClearSwitch_of_idle idle, clearSwitchFault_of_differing tag differing]
  case refuses => rw [exec_faultClearSwitch_of_idle idle, clearSwitchFault_of_alike tag alike]
  case causeLeaves => rw [lineRelease_discrepancy, cleared, Bool.and_false]

end Sys2Proof.Machine
end

section
/-! The arithmetic of a dose: target pulses, close count, restoring division and the learned estimate (R94, R95, R99,
R103). -/

namespace Sys2Proof.Machine

/-! ## Target pulses and close count (R94, R95) -/

/-- The recipe table's limits on T and K, multiplied (R91, R94). -/
theorem Recipe.target_mul_kFactor_of_inRange {r : Recipe} (valid : r.inRange = true) :
    100 * 1000 ≤ r.target * r.kFactor ∧ r.target * r.kFactor ≤ 50000 * 100000 := by
  simp only [Recipe.inRange, Bool.and_eq_true, decide_eq_true_eq, and_assoc] at valid
  obtain ⟨targetLow, targetHigh, kLow, kHigh, -⟩ := valid
  exact ⟨Nat.mul_le_mul targetLow kLow, Nat.mul_le_mul targetHigh kHigh⟩

/-- N of a recipe in range lies in 10..500,000 (R94). -/
theorem targetPulses_bounds {r : Recipe} (valid : r.inRange = true) :
    10 ≤ targetPulses r ∧ targetPulses r ≤ 500000 := by
  obtain ⟨low, high⟩ := r.target_mul_kFactor_of_inRange valid
  rw [targetPulses]
  omega

/-- With room for â above the least close count, the valve closes â pulses ahead of N (R95). -/
theorem closeCalc_count_of_room {r : Recipe} {e : Nat}
    (room : min r.minOpen (targetPulses r) + roundedEstimate e ≤ targetPulses r) :
    (closeCalc r e).count = targetPulses r - roundedEstimate e :=
  if_neg (by omega)

/-- Without that room the valve closes at the least close count (R95). -/
theorem closeCalc_count_of_no_room {r : Recipe} {e : Nat}
    (short : targetPulses r < min r.minOpen (targetPulses r) + roundedEstimate e) :
    (closeCalc r e).count = min r.minOpen (targetPulses r) :=
  if_pos (by omega)

/-- C lies within min(M, N)..N (R95). -/
theorem closeCalc_count_bounds (r : Recipe) (e : Nat) :
    min r.minOpen (targetPulses r) ≤ (closeCalc r e).count ∧ (closeCalc r e).count ≤ targetPulses r := by
  rcases Nat.lt_or_ge (targetPulses r) (min r.minOpen (targetPulses r) + roundedEstimate e) with short | room
  · rw [closeCalc_count_of_no_room short]
    omega
  · rw [closeCalc_count_of_room room]
    omega

/-! ## Restoring division (R99) -/

/-- Doubling the quotient and bringing the next bit into the remainder divides the dividend with that bit, up to one more
subtraction of the divisor. -/
theorem restoringStep_invariant {k : Nat} (hk : 0 < k) (d : Nat) :
    d = k * (2 * (d / 2 / k)) + (2 * (d / 2 % k) + d % 2) ∧ 2 * (d / 2 % k) + d % 2 < 2 * k := by
  have whole : k * (d / 2 / k) + d / 2 % k = d / 2 := Nat.div_add_mod (d / 2) k
  have small : d / 2 % k < k := Nat.mod_lt _ hk
  rw [mul_left_comm]
  omega

/-- A step takes the quotient and remainder of the dividend's bits from `bit + 1` up to those of its bits from `bit`
up. -/
theorem restoringStep_div_mod {k : Nat} (hk : 0 < k) (dividend bit : Nat) :
    restoringStep k dividend bit (dividend / 2 ^ (bit + 1) / k, dividend / 2 ^ (bit + 1) % k)
      = (dividend / 2 ^ bit / k, dividend / 2 ^ bit % k) := by
  have halved : dividend / 2 ^ (bit + 1) = dividend / 2 ^ bit / 2 := by rw [pow_succ, Nat.div_div_eq_div_mul]
  rw [restoringStep, halved]
  generalize dividend / 2 ^ bit = d
  obtain ⟨total, below⟩ := restoringStep_invariant hk d
  split
  case isTrue trial =>
    obtain ⟨quotient, remainder⟩ := (Nat.div_mod_unique (a := d) (c := 2 * (d / 2 % k) + d % 2 - k)
      (d := 2 * (d / 2 / k) + 1) hk).mpr ⟨by rw [mul_add]; omega, by omega⟩
    rw [quotient, remainder]
  case isFalse trial =>
    obtain ⟨quotient, remainder⟩ := (Nat.div_mod_unique (a := d) (c := 2 * (d / 2 % k) + d % 2)
      (d := 2 * (d / 2 / k)) hk).mpr ⟨by omega, by omega⟩
    rw [quotient, remainder]

/-- From the quotient and remainder of the bits above, the steps over the bits below leave those of the whole
dividend. -/
theorem restoringDivide_div_mod {k : Nat} (hk : 0 < k) (dividend bits : Nat) :
    restoringDivide k dividend bits (dividend / 2 ^ bits / k, dividend / 2 ^ bits % k)
      = (dividend / k, dividend % k) := by
  induction bits with
  | zero => simp [restoringDivide]
  | succ bit ih => rw [restoringDivide, restoringStep_div_mod hk, ih]

/-- Restoring division of a dividend that its bits hold. -/
theorem restoringDivide_of_lt {k dividend bits : Nat} (hk : 0 < k) (fits : dividend < 2 ^ bits) :
    restoringDivide k dividend bits (0, 0) = (dividend / k, dividend % k) := by
  have divided := restoringDivide_div_mod hk dividend bits
  rwa [Nat.div_eq_of_lt fits, Nat.zero_div, Nat.zero_mod] at divided

/-- 34 bits hold the dividend of every final count and K-factor (R99). -/
theorem fillVolume_eq {flow k : Nat} (hflow : flow ≤ 1048575) (kLow : 1000 ≤ k) (kHigh : k ≤ 100000) :
    fillVolume flow k = (flow * 10000 + k / 2) / k := by
  rw [fillVolume, restoringDivide_of_lt (by omega) (by omega)]

/-- The dividend is at most 10,485,800 times the divisor (R99). -/
theorem fillVolume_le {flow k : Nat} (hflow : flow ≤ 1048575) (kLow : 1000 ≤ k) (kHigh : k ≤ 100000) :
    fillVolume flow k ≤ 10485800 := by
  rw [fillVolume_eq hflow kLow kHigh]
  exact Nat.div_le_of_le_mul (by omega)

/-! ## The learned estimate (R103) -/

/-- Learning never passes 16 × Amax (R103). -/
theorem learnedEstimate_le (r : Recipe) (a e : Nat) : learnedEstimate r a e ≤ 16 * r.afterflowMax :=
  Nat.min_le_right _ _

/-- An estimate at most 16 × A moves up by the difference divided by the power of the shift (R103). -/
theorem learnedEstimate_of_le {r : Recipe} {a e : Nat} (rises : e ≤ 16 * a) :
    learnedEstimate r a e = min (e + (16 * a - e) / 2 ^ r.shift) (16 * r.afterflowMax) := by
  have difference : 16 * (a : Int) - e = ((16 * a - e : Nat) : Int) := by omega
  have step : Int.tdiv (16 * (a : Int) - e) (2 ^ r.shift) = (((16 * a - e) / 2 ^ r.shift : Nat) : Int) := by
    rw [difference, Int.ofNat_tdiv]
    norm_cast
  simp only [learnedEstimate, step]
  norm_cast

/-- An estimate at least 16 × A moves down by the difference divided by the power of the shift: truncation is toward
zero (R103). -/
theorem learnedEstimate_of_ge {r : Recipe} {a e : Nat} (falls : 16 * a ≤ e) :
    learnedEstimate r a e = min (e - (e - 16 * a) / 2 ^ r.shift) (16 * r.afterflowMax) := by
  have difference : 16 * (a : Int) - e = -((e - 16 * a : Nat) : Int) := by omega
  have step : Int.tdiv (16 * (a : Int) - e) (2 ^ r.shift) = -(((e - 16 * a) / 2 ^ r.shift : Nat) : Int) := by
    rw [difference, Int.neg_tdiv, Int.ofNat_tdiv]
    norm_cast
  simp only [learnedEstimate, step]
  congr 1
  omega

/-- With shift 0 the estimate becomes the last afterflow within the clamp (R103). -/
theorem learnedEstimate_of_shift_zero {r : Recipe} {a : Nat} (e : Nat) (unshifted : r.shift = 0)
    (within : a ≤ r.afterflowMax) : learnedEstimate r a e = 16 * a := by
  rcases Nat.le_total e (16 * a) with rises | falls
  · rw [learnedEstimate_of_le rises, unshifted, pow_zero, Nat.div_one]
    omega
  · rw [learnedEstimate_of_ge falls, unshifted, pow_zero, Nat.div_one]
    omega

/-- Settles O38: N by the recipe's limits, C by whether â leaves room above the least close count, V by the invariant of
restoring division, and the estimate by the sign of the difference. -/
theorem doseArithmetic : Obligations.DoseArithmetic := by
  refine ⟨fun r valid => ⟨rfl, targetPulses_bounds valid⟩, fun r e => ?close,
    fun f k hf kLow kHigh => ⟨fillVolume_eq hf kLow kHigh, fillVolume_le hf kLow kHigh⟩, fun r a e => ?learned⟩
  case close =>
    obtain ⟨least, most⟩ := closeCalc_count_bounds r e
    exact ⟨rfl, rfl, least, most, closeCalc_count_of_room, closeCalc_count_of_no_room⟩
  case learned =>
    exact ⟨learnedEstimate_le r a e, learnedEstimate_of_shift_zero e, fun _ => learnedEstimate_of_le,
      learnedEstimate_of_ge⟩

end Sys2Proof.Machine
end

section
/-! The event queue by itself: raising an event, the records an EVENT_READ removes and delivers, and ATN (R168 to
R173). -/

namespace Sys2Proof.Machine

/-! ## Raising an event -/

/-- Room in the queue: the record is entered with the next sequence number (R169). -/
theorem raiseEvent_events_of_room {s : State} (room : s.events.queue.length < 64) (kind : EventKind) (unit : Nat)
    (detail1 detail2 : Half) :
    (raiseEvent kind unit detail1 detail2 s).events =
      { s.events with
        queue := s.events.queue ++ [s.recordOf kind unit detail1 detail2]
        nextSequence := s.events.nextSequence + 1
        account := { s.events.account with raised := s.events.account.raised + 1 } } := by
  simp [raiseEvent, room, enterRecord, State.recordOf]

/-- A full queue: the event is turned away, and counted lost up to the limit (R170). -/
theorem raiseEvent_of_full {s : State} (full : 64 ≤ s.events.queue.length) (kind : EventKind) (unit : Nat)
    (detail1 detail2 : Half) :
    let t := raiseEvent kind unit detail1 detail2 s
    t.events.queue = s.events.queue ∧ t.events.nextSequence = s.events.nextSequence
      ∧ t.events.lost = if s.events.lost < maxLong then s.events.lost + 1 else s.events.lost := by
  have notRoom : ¬s.events.queue.length < Config.queueCapacity := Nat.not_lt.mpr full
  dsimp only [raiseEvent]
  rw [if_neg notRoom]
  split_ifs <;> exact ⟨rfl, rfl, rfl⟩

theorem raiseEvent_keepsBut (kind : EventKind) (unit : Nat) (detail1 detail2 : Half) (s : State) :
    keepsBut [.events] s (raiseEvent kind unit detail1 detail2 s) := by
  obtain ⟨queue, raised⟩ := raiseEvent_eq kind unit detail1 detail2 s
  intro part other
  rw [raised]
  cases part
  case events => simp at other
  all_goals rfl

/-! ## ATN (R173) -/

theorem atnLow_iff (s : State) : atnLow s = true ↔ s.events.queue ≠ [] := by
  simp [atnLow]

theorem raiseEvent_atnLow (kind : EventKind) (unit : Nat) (detail1 detail2 : Half) (s : State) :
    atnLow (raiseEvent kind unit detail1 detail2 s) = true := by
  rw [atnLow_iff]
  rcases Nat.lt_or_ge s.events.queue.length 64 with room | full
  · simp [raiseEvent_events_of_room room]
  · rw [(raiseEvent_of_full full kind unit detail1 detail2).1]
    exact List.ne_nil_of_length_pos (by omega)

/-! ## The records a read removes (R170 to R172) -/

/-- The queue with its n oldest records delivered, where no event is lost (R172). -/
def EventQueue.afterRead (n : Nat) (e : EventQueue) : EventQueue :=
  { e with
    queue := e.queue.drop n
    account := { e.account with
      delivered := e.account.delivered + (e.queue.take n).countP EventRecord.accounted } }

/-- The marker that a removal enters in the place just freed (R171). -/
def State.lossMarker (s : State) : EventRecord :=
  s.recordOf .eventsLost 0 (lowerHalf s.events.lost) (upperHalf s.events.lost)

/-- The queue with its n oldest records delivered and the marker of the lost events behind the rest (R171). -/
def State.eventsAfterLoss (s : State) (n : Nat) : EventQueue :=
  { s.events.afterRead n with
    queue := s.events.queue.drop n ++ [s.lossMarker], nextSequence := s.events.nextSequence + 1, lost := 0 }

theorem EventQueue.afterRead_of_empty {e : EventQueue} (empty : e.queue = []) (n : Nat) : e.afterRead n = e := by
  rcases e with ⟨queue, _, _, _⟩
  obtain rfl : queue = [] := empty
  simp [EventQueue.afterRead]

theorem removeOldest_of_noLoss {s : State} (noLoss : s.events.lost = 0) :
    removeOldest s = { s with events := s.events.afterRead 1 } := by
  unfold removeOldest
  split
  case h_1 empty => rw [EventQueue.afterRead_of_empty empty]
  case h_2 e rest queue =>
    cases accounted : e.accounted <;> simp [EventQueue.afterRead, queue, noLoss, accounted]

theorem removeOldest_of_loss {s : State} (loss : s.events.lost ≠ 0) (held : s.events.queue ≠ []) :
    removeOldest s = { s with events := s.eventsAfterLoss 1 } := by
  obtain ⟨e, rest, queue⟩ := List.exists_cons_of_ne_nil held
  cases accounted : e.accounted <;>
    simp [removeOldest, State.eventsAfterLoss, State.lossMarker, EventQueue.afterRead, enterRecord, State.recordOf,
      queue, loss, accounted]

/-- Reading one record and then n more is reading n + 1. -/
theorem EventQueue.afterRead_afterRead (e : EventQueue) (n : Nat) :
    (e.afterRead 1).afterRead n = e.afterRead (n + 1) := by
  rcases e with ⟨queue, _, _, _⟩
  cases queue <;> simp [EventQueue.afterRead, List.countP_cons, Nat.add_comm, Nat.add_left_comm]

theorem removeRecords_of_noLoss {s : State} (noLoss : s.events.lost = 0) (n : Nat) :
    removeRecords n s = { s with events := s.events.afterRead n } := by
  induction n generalizing s with
  | zero => rfl
  | succ n ih =>
    rw [removeRecords, removeOldest_of_noLoss noLoss, ih, EventQueue.afterRead_afterRead]
    exact noLoss

theorem deliver_of_noLoss {s : State} (noLoss : s.events.lost = 0) (n : Nat) :
    deliver n s = s.events.queue.take n := by
  induction n generalizing s with
  | zero => rfl
  | succ n ih =>
    unfold deliver
    split
    case h_1 empty => simp [empty]
    case h_2 e rest queue =>
      rw [removeOldest_of_noLoss noLoss, ih]
      · simp [EventQueue.afterRead, queue]
      · exact noLoss

/-- The first removal enters the marker, and the others find no event lost; the marker stands behind them all. -/
theorem removeRecords_of_loss {s : State} (loss : s.events.lost ≠ 0) {n : Nat} (atLeastOne : 1 ≤ n)
    (held : n ≤ s.events.queue.length) :
    removeRecords n s = { s with events := s.eventsAfterLoss n } := by
  obtain ⟨n, rfl⟩ := Nat.exists_eq_add_of_le' atLeastOne
  obtain ⟨e, rest, queue⟩ := List.exists_cons_of_length_pos (Nat.lt_of_lt_of_le (Nat.succ_pos n) held)
  have others : n ≤ rest.length := by simpa [queue] using held
  rw [removeRecords, removeOldest_of_loss loss (by simp [queue]), removeRecords_of_noLoss rfl]
  simp [State.eventsAfterLoss, EventQueue.afterRead, State.lossMarker, queue, List.drop_append_of_le_length others,
    List.take_append_of_le_length others, List.countP_cons, Nat.add_comm, Nat.add_left_comm]

theorem deliver_of_loss {s : State} (loss : s.events.lost ≠ 0) {n : Nat} (held : n ≤ s.events.queue.length) :
    deliver n s = s.events.queue.take n := by
  cases n with
  | zero => rfl
  | succ n =>
    obtain ⟨e, rest, queue⟩ := List.exists_cons_of_length_pos (Nat.lt_of_lt_of_le (Nat.succ_pos n) held)
    have others : n ≤ rest.length := by simpa [queue] using held
    have removed := removeOldest_of_loss loss (by simp [queue])
    simp only [deliver, queue]
    rw [removed, deliver_of_noLoss rfl]
    simp [State.eventsAfterLoss, queue, List.take_append_of_le_length others]

/-! ## EVENT_READ -/

/-- The reply to a read of n records, which leaves the queue given. -/
def State.answerRead (s : State) (tag : Half) (n : Nat) (events : EventQueue) : State :=
  accept kindEventRead tag
    (byte1 (s.events.queue.take n).length ++ (s.events.queue.take n).flatMap EventRecord.bytes)
    { s with events := events }

theorem eventRead_of_outOfRange {count : Byte} (out : count.toNat < 1 ∨ 8 < count.toNat) (tag : Half) (s : State) :
    eventRead tag count s = refuse kindEventRead tag .badField s :=
  if_pos out

theorem eventRead_of_inRange {count : Byte} (low : 1 ≤ count.toNat) (high : count.toNat ≤ 8) (tag : Half)
    (s : State) :
    eventRead tag count s =
      accept kindEventRead tag
        (byte1 (deliver count.toNat s).length ++ (deliver count.toNat s).flatMap EventRecord.bytes)
        (removeRecords count.toNat s) :=
  if_neg (by omega)

theorem eventRead_of_noLoss {count : Byte} {s : State} (low : 1 ≤ count.toNat) (high : count.toNat ≤ 8)
    (noLoss : s.events.lost = 0) (tag : Half) :
    eventRead tag count s = s.answerRead tag count.toNat (s.events.afterRead count.toNat) := by
  rw [eventRead_of_inRange low high, deliver_of_noLoss noLoss, removeRecords_of_noLoss noLoss, State.answerRead]

theorem eventRead_of_loss {count : Byte} {s : State} (low : 1 ≤ count.toNat) (high : count.toNat ≤ 8)
    (loss : s.events.lost ≠ 0) (held : count.toNat ≤ s.events.queue.length) (tag : Half) :
    eventRead tag count s = s.answerRead tag count.toNat (s.eventsAfterLoss count.toNat) := by
  rw [eventRead_of_inRange low high, deliver_of_loss loss held, removeRecords_of_loss loss low held,
    State.answerRead]

/-- A read releases ATN exactly with the last record, where no event is lost (R173). -/
theorem eventRead_atnLow_iff {count : Byte} {s : State} (low : 1 ≤ count.toNat) (high : count.toNat ≤ 8)
    (reached : s.events.lost = 0 ∨ count.toNat ≤ s.events.queue.length) (tag : Half) :
    atnLow (eventRead tag count s) = true ↔ count.toNat < s.events.queue.length ∨ s.events.lost ≠ 0 := by
  rw [atnLow_iff]
  by_cases noLoss : s.events.lost = 0
  · rw [eventRead_of_noLoss low high noLoss]
    simp [State.answerRead, EventQueue.afterRead, noLoss]
  · rw [eventRead_of_loss low high noLoss (reached.resolve_left noLoss)]
    simp [State.answerRead, State.eventsAfterLoss, noLoss]

end Sys2Proof.Machine
end

section
/-! What each operation of the part does to the event queue: outside EVENT_READ and the resets, it leaves the records
that stand in the queue where they are, and enters its own behind them (R169). In each of its branches an operation calls
others of this list or leaves the events alone; its proof names the rules of those it calls. -/

namespace Sys2Proof.Machine

/-- The operation keeps the records at the front of the queue, and enters records at its end alone (R169). -/
abbrev Appends (op : State → State) : Prop :=
  ∀ ⦃q : List EventRecord⦄ ⦃s : State⦄, q <+: s.events.queue → q <+: (op s).events.queue

theorem raiseEvent_appends (kind : EventKind) (unit : Nat) (detail1 detail2 : Half) :
    Appends (raiseEvent kind unit detail1 detail2) := by
  intro q s h
  dsimp only [raiseEvent]
  split_ifs
  · exact h.trans ⟨_, rfl⟩
  · exact h
  · exact h

theorem forEach_appends {α : Type} (units : List α) {act : α → State → State}
    (each : ∀ u, Appends (act u)) : Appends (forEach units act) := fun q s h =>
  forEach_invariant (fun t => q <+: t.events.queue) units act (fun u _ => @each u q _) s h

/-! ### Counters and fills (R75 to R78, R81, R102, R162) -/

theorem storeCounter_appends (i : CounterId) (c : Counter) : Appends (storeCounter i c) := by
  grind [storeCounter, raiseEvent_appends]

theorem countOn_appends (i : CounterId) : Appends (countOn i) := fun _ _ h => storeCounter_appends i _ h

theorem learn_appends (r : RobotId) (recipe : Recipe) (a : Nat) : Appends (learn r recipe a) := by
  grind [learn, raiseEvent_appends, mapDose_frame]

theorem reportJob_appends (r : RobotId) (cut : Bool) : Appends (reportJob r cut) := by
  grind [reportJob, mapDose_frame, editSlot_frame, countOn_appends, raiseCommand_frame, learn_appends, dropJob_frame,
    recordFill_frame]

theorem failJob_appends (r : RobotId) (outcome : FillOutcome) (ending : Ending) :
    Appends (failJob r outcome ending) := by
  grind [failJob, mapDose_frame, editSlot_frame, countOn_appends, raiseCommand_frame, dropJob_frame, recordFill_frame]

theorem abortJob_appends (r : RobotId) : Appends (abortJob r) := failJob_appends r .aborted .aborted

theorem countDrip_appends (r : RobotId) : Appends (countDrip r) := by
  grind [countDrip, mapDose_frame, raiseEvent_appends]

theorem flowPulse_appends (r : RobotId) : Appends (flowPulse r) := by
  grind [flowPulse, countPulse_frame, countDrip_appends]

/-! ### Robots (4.1 to 4.6) -/

theorem changeRobot_appends (r : RobotId) (f : Robot → Robot) : Appends (changeRobot r f) := by
  grind [changeRobot, mapRobot_frame, raiseEvent_appends]

theorem enterFaulted_appends (r : RobotId) (why : FaultReason) : Appends (enterFaulted r why) :=
  fun _ _ h => changeRobot_appends r _ (abortJob_appends r h)

theorem enterLost_appends (r : RobotId) : Appends (enterLost r) := by
  grind [enterLost, raiseEvent_appends, abortJob_appends, dropLostCommands_frame, changeRobot_appends]

theorem countFailure_appends (r : RobotId) : Appends (countFailure r) := by
  grind [countFailure, mapRobot_frame, enterLost_appends]

theorem endLoss_appends (r : RobotId) (st : RobotStatus) : Appends (endLoss r st) := changeRobot_appends r _

theorem takePoll_appends (r : RobotId) (st : RobotStatus) : Appends (takePoll r st) := by
  intro q s h
  dsimp only [takePoll]
  split
  · exact endLoss_appends r st h
  · split
    · split
      · exact enterFaulted_appends r _ h
      · exact h
    · grind [startFilling_frame, mapRobot_frame]
    · exact h

theorem valveFault_appends (r : RobotId) (why : FaultReason) : Appends (valveFault r why) := by
  grind [valveFault, enterFaulted_appends, raiseEvent_appends]

theorem checkExpiry_appends (r : RobotId) : Appends (checkExpiry r) := by
  grind [checkExpiry, mapDose_frame, valveFault_appends]

theorem stuckValve_appends (r : RobotId) : Appends (stuckValve r) := by
  grind [stuckValve, valveFault_appends]

theorem feedbackChange_appends (r : RobotId) (showsOpen : Bool) : Appends (feedbackChange r showsOpen) := by
  grind [feedbackChange, mapDose_frame, stuckValve_appends]

theorem noFlowExpiry_appends (r : RobotId) : Appends (noFlowExpiry r) := by
  grind [noFlowExpiry, raiseEvent_appends, abortJob_appends]

theorem settleExpiry_appends (r : RobotId) : Appends (settleExpiry r) := by
  grind [settleExpiry, reportJob_appends]

theorem valveSecond_appends (r : RobotId) : Appends (valveSecond r) := by
  grind [valveSecond, countOn_appends]

theorem enterService_appends (jog : Bool) (r : RobotId) : Appends (enterService jog r) := by
  grind [enterService, changeRobot_appends, raiseCommand_frame]

theorem leaveService_appends (r : RobotId) : Appends (leaveService r) := by
  grind [leaveService, changeRobot_appends, raiseCommand_frame]

theorem intrudeRobot_appends (r : RobotId) : Appends (intrudeRobot r) := by
  grind [intrudeRobot, changeRobot_appends, abortJob_appends, raiseCommand_frame, mapRobot_frame]

theorem exitLimit_appends (r : RobotId) : Appends (exitLimit r) := by
  grind [exitLimit, reportJob_appends, failJob_appends]

theorem approachLimit_appends (r : RobotId) : Appends (approachLimit r) := by
  grind [approachLimit, failJob_appends]

/-! ### The robot bus (4.7) -/

theorem startTransaction_appends : Appends startTransaction := by
  grind [startTransaction_frame]

theorem broadcastSent_appends : Appends broadcastSent := by
  grind [broadcastSent_frame]

theorem transactionFailed_appends (r : RobotId) (serial : Nat) (c : BusCommand) :
    Appends (transactionFailed r serial c) := by
  grind [transactionFailed, countFailure_appends, removeEntry_frame, commandFailed_frame]

theorem commandDone_appends (acked : Bool) : Appends (commandDone acked) := by
  grind [commandDone, commandSucceeded_frame, endTransaction_frame, transactionFailed_appends]

theorem pollDone_appends (acked : Bool) (statusByte codeByte : Byte) :
    Appends (pollDone acked statusByte codeByte) := by
  grind [pollDone, takePoll_appends, removeEntry_frame, endTransaction_frame, transactionFailed_appends]

theorem clockHold_appends (r : RobotId) : Appends (clockHold r) := by
  grind [clockHold, countFailure_appends, transactionFailed_appends, endTransaction_frame]

theorem clockRelease_appends (r : RobotId) : Appends (clockRelease r) := by
  grind [clockRelease_frame]

theorem pollExpiry_appends (r : RobotId) : Appends (pollExpiry r) := by
  grind [pollExpiry_frame]

/-! ### Power groups and the main switch (6.1, 6.2) -/

theorem enterGroup_appends (g : GroupId) (st : GroupState) : Appends (enterGroup g st) :=
  fun _ _ h => raiseEvent_appends _ _ _ _ h

theorem leaveClosed_appends (zones : List GroupId) : Appends (leaveClosed zones) := by
  grind [leaveClosed, forEach_appends, abortJob_appends, mapRobot_frame]

theorem dropCoil_appends (g : GroupId) : Appends (dropCoil g) := by
  grind [dropCoil, enterGroup_appends]

theorem openGroup_appends (g : GroupId) : Appends (openGroup g) := by
  grind [openGroup, leaveClosed_appends, dropCoil_appends]

theorem closeGroup_appends (g : GroupId) : Appends (closeGroup g) := by
  grind [closeGroup, countOn_appends, enterGroup_appends]

theorem pullinExpiry_appends (g : GroupId) : Appends (pullinExpiry g) := by
  grind [pullinExpiry, enterGroup_appends, raiseEvent_appends]

theorem fallOutExpiry_appends (g : GroupId) : Appends (fallOutExpiry g) := by
  grind [fallOutExpiry, leaveClosed_appends, enterGroup_appends, raiseEvent_appends]

theorem dropoutExpiry_appends (g : GroupId) : Appends (dropoutExpiry g) := by
  grind [dropoutExpiry, enterGroup_appends, raiseEvent_appends]

theorem weldExpiry_appends (g : GroupId) : Appends (weldExpiry g) := by
  grind [weldExpiry, enterGroup_appends, raiseEvent_appends]

theorem mirrorChange_appends (g : GroupId) (reportsClosed : Bool) : Appends (mirrorChange g reportsClosed) := by
  grind [mirrorChange, enterGroup_appends, setGroupTimer_frame]

theorem cutPower_appends : Appends cutPower := by
  grind [cutPower, raiseBroadcast_frame, leaveClosed_appends, forEach_appends, dropCoil_appends]

theorem switchToOn_appends : Appends switchToOn := by
  grind [switchToOn, setSwitch_frame, raiseEvent_appends]

theorem switchToOff_appends : Appends switchToOff := by
  grind [switchToOff, setSwitch_frame, cutPower_appends, raiseEvent_appends, addSwitchCause_frame]

theorem contactChange_appends (msaClosed msbClosed : Bool) : Appends (contactChange msaClosed msbClosed) := by
  grind [contactChange, switchToOn_appends, switchToOff_appends, setSwitch_frame]

theorem discrepancyExpiry_appends : Appends discrepancyExpiry := by
  grind [discrepancyExpiry, raiseEvent_appends, addSwitchCause_frame, addDiscrepancy_frame, cutPower_appends]

/-! ### Grants, doors and intrusions (chapter 7) -/

theorem raiseGrantState_appends (i : PlaceId) (badge : Long) (code : Nat) : Appends (raiseGrantState i badge code) :=
  raiseEvent_appends _ _ _ _

theorem enterGrant_appends (i : PlaceId) (g : Grant) (st : GrantState) : Appends (enterGrant i g st) := by
  grind [enterGrant, raiseGrantState_appends, putGrant_frame]

theorem serveRobots_appends (g : Grant) : Appends (serveRobots g) := by
  grind [serveRobots, forEach_appends, enterService_appends]

theorem endDrain_appends (i : PlaceId) (g : Grant) : Appends (endDrain i g) := by
  grind [endDrain, serveRobots_appends, enterGrant_appends, forEach_appends, openGroup_appends]

theorem judgeDrain_appends (i : PlaceId) : Appends (judgeDrain i) := by
  grind [judgeDrain, endDrain_appends]

theorem judgeIsolation_appends (i : PlaceId) : Appends (judgeIsolation i) := by
  grind [judgeIsolation, enterGrant_appends, raiseEvent_appends]

theorem judgeGrants_appends : Appends judgeGrants := by
  grind [judgeGrants, forEach_appends, judgeIsolation_appends, judgeDrain_appends]

theorem settle_appends : Appends settle := by
  grind [settle, judgeReleases_frame, judgeGrants_appends]

theorem Appends.settled {op : State → State} (appends : Appends op) : Appends fun s => settle (op s) := by
  grind [settle_appends]

theorem drainExpiry_appends (i : PlaceId) : Appends (drainExpiry i) := by
  grind [drainExpiry, forEach_appends, abortJob_appends]

theorem endGrant_appends (i : PlaceId) (g : Grant) : Appends (endGrant i g) := by
  grind [endGrant, putGrant_frame, forEach_appends, leaveService_appends, raiseGrantState_appends]

theorem atExpiry_appends (i : PlaceId) (g : Grant) : Appends (atExpiry i g) := by
  grind [atExpiry, endGrant_appends, enterGrant_appends, raiseEvent_appends]

theorem expireGrant_appends (i : PlaceId) (uptime : Long) : Appends (expireGrant i uptime) := by
  grind [expireGrant, atExpiry_appends]

theorem zoneIntrusion_appends (z : GroupId) (how : Half) : Appends (zoneIntrusion z how) := by
  grind [zoneIntrusion, raiseEvent_appends, setZoneLatch_frame, forEach_appends, intrudeRobot_appends,
    openGroup_appends]

theorem cabinetIntrusion_appends (how zoneHow : Half) : Appends (cabinetIntrusion how zoneHow) := by
  grind [cabinetIntrusion, addCabinetIntrusion_frame, raiseEvent_appends, raiseBroadcast_frame, forEach_appends,
    zoneIntrusion_appends]

theorem endClosedGrant_appends (d : DoorId) (i : PlaceId) : Appends (endClosedGrant d i) := by
  grind [endClosedGrant, endGrant_appends]

theorem endClosedGrants_appends (d : DoorId) : Appends (endClosedGrants d) := by
  grind [endClosedGrants, forEach_appends, endClosedGrant_appends]

theorem judgeOpening_appends (d : DoorId) : Appends (judgeOpening d) := by
  grind [judgeOpening, zoneIntrusion_appends, cabinetIntrusion_appends]

theorem doorChange_appends (d : DoorId) (isOpen : Bool) : Appends (doorChange d isOpen) := by
  grind [doorChange, judgeOpening_appends, flagOpened_frame, endClosedGrants_appends]

/-! ### Cameras (chapter 2) -/

theorem deadlineCheck_appends (n : CameraId) : Appends (deadlineCheck n) := by
  grind [deadlineCheck_frame]

theorem pulseTrigger_appends (n : CameraId) (t : Half) : Appends (pulseTrigger n t) := by
  grind [pulseTrigger, countOn_appends, mapCamera_frame]

theorem triggerAt_appends (n : CameraId) : Appends (triggerAt n) := by
  grind [triggerAt, missAt_frame, pulseTrigger_appends, raiseEvent_appends]

theorem statusReady_appends (n : CameraId) : Appends (statusReady n) := by
  grind [statusReady, forEach_appends, editSlot_frame, mapCamera_frame, raiseEvent_appends]

theorem statusNotReady_appends (n : CameraId) : Appends (statusNotReady n) := by
  grind [statusNotReady, raiseEvent_appends, mapCamera_frame]

theorem silenceExpiry_appends (n : CameraId) : Appends (silenceExpiry n) := by
  grind [silenceExpiry, raiseEvent_appends, mapCamera_frame]

theorem takeVerdict_appends (n : CameraId) (t : Byte) (classes : ClassSet) : Appends (takeVerdict n t classes) := by
  grind [takeVerdict, editSlot_frame, mapCamera_frame, raiseEvent_appends]

theorem takeRecord_appends (n : CameraId) (kind : RecordKind) (params : List Byte) :
    Appends (takeRecord n kind params) := by
  intro q s h
  unfold takeRecord
  split
  · exact takeVerdict_appends n _ _ h
  · split_ifs
    · exact statusReady_appends n h
    · exact statusNotReady_appends n h
    · exact raiseEvent_appends _ _ _ _ h
  · exact h

theorem takeKind_appends (n : CameraId) (b : Byte) : Appends (takeKind n b) := by
  grind [takeKind, raiseEvent_appends, setReceiver_frame]

theorem takeParameter_appends (n : CameraId) (b : Byte) : Appends (takeParameter n b) := by
  grind [takeParameter, mapCamera_frame, setReceiver_frame, takeRecord_appends]

theorem takeByte_appends (n : CameraId) (kindByte : Bool) (b : Byte) : Appends (takeByte n kindByte b) := by
  grind [takeByte, selectPort_frame, mapCamera_frame, takeKind_appends, takeParameter_appends]

theorem clockBit_appends (n : CameraId) (data kindHigh : Bool) : Appends (clockBit n data kindHigh) := by
  grind [clockBit, selectPort_frame, mapCamera_frame, takeByte_appends]

theorem selectRise_appends (n : CameraId) : Appends (selectRise n) := by
  grind [selectRise_frame]

theorem sendRecord_appends (n : CameraId) (kind : RecordKind) (params : List Byte) :
    Appends (sendRecord n kind params) := by
  grind [sendRecord, forEach_appends, takeByte_appends]

/-! ### Gates and discharge (chapter 3, R18, R19) -/

theorem countUnconfirmed_appends (g : GateId) (t : Half) : Appends (countUnconfirmed g t) := by
  grind [countUnconfirmed, mapGate_frame, addGateFault_frame, raiseEvent_appends]

theorem unconfirm_appends (g : GateId) (why : UnconfirmedReason) (t : Half) : Appends (unconfirm g why t) := by
  grind [unconfirm, raiseEvent_appends, editSlot_frame, countUnconfirmed_appends]

theorem expireConfirm_appends (g : GateId) : Appends (expireConfirm g) := by
  grind [expireConfirm, forEach_appends, unconfirm_appends, mapGate_frame]

theorem dropPending_appends (g : GateId) : Appends (dropPending g) := by
  grind [dropPending, unconfirm_appends, mapGate_frame]

theorem gatesAtBoundary_appends : Appends gatesAtBoundary := by
  grind [gatesAtBoundary, forEach_appends, dropPending_appends, ageConfirm_frame, expireConfirm_appends,
    judgeSlot_frame]

theorem fireAt_appends (g : GateId) : Appends (fireAt g) := by
  grind [fireAt, countOn_appends, editSlot_frame, mapGate_frame]

theorem pulseExpiry_appends (g : GateId) : Appends (pulseExpiry g) := by
  grind [pulseExpiry_frame]

theorem confirmEdge_appends (g : GateId) : Appends (confirmEdge g) := by
  grind [confirmEdge, editSlot_frame, mapGate_frame, mapTallies_frame, raiseEvent_appends]

theorem expireDischarged_appends (t : Half) (g : GateId) : Appends (expireDischarged t g) := by
  grind [expireDischarged, unconfirm_appends, mapGate_frame]

theorem judgeLeaving_appends (sl : Slot) : Appends (judgeLeaving sl) := by
  grind [judgeLeaving, addEscape_frame, raiseEvent_appends, mapTallies_frame]

theorem discharge_appends (p : Nat) : Appends (discharge p) := by
  grind [discharge, forEach_appends, expireDischarged_appends, retireAll_frame, judgeLeaving_appends]

/-! ### The track (chapter 1) -/

theorem advance_appends : Appends advance := by
  grind [advance, createSlot_frame, discharge_appends]

theorem fillerAtBoundary_appends : Appends fillerAtBoundary := by
  grind [fillerAtBoundary, judgeGrants_appends, forEach_appends, exitLimit_appends, approachLimit_appends,
    assignEntry_frame, judgeReleases_frame, armRobot_frame]

theorem boundary_appends : Appends boundary := by
  grind [boundary, fillerAtBoundary_appends, gatesAtBoundary_appends, camerasAtBoundary_frame, advance_appends,
    activateStaged_frame]

theorem reachPhase_appends (infActive : Bool) : Appends (reachPhase infActive) := by
  grind [reachPhase, forEach_appends, triggerAt_appends, fireAt_appends, sampleInfeed_frame]

theorem countedEdge_appends (infActive : Bool) : Appends (countedEdge infActive) := by
  grind [countedEdge, reachPhase_appends, setPitchCounter_frame, boundary_appends]

theorem strayEdge_appends : Appends strayEdge := by
  grind [strayEdge, raiseEvent_appends]

theorem runRise_appends : Appends runRise := by
  grind [runRise_frame]

theorem runFall_appends : Appends runFall := fun _ _ h => h

/-! ### The tick and its expiries (8.1, R151) -/

theorem rolloverTime_appends : Appends rolloverTime := by
  grind [rolloverTime, raiseEvent_appends]

theorem rollover_appends : Appends rollover := by
  grind [rollover, forEach_appends, settle_appends, expireGrant_appends, rolloverTime_appends]

theorem gapExpiry_appends : Appends gapExpiry := by
  grind [gapExpiry_frame]

theorem groupExpiries_appends (g : GroupId) : Appends (groupExpiries g) := by
  grind [groupExpiries, weldExpiry_appends, dropoutExpiry_appends, fallOutExpiry_appends, pullinExpiry_appends]

theorem robotExpiries_appends (r : RobotId) : Appends (robotExpiries r) := by
  intro q s h
  unfold robotExpiries
  have checked := settle_appends (checkExpiry_appends r h)
  have supervised := settle_appends (stuckValve_appends r checked)
  have flowing := settle_appends (noFlowExpiry_appends r supervised)
  exact settle_appends (settleExpiry_appends r flowing)

theorem expireTimers_appends : Appends expireTimers := by
  intro q s h
  dsimp only [expireTimers]
  have switched := settle_appends (discrepancyExpiry_appends h)
  have supervised := forEach_appends (allUnits 4) (fun g => (groupExpiries_appends g).settled) switched
  have drained := forEach_appends (allUnits 8) (fun i => (drainExpiry_appends i).settled) supervised
  have heard := forEach_appends (allUnits 6) silenceExpiry_appends drained
  have fired := forEach_appends (allUnits 2) pulseExpiry_appends heard
  have filled := forEach_appends (allUnits 8) robotExpiries_appends fired
  have timed := forEach_appends (allUnits 8) (fun r => (valveSecond_appends r).settled) filled
  have polled := forEach_appends (allUnits 8) pollExpiry_appends timed
  exact gapExpiry_appends polled

theorem tick_appends : Appends tick := by
  grind [tick, advanceTimers_frame, expireTimers_appends, rollover_appends]

theorem secondsRollover_appends : Appends secondsRollover := by
  grind [secondsRollover, tick_appends]

/-! ### One timer's share of the tick -/

theorem shareOfTick_appends {due : State → Bool} {advanceOne act : State → State} (advances : Appends advanceOne)
    (acts : Appends act) : Appends (shareOfTick due advanceOne act) := by
  intro q s h
  dsimp only [shareOfTick]
  split
  · exact settle_appends (acts (advances h))
  · exact h

theorem shareGroup_appends (g : GroupId) {due : State → Bool} {act : State → State} (acts : Appends act) :
    Appends (shareGroup g due act) :=
  shareOfTick_appends (fun _ _ h => h) acts

theorem takeValveTime_appends (r : RobotId) : Appends (takeValveTime r) := by
  grind [takeValveTime, valveSecond_appends, noteShare_frame]

theorem countClosed_appends (before : State) : Appends (countClosed before) := by
  grind [countClosed, forEach_appends, settle_appends, takeValveTime_appends]

theorem shareSilence_appends (n : CameraId) : Appends (shareSilence n) := by
  grind [shareSilence, shareOfTick_appends, mapCamera_frame, silenceExpiry_appends]

theorem sharePulse_appends (g : GateId) : Appends (sharePulse g) := by
  grind [sharePulse, shareOfTick_appends, mapGate_frame, pulseExpiry_appends]

theorem shareSettle_appends (r : RobotId) : Appends (shareSettle r) := by
  grind [shareSettle, shareOfTick_appends, mapRobot_frame, settleExpiry_appends]

theorem shareNoFlow_appends (r : RobotId) : Appends (shareNoFlow r) := by
  grind [shareNoFlow, countClosed_appends, shareOfTick_appends, mapRobot_frame, noFlowExpiry_appends]

theorem shareCheck_appends (r : RobotId) : Appends (shareCheck r) := by
  grind [shareCheck, countClosed_appends, shareOfTick_appends, mapDose_frame, checkExpiry_appends]

theorem shareValveTime_appends (r : RobotId) : Appends (shareValveTime r) := by
  grind [shareValveTime, shareOfTick_appends, noteShare_frame, valveSecond_appends]

theorem sharePoll_appends (r : RobotId) : Appends (sharePoll r) := by
  grind [sharePoll, shareOfTick_appends, noteShare_frame, mapRobot_frame, pollExpiry_appends]

theorem shareAlike_appends : Appends shareAlike := by
  intro q s h
  have ticked : Appends fun t => { t with mainSwitch := t.mainSwitch.tick } := fun _ _ h => h
  exact countClosed_appends s (shareOfTick_appends ticked discrepancyExpiry_appends h)

theorem sharePullin_appends (g : GroupId) : Appends (sharePullin g) := by
  grind [sharePullin, shareGroup_appends, pullinExpiry_appends]

theorem shareFallOut_appends (g : GroupId) : Appends (shareFallOut g) := by
  grind [shareFallOut, countClosed_appends, shareGroup_appends, fallOutExpiry_appends]

theorem shareDropout_appends (g : GroupId) : Appends (shareDropout g) := by
  grind [shareDropout, shareGroup_appends, dropoutExpiry_appends]

theorem shareWeld_appends (g : GroupId) : Appends (shareWeld g) := by
  grind [shareWeld, shareGroup_appends, weldExpiry_appends]

theorem shareDrain_appends (i : PlaceId) : Appends (shareDrain i) := by
  grind [shareDrain, countClosed_appends, shareOfTick_appends, putGrant_frame, drainExpiry_appends]

theorem shareExpiry_appends (i : PlaceId) : Appends (shareExpiry i) := by
  intro q s h
  unfold shareExpiry
  exact settle_appends (expireGrant_appends i _ h)

theorem shareGap_appends : Appends shareGap :=
  shareOfTick_appends (fun _ _ h => h) gapExpiry_appends

/-! ### Requests of service access and of the counters (R131 to R164) -/

theorem placeGrant_appends (i : PlaceId) (g : Grant) : Appends (placeGrant i g) := by
  grind [placeGrant, putGrant_frame, raiseGrantState_appends]

theorem grantRequest_appends (tag : Half) (kind zones : Byte) (badge : Long) (duration : Half) :
    Appends (grantRequest tag kind zones badge duration) := by
  grind [grantRequest, refuse_frame, settle_appends, placeGrant_appends, accept_frame]

theorem endByRequest_appends (i : PlaceId) (g : Grant) : Appends (endByRequest i g) := by
  grind [endByRequest, endGrant_appends, enterGrant_appends]

theorem grantEnd_appends (tag number : Half) : Appends (grantEnd tag number) := by
  grind [grantEnd, refuse_frame, endByRequest_appends, accept_frame, settle_appends]

theorem extendGrant_appends (i : PlaceId) (g : Grant) (minutes : Nat) : Appends (extendGrant i g minutes) := by
  grind [extendGrant, enterGrant_appends, putGrant_frame]

theorem grantExtend_appends (tag number minutes : Half) : Appends (grantExtend tag number minutes) := by
  grind [grantExtend, refuse_frame, extendGrant_appends, accept_frame, settle_appends]

theorem grantRead_appends (tag : Half) (place : Byte) : Appends (grantRead tag place) := by
  grind [grantRead_frame]

theorem clearZoneLatch_appends (tag : Half) (number : Byte) : Appends (clearZoneLatch tag number) := by
  grind [clearZoneLatch, refuse_frame, accept_frame, settle_appends, setZoneLatch_frame]

theorem clearCabinetLatch_appends (tag : Half) (number : Byte) : Appends (clearCabinetLatch tag number) := by
  grind [clearCabinetLatch_frame]

theorem timeSet_appends (tag : Half) (seconds : Long) : Appends (timeSet tag seconds) := by
  grind [timeSet_frame]

theorem timeRead_appends (tag : Half) : Appends (timeRead tag) := by
  grind [timeRead_frame]

theorem acceptCounter_appends (kind : Byte) (tag : Half) (i : CounterId) (c : Counter) :
    Appends (acceptCounter kind tag i c) := by
  grind [acceptCounter, settle_appends, storeCounter_appends, accept_frame]

theorem counterLoad_appends (tag : Half) (counter : Byte) (total : Long) :
    Appends (counterLoad tag counter total) := by
  grind [counterLoad, acceptCounter_appends, refuse_frame]

theorem counterLimits_appends (tag : Half) (counter : Byte) (warn due : Long) (margin zone : Byte) :
    Appends (counterLimits tag counter warn due margin zone) := by
  grind [counterLimits, refuse_frame, acceptCounter_appends]

theorem counterReset_appends (tag : Half) (counter : Byte) : Appends (counterReset tag counter) := by
  grind [counterReset, acceptCounter_appends, refuse_frame]

theorem counterRead_appends (tag : Half) (counter : Byte) : Appends (counterRead tag counter) := by
  grind [counterRead_frame]

/-! ### Requests of the track side (R6 to R11, R24, R45, R71) -/

theorem raiseClamped_appends (unit phase : Nat) : Appends (raiseClamped unit phase) :=
  fun _ _ h => raiseEvent_appends _ _ _ _ h

theorem clampCamera_appends (n : CameraId) : Appends (clampCamera n) := by
  grind [clampCamera, raiseClamped_appends, mapCamera_frame]

theorem clampGate_appends (g : GateId) : Appends (clampGate g) := by
  grind [clampGate, raiseClamped_appends, mapGate_frame]

theorem clampWindowStart_appends : Appends clampWindowStart := by
  grind [clampWindowStart, raiseClamped_appends]

theorem clampWindowEnd_appends : Appends clampWindowEnd := by
  grind [clampWindowEnd, raiseClamped_appends]

theorem clampAll_appends : Appends clampAll := by
  grind [clampAll, clampCounter_frame, clampWindowEnd_appends, clampWindowStart_appends, forEach_appends,
    clampGate_appends, clampCamera_appends]

theorem checkLimits_appends : Appends checkLimits := by
  grind [checkLimits, forEach_appends, expireConfirm_appends, deadlineCheck_appends]

theorem changeLength_appends (l : Nat) : Appends (changeLength l) := by
  grind [changeLength, forEach_appends, addSlot_frame, discharge_appends]

theorem trackConfig_appends (tag pitch : Half) (length : Byte) (infeedStart infeedEnd : Half) :
    Appends (trackConfig tag pitch length infeedStart infeedEnd) := by
  grind [trackConfig, refuse_frame, layoutBase_frame, writeTrack_frame, accept_frame, changeLength_appends,
    checkLimits_appends, clampAll_appends]

theorem stageCamera_appends (n : CameraId) (new : CameraSettings) : Appends (stageCamera n new) := by
  grind [stageCamera, mapCamera_frame, raiseClamped_appends]

theorem configureCamera_appends (tag : Half) (n : CameraId) (new : CameraSettings) :
    Appends (configureCamera tag n new) := by
  grind [configureCamera, refuse_frame, writeCamera_frame, layoutBase_frame, accept_frame, stageCamera_appends,
    checkLimits_appends, reconfigureCamera_frame, clampAll_appends]

theorem cameraConfig_appends (tag : Half) (camera enabled position : Byte) (phase classMask : Half)
    (required deadline : Byte) :
    Appends (cameraConfig tag camera enabled position phase classMask required deadline) := by
  grind [cameraConfig, refuse_frame, configureCamera_appends]

theorem dropRejects_appends (g : GateId) : Appends (dropRejects g) := by
  grind [dropRejects, forEach_appends, unconfirm_appends, mapGate_frame]

theorem reconfigureGate_appends (g : GateId) (old new : GateSettings) : Appends (reconfigureGate g old new) := by
  grind [reconfigureGate, dropRejects_appends, mapGate_frame]

theorem stageGate_appends (g : GateId) (new : GateSettings) : Appends (stageGate g new) := by
  grind [stageGate, mapGate_frame, raiseClamped_appends]

theorem configureGate_appends (tag : Half) (g : GateId) (new : GateSettings) : Appends (configureGate tag g new) := by
  grind [configureGate, refuse_frame, writeGate_frame, layoutBase_frame, accept_frame, stageGate_appends,
    checkLimits_appends, reconfigureGate_appends, clampAll_appends]

theorem gateConfig_appends (tag : Half) (gate enabled position : Byte) (phase : Half) (width : Byte)
    (classMask : Half) (window : Byte) :
    Appends (gateConfig tag gate enabled position phase width classMask window) := by
  grind [gateConfig, refuse_frame, configureGate_appends]

theorem fillerConfig_appends (tag : Half) (entry exit approach : Byte) :
    Appends (fillerConfig tag entry exit approach) := by
  grind [fillerConfig, refuse_frame, layoutBase_frame, accept_frame, checkLimits_appends, clampAll_appends]

theorem trackRead_appends (tag : Half) (position : Byte) : Appends (trackRead tag position) := by
  grind [trackRead_frame]

theorem trackTally_appends (tag : Half) (clear : Byte) : Appends (trackTally tag clear) := by
  grind [trackTally_frame]

theorem trackFlush_appends (tag : Half) : Appends (trackFlush tag) := by
  grind [trackFlush, refuse_frame, accept_frame, settle_appends, emptyUnitLists_frame, emptySlots_frame,
    forEach_appends, abortJob_appends]

theorem lineRelease_appends (tag : Half) : Appends (lineRelease tag) := by
  grind [lineRelease_frame]

theorem clearGateFault_appends (tag : Half) (number : Byte) : Appends (clearGateFault tag number) := by
  grind [clearGateFault_frame]

/-! ### The receiver and the transmitter (R176 to R180) -/

theorem rxdByte_appends (b : Byte) : Appends (rxdByte b) := fun _ _ h => h

theorem frameChecked_appends (b : Byte) : Appends (frameChecked b) := by
  grind [frameChecked_frame]

theorem lengthAbandon_appends (b : Byte) : Appends (lengthAbandon b) := by
  grind [lengthAbandon_frame]

theorem replySent_appends : Appends replySent := fun _ _ h => h

/-! ### Requests of the cabinet and of the robots (R62 to R65, R116 to R122) -/

theorem groupClose_appends (tag : Half) (group : Byte) : Appends (groupClose tag group) := by
  grind [groupClose, refuse_frame, accept_frame, settle_appends, closeGroup_appends]

theorem groupOpen_appends (tag : Half) (group : Byte) : Appends (groupOpen tag group) := by
  grind [groupOpen, settle_appends, openGroup_appends, accept_frame, refuse_frame]

theorem powerRead_appends (tag : Half) : Appends (powerRead tag) := by
  grind [powerRead_frame]

theorem clearSwitchFault_appends (tag : Half) (number : Byte) : Appends (clearSwitchFault tag number) := by
  grind [clearSwitchFault_frame]

theorem clearGroupFault_appends (tag : Half) (number : Byte) : Appends (clearGroupFault tag number) := by
  grind [clearGroupFault, accept_frame, settle_appends, enterGroup_appends, refuse_frame]

theorem robotConfig_appends (tag : Half) (robot zone address : Byte) :
    Appends (robotConfig tag robot zone address) := by
  grind [robotConfig_frame]

theorem recipeLoad_appends (tag : Half) (robot : Byte) (new : Recipe) : Appends (recipeLoad tag robot new) := by
  grind [recipeLoad_frame]

theorem leaveOff_appends (r : RobotId) : Appends (leaveOff r) := fun _ _ h => changeRobot_appends r _ h

theorem enterOff_appends (r : RobotId) : Appends (enterOff r) := fun _ _ h => changeRobot_appends r _ h

theorem modeChange_appends {s : State} {r : RobotId} {new : RobotMode} {change : State → State}
    (allowed : modeChange s r new = .ok change) : Appends change := by
  unfold modeChange at allowed
  split at allowed
  · cases allowed
  split at allowed
  · cases allowed
    exact leaveOff_appends r
  · cases allowed
    exact enterOff_appends r
  · split_ifs at allowed
    cases allowed
    exact changeRobot_appends r _
  · cases allowed
    exact fun _ _ h => changeRobot_appends r _ (abortJob_appends r h)
  · cases allowed

theorem robotMode_appends (tag : Half) (robot mode : Byte) : Appends (robotMode tag robot mode) := by
  intro q s h
  unfold robotMode
  split
  · split
    · exact h
    · split
      · simp only [accept_frame]
        exact settle_appends (modeChange_appends ‹_› h)
      · exact h
  · exact h

theorem robotRead_appends (tag : Half) (robot : Byte) : Appends (robotRead tag robot) := by
  grind [robotRead_frame]

theorem clearRobotFault_appends (tag : Half) (number : Byte) : Appends (clearRobotFault tag number) := by
  grind [clearRobotFault, accept_frame, settle_appends, changeRobot_appends, refuse_frame]

/-! ### The inputs at a reset (R113, R125, R149) -/

theorem bootDoors_appends : Appends bootDoors := by
  grind [bootDoors, forEach_appends, zoneIntrusion_appends, cabinetIntrusion_appends]

theorem bootInputs_appends : Appends bootInputs := by
  grind [bootInputs, bootDoors_appends]

/-! ### IDENT, STATUS and FAULT_CLEAR (R182 to R184) -/

theorem ident_appends (tag : Half) : Appends (ident tag) := by
  grind [ident_frame]

theorem status_appends (tag : Half) : Appends (status tag) := by
  grind [status_frame]

theorem faultClear_appends (tag : Half) (target number : Byte) : Appends (faultClear tag target number) := by
  grind [faultClear, clearGateFault_appends, clearRobotFault_appends, clearSwitchFault_appends,
    clearGroupFault_appends, clearZoneLatch_appends, clearCabinetLatch_appends, refuse_frame]

end Sys2Proof.Machine
end

section
/-! The commands and the event queue: what each command does to the records that stand in the queue, and which commands
release ATN (R169, R172 to R174). -/

namespace Sys2Proof.Machine

/-! ## The commands that append -/

/-- The commands that may take a record out of the queue: the resets, EVENT_READ, and the taking of a request that may
be one of these. -/
def mayRemove : Instr → Bool
  | .powerOnReset _ _ | .restart _ | .eventRead _ _ | .requestTaken => true
  | _ => false

theorem eq_of_mayRemove {c : Instr} (removes : mayRemove c = true) :
    (∃ up baud, c = .powerOnReset up baud) ∨ (∃ tag, c = .restart tag)
      ∨ (∃ tag count, c = .eventRead tag count) ∨ c = .requestTaken := by
  cases c
  case powerOnReset up baud => exact .inl ⟨up, baud, rfl⟩
  case restart tag => exact .inr (.inl ⟨tag, rfl⟩)
  case eventRead tag count => exact .inr (.inr (.inl ⟨tag, count, rfl⟩))
  case requestTaken => exact .inr (.inr (.inr rfl))
  all_goals cases removes

theorem next_appends {op : State → State} (appends : Appends op) {q : List EventRecord} {s t : State}
    (h : q <+: s.events.queue) (step : (.next (op s) : Result) = .next t) : q <+: t.events.queue := by
  cases step
  exact appends h

/-- A request acts by its rule, or waits as a change of the link alone. -/
theorem request_appends {rule : State → State} (appends : Appends rule) {c : Instr} {q : List EventRecord}
    {s t : State} (h : q <+: s.events.queue) (step : hostRequest c rule s = .next t) : q <+: t.events.queue := by
  obtain ⟨-, rfl⟩ | ⟨-, link, rfl⟩ := hostRequest_cases step
  · exact appends h
  · exact h

theorem unknownStatus_appends (n : CameraId) (value : Byte) :
    Appends fun s => if value = 1 ∨ value = 2 then s else sendRecord n .status [value] s := by
  grind [sendRecord_appends]

theorem strayParameter_appends (n : CameraId) (value : Byte) :
    Appends fun s => if s.cameras[n].receiver = .idle then takeByte n false value s else s := by
  grind [takeByte_appends]

/-- Every other command leaves the records of the queue where they are, and enters its own behind them (R169). -/
theorem exec_appends {c : Instr} (other : mayRemove c = false) {q : List EventRecord} {s t : State}
    (step : exec c s = .next t) (h : q <+: s.events.queue) : q <+: t.events.queue := by
  cases c <;> dsimp only [exec] at step
  case powerOnReset => cases other
  case msTick => exact next_appends tick_appends h step
  case secondsRollover => exact next_appends secondsRollover_appends h step
  case encCountedEdge => exact next_appends (countedEdge_appends _) h step
  case verdictDeadline => exact next_appends (deadlineCheck_appends _) h step
  case confirmExpiry => exact next_appends (expireConfirm_appends _) h step
  case fillExitLimit => exact next_appends (exitLimit_appends _).settled h step
  case fillApproachLimit => exact next_appends (approachLimit_appends _).settled h step
  case triggerPulseEnd => cases step; exact h
  case gatePulseEnd => exact next_appends (sharePulse_appends _) h step
  case strayEdge => exact next_appends strayEdge_appends h step
  case runRise => exact next_appends runRise_appends h step
  case runFall => exact next_appends runFall_appends h step
  case verdict => exact next_appends (sendRecord_appends _ _ _) h step
  case statusReady => exact next_appends (sendRecord_appends _ _ _) h step
  case statusNotReady => exact next_appends (sendRecord_appends _ _ _) h step
  case statusUnknownValue => exact next_appends (unknownStatus_appends _ _) h step
  case cameraKindByte => exact next_appends (takeByte_appends _ true _) h step
  case strayParameter => exact next_appends (strayParameter_appends _ _) h step
  case cameraLost => exact next_appends (shareSilence_appends _) h step
  case gateConfirm => exact next_appends (confirmEdge_appends _) h step
  case busTransactionStart => exact next_appends startTransaction_appends h step
  case broadcastHoldSent => exact next_appends broadcastSent_appends.settled h step
  case commandTransactionDone => exact next_appends (commandDone_appends _).settled h step
  case pollDone => exact next_appends (pollDone_appends _ _ _).settled h step
  case pollTimer => exact next_appends (sharePoll_appends _) h step
  case clockHoldTimeout => exact next_appends (clockHold_appends _).settled h step
  case flowPulse => exact next_appends (flowPulse_appends _) h step
  case settleEnd => exact next_appends (shareSettle_appends _) h step
  case noFlow => exact next_appends (shareNoFlow_appends _) h step
  case valveCheckExpiry => exact next_appends (shareCheck_appends _) h step
  case valveFeedbackChange => exact next_appends (feedbackChange_appends _ _).settled h step
  case valveTimeSecond => exact next_appends (shareValveTime_appends _) h step
  case mainSwitchContactChange => exact next_appends (contactChange_appends _ _).settled h step
  case switchDiscrepancy => exact next_appends shareAlike_appends h step
  case mirrorContactChange => exact next_appends (mirrorChange_appends _ _).settled h step
  case pullinTimeout => exact next_appends (sharePullin_appends _) h step
  case fallOut => exact next_appends (shareFallOut_appends _) h step
  case dropoutTimeout => exact next_appends (shareDropout_appends _) h step
  case weldDetected => exact next_appends (shareWeld_appends _) h step
  case doorChange => exact next_appends (doorChange_appends _ _).settled h step
  case drainEnd => exact next_appends (judgeDrain_appends _).settled h step
  case drainLimit => exact next_appends (shareDrain_appends _) h step
  case isolationComplete => exact next_appends (judgeIsolation_appends _).settled h step
  case grantExpiry => exact next_appends (shareExpiry_appends _) h step
  case frameChecked => exact next_appends (frameChecked_appends _) h step
  case lengthAbandon => exact next_appends (lengthAbandon_appends _) h step
  case gapTimeout => exact next_appends shareGap_appends h step
  case requestTaken => cases other
  case ident => exact request_appends (ident_appends _) h step
  case status => exact request_appends (status_appends _) h step
  case restart => cases other
  case trackConfig => exact request_appends (trackConfig_appends _ _ _ _ _) h step
  case cameraConfig => exact request_appends (cameraConfig_appends _ _ _ _ _ _ _ _) h step
  case gateConfig => exact request_appends (gateConfig_appends _ _ _ _ _ _ _ _) h step
  case fillerConfig => exact request_appends (fillerConfig_appends _ _ _ _) h step
  case trackRead => exact request_appends (trackRead_appends _ _) h step
  case trackTally => exact request_appends (trackTally_appends _ _) h step
  case trackFlush => exact request_appends (trackFlush_appends _) h step
  case robotConfig => exact request_appends (robotConfig_appends _ _ _ _) h step
  case recipeLoad => exact request_appends (recipeLoad_appends _ _ _) h step
  case robotMode => exact request_appends (robotMode_appends _ _ _) h step
  case robotRead => exact request_appends (robotRead_appends _ _) h step
  case groupClose => exact request_appends (groupClose_appends _ _) h step
  case groupOpen => exact request_appends (groupOpen_appends _ _) h step
  case powerRead => exact request_appends (powerRead_appends _) h step
  case faultClearGate => exact request_appends (clearGateFault_appends _ _) h step
  case faultClearRobot => exact request_appends (clearRobotFault_appends _ _) h step
  case faultClearSwitch => exact request_appends (clearSwitchFault_appends _ _) h step
  case faultClearGroup => exact request_appends (clearGroupFault_appends _ _) h step
  case faultClearZone => exact request_appends (clearZoneLatch_appends _ _) h step
  case faultClearCabinet => exact request_appends (clearCabinetLatch_appends _ _) h step
  case lineRelease => exact request_appends (lineRelease_appends _) h step
  case grantRequest => exact request_appends (grantRequest_appends _ _ _ _ _) h step
  case grantEnd => exact request_appends (grantEnd_appends _ _) h step
  case grantExtend => exact request_appends (grantExtend_appends _ _ _) h step
  case grantRead => exact request_appends (grantRead_appends _ _) h step
  case timeSet => exact request_appends (timeSet_appends _ _) h step
  case timeRead => exact request_appends (timeRead_appends _) h step
  case counterLoad => exact request_appends (counterLoad_appends _ _ _) h step
  case counterLimits => exact request_appends (counterLimits_appends _ _ _ _ _ _) h step
  case counterReset => exact request_appends (counterReset_appends _ _) h step
  case counterRead => exact request_appends (counterRead_appends _ _) h step
  case eventRead => cases other
  case cameraClockEdge => exact next_appends (clockBit_appends _ _ _) h step
  case cameraSelectRise => exact next_appends (selectRise_appends _) h step
  case cameraParameterByte => exact next_appends (takeByte_appends _ false _) h step
  case rxdByteTaken => exact next_appends (rxdByte_appends _) h step
  case replySent => exact next_appends replySent_appends h step
  case robotClockRelease => exact next_appends (clockRelease_appends _) h step

/-! ## What keeps ATN low -/

/-- The operation does not release ATN. -/
def HoldsAtn (op : State → State) : Prop := ∀ s : State, atnLow s = true → atnLow (op s) = true

theorem atnLow_of_appended {s t : State} (appended : s.events.queue <+: t.events.queue) (low : atnLow s = true) :
    atnLow t = true := by
  rw [atnLow_iff] at low ⊢
  exact appended.ne_nil low

theorem Appends.holdsAtn {op : State → State} (appends : Appends op) : HoldsAtn op :=
  fun _ => atnLow_of_appended (appends ⟨[], List.append_nil _⟩)

/-- RESTART leaves its own record in the queue (R174). -/
theorem restart_atnLow (tag : Half) (s : State) : atnLow (restart tag s) = true := by
  have entered : atnLow (enterRecord .restarted 0 (detail s.events.queue.length) (detail s.events.lost)
      (restartState s)) = true := by simp [atnLow, enterRecord]
  have booted := bootInputs_appends.holdsAtn _ entered
  rw [atnLow_iff] at booted ⊢
  simpa only [restart, accept_frame] using booted

/-- With the link not idle RESTART waits, and ATN stays as it is. -/
theorem exec_restart_atnLow {tag : Half} {s t : State} (step : exec (.restart tag) s = .next t)
    (low : atnLow s = true) : atnLow t = true := by
  dsimp only [exec, execRestart] at step
  obtain ⟨-, rfl⟩ | ⟨-, link, rfl⟩ := hostRequest_cases step
  · exact restart_atnLow tag s
  · exact low

theorem rule_mem_of_lookup {kind : Byte} {rule : Half → List Byte → State → State}
    (owned : requestRules.lookup kind = some rule) : (kind, rule) ∈ requestRules := by
  obtain ⟨before, after, rules, -⟩ := List.lookup_eq_some_iff.mp owned
  simp [rules]

theorem requestRules_holdAtn :
    ∀ owned ∈ requestRules, owned.1 ≠ kindEventRead → ∀ tag fields, HoldsAtn (owned.2 tag fields) := by
  simp only [requestRules, List.forall_mem_cons]
  exact ⟨fun _ _ _ => (ident_appends _).holdsAtn,
    fun _ _ _ => (status_appends _).holdsAtn,
    fun _ tag _ s _ => restart_atnLow tag s,
    fun _ _ _ => (trackConfig_appends _ _ _ _ _).holdsAtn,
    fun _ _ _ => (cameraConfig_appends _ _ _ _ _ _ _ _).holdsAtn,
    fun _ _ _ => (gateConfig_appends _ _ _ _ _ _ _ _).holdsAtn,
    fun _ _ _ => (fillerConfig_appends _ _ _ _).holdsAtn,
    fun _ _ _ => (trackRead_appends _ _).holdsAtn,
    fun _ _ _ => (trackTally_appends _ _).holdsAtn,
    fun _ _ _ => (trackFlush_appends _).holdsAtn,
    fun _ _ _ => (robotConfig_appends _ _ _ _).holdsAtn,
    fun _ _ _ => (recipeLoad_appends _ _ _).holdsAtn,
    fun _ _ _ => (robotMode_appends _ _ _).holdsAtn,
    fun _ _ _ => (robotRead_appends _ _).holdsAtn,
    fun _ _ _ => (groupClose_appends _ _).holdsAtn,
    fun _ _ _ => (groupOpen_appends _ _).holdsAtn,
    fun _ _ _ => (powerRead_appends _).holdsAtn,
    fun _ _ _ => (faultClear_appends _ _ _).holdsAtn,
    fun _ _ _ => (lineRelease_appends _).holdsAtn,
    fun _ _ _ => (grantRequest_appends _ _ _ _ _).holdsAtn,
    fun _ _ _ => (grantEnd_appends _ _).holdsAtn,
    fun _ _ _ => (grantExtend_appends _ _ _).holdsAtn,
    fun _ _ _ => (grantRead_appends _ _).holdsAtn,
    fun _ _ _ => (timeSet_appends _ _).holdsAtn,
    fun _ _ _ => (timeRead_appends _).holdsAtn,
    fun _ _ _ => (counterLoad_appends _ _ _).holdsAtn,
    fun _ _ _ => (counterLimits_appends _ _ _ _ _ _).holdsAtn,
    fun _ _ _ => (counterReset_appends _ _).holdsAtn,
    fun _ _ _ => (counterRead_appends _ _).holdsAtn,
    fun other => absurd rfl other,
    fun _ impossible => absurd impossible List.not_mem_nil⟩

theorem serve_holdsAtn {f : Frame} (other : f.kind = kindEventRead → f.fields.length ≠ 1) : HoldsAtn (serve f) := by
  intro s low
  unfold serve
  split
  case h_1 size rule sized owned =>
    split
    case isTrue fits =>
      refine requestRules_holdAtn _ (rule_mem_of_lookup owned) (fun read : f.kind = kindEventRead => ?_) _ _ s low
      have one : requestSize f.kind = some 1 := by rw [read]; rfl
      exact other read (fits.trans (Option.some.inj (sized.symm.trans one)))
    case isFalse => exact low
  case h_2 => exact low

/-- A request taken from the buffer releases ATN only as an EVENT_READ. -/
theorem requestTaken_releases {s : State} (low : atnLow s = true) (released : atnLow (requestTaken s) = false) :
    s.link.sending = none
      ∧ ∃ (f : Frame) (rest : List Frame), s.link.buffer = f :: rest ∧ f.kind = 0x70 ∧ f.fields.length = 1 := by
  unfold requestTaken at released
  split at released
  case h_1 f rest idle waiting =>
    refine ⟨idle, f, rest, waiting, ?_⟩
    by_contra other
    have held : atnLow (serve f (s.mapLink fun l => { l with buffer := rest })) = true :=
      serve_holdsAtn (fun kind size => other ⟨kind, size⟩) _ low
    simp [held] at released
  case h_2 => simp [low] at released

/-- ATN is released by POWER_ON_RESET, by EVENT_READ, and by the taking of a buffered EVENT_READ alone (R173, R174). -/
theorem exec_releases_atn {c : Instr} {s t : State} (step : exec c s = .next t) (low : atnLow s = true)
    (released : atnLow t = false) :
    (∃ up baud : Bool, c = .powerOnReset up baud) ∨ (∃ (tag : Half) (count : Byte), c = .eventRead tag count)
      ∨ (c = .requestTaken ∧ s.link.sending = none
        ∧ ∃ (f : Frame) (rest : List Frame),
          s.link.buffer = f :: rest ∧ f.kind = 0x70 ∧ f.fields.length = 1) := by
  cases removes : mayRemove c
  case false => simp [atnLow_of_appended (exec_appends removes step ⟨[], List.append_nil _⟩) low] at released
  case true =>
    obtain ⟨up, baud, rfl⟩ | ⟨tag, rfl⟩ | ⟨tag, count, rfl⟩ | rfl := eq_of_mayRemove removes
    · exact .inl ⟨up, baud, rfl⟩
    · simp [exec_restart_atnLow step low] at released
    · exact .inr (.inl ⟨tag, count, rfl⟩)
    · cases step
      exact .inr (.inr ⟨rfl, requestTaken_releases low released⟩)

/-! ## The obligation -/

/-- Settles O59: an event raised by whether the queue has room, a read by whether an event is lost, and the release of
ATN by what each command does to the records that stand in the queue. -/
theorem eventsAreEnteredAndDelivered : Obligations.EventsAreEnteredAndDelivered := by
  refine ⟨fun s kind unit detail1 detail2 => ⟨fun room => ?entered, fun full => raiseEvent_of_full full _ _ _ _,
      raiseEvent_atnLow _ _ _ _ s, raiseEvent_keepsBut _ _ _ _ s⟩,
    fun s tag count idle => ?read, atnLow_iff, fun c s t => exec_releases_atn⟩
  case entered =>
    rw [raiseEvent_events_of_room room]
    exact ⟨rfl, rfl, rfl⟩
  case read =>
    have taken : exec (.eventRead tag count) s = .next (eventRead tag count s) :=
      hostRequest_of_idle idle (.eventRead tag count) _
    rw [taken]
    exact ⟨fun out => congrArg _ (eventRead_of_outOfRange out tag s),
      fun low high noLoss => congrArg _ (eventRead_of_noLoss low high noLoss tag),
      fun low high loss held => congrArg _ (eventRead_of_loss low high loss held tag),
      fun low high reached => ⟨_, rfl, eventRead_atnLow_iff low high reached tag⟩⟩

end Sys2Proof.Machine
end


section
/-! What every operation of the part keeps: the properties that hold at every moment (Safety.lean), and the quantities that
only reset or a request lowers. One relation between two states says it, and one rule per operation. -/

set_option Elab.async false

namespace Sys2Proof.Machine

/-! ## The relation -/

/-- The record of counter i lies within its limits, its remainder below a bound, and its state is UNLOADED or the one its
total and limits give (R158 to R161). -/
def Counter.within (i : CounterId) (bound : Nat) (c : Counter) : Prop :=
  c.total ≤ maxLong ∧ c.remainder < bound ∧ (c.remainder ≠ 0 → 8 ≤ i.val ∧ i.val < 16) ∧ c.warn ≤ c.due
    ∧ c.due ≤ maxLong ∧ c.margin ≤ 50 ∧ (c.state = .unloaded ∨ c.state = c.computed)

/-- The counter goes on to this record: within its limits if it was, whatever bound from 1,000 on its remainder had, and its
total has not fallen (R159). -/
def Counter.Onward (i : CounterId) (c d : Counter) : Prop :=
  ∀ bound : Nat, 1000 ≤ bound → c.within i bound → d.within i bound ∧ c.total ≤ d.total

/-- From s to t the properties of the track, the events, the grants and the addresses are kept, and no command of the
queue is touched. -/
structure Steady (s t : State) : Prop where
  pending : t.pending = s.pending
  tickets : ticketsConsecutive s → ticketsConsecutive t
  events : eventsInOrder s → accountHolds s → eventsInOrder t ∧ accountHolds t
  grants : grantsDistinct s → grantsDistinct t
  addresses : addressesDistinct s → addressesDistinct t

/-- From s to t no coil is energised and no stop cause is removed. -/
structure Lowered (s t : State) : Prop where
  coils : ∀ g : GroupId, coil t g = true → coil s g = true
  stops : lstop s = true → lstop t = true

/-- From s to t the part goes on as every operation but a few lets it. -/
structure Kept (s t : State) : Prop where
  steady : Steady s t
  counters : ∀ i : CounterId, Counter.Onward i s.counters[i] t.counters[i]
  lowered : Lowered s t

/-- A record within its limits is so for any bound that its remainder is below. -/
theorem Counter.within_of_lt {i : CounterId} {bound bound' : Nat} {c : Counter} (h : c.within i bound)
    (low : c.remainder < bound') : c.within i bound' := by
  obtain ⟨total, -, rest⟩ := h
  exact ⟨total, low, rest⟩

theorem Counter.Onward.refl (i : CounterId) (c : Counter) : Counter.Onward i c c := fun _ _ h => ⟨h, le_rfl⟩

theorem Counter.Onward.trans {i : CounterId} {c d e : Counter} (h : Counter.Onward i c d) (k : Counter.Onward i d e) :
    Counter.Onward i c e := fun bound low within =>
  have ⟨within, rises⟩ := h bound low within
  have ⟨within, rises'⟩ := k bound low within
  ⟨within, rises.trans rises'⟩

theorem Steady.refl (s : State) : Steady s s := ⟨rfl, id, fun h k => ⟨h, k⟩, id, id⟩

theorem Steady.trans {s t u : State} (h : Steady s t) (k : Steady t u) : Steady s u :=
  ⟨k.pending.trans h.pending, k.tickets ∘ h.tickets, fun order account =>
    have ⟨order, account⟩ := h.events order account
    k.events order account, k.grants ∘ h.grants, k.addresses ∘ h.addresses⟩

theorem Lowered.refl (s : State) : Lowered s s := ⟨fun _ => id, id⟩

theorem Lowered.trans {s t u : State} (h : Lowered s t) (k : Lowered t u) : Lowered s u :=
  ⟨fun g => h.coils g ∘ k.coils g, k.stops ∘ h.stops⟩

theorem Kept.refl (s : State) : Kept s s := ⟨.refl s, fun i => .refl i _, .refl s⟩

theorem Kept.trans {s t u : State} (h : Kept s t) (k : Kept t u) : Kept s u :=
  ⟨h.steady.trans k.steady, fun i => (h.counters i).trans (k.counters i), h.lowered.trans k.lowered⟩

theorem Kept.within {s t : State} (h : Kept s t) {i : CounterId} {bound : Nat} (low : 1000 ≤ bound)
    (within : s.counters[i].within i bound) : t.counters[i].within i bound := (h.counters i bound low within).1

theorem Kept.total_le {s t : State} (h : Kept s t) {i : CounterId} {bound : Nat} (low : 1000 ≤ bound)
    (within : s.counters[i].within i bound) : s.counters[i].total ≤ t.counters[i].total :=
  (h.counters i bound low within).2

/-- The operation keeps what the part's operations keep. -/
abbrev Keeping (op : State → State) : Prop := ∀ ⦃s₀ s : State⦄, Kept s₀ s → Kept s₀ (op s)

theorem forEach_kept {α : Type} (units : List α) {act : α → State → State} (each : ∀ u, Keeping (act u)) :
    Keeping (forEach units act) := fun s₀ s h => forEach_invariant (Kept s₀) units act (fun u _ => @each u s₀ _) s h

/-! ## The basic updates -/

/-- A change of robots' records that keeps every address. -/
def sameAddresses (s t : State) : Prop := ∀ r : RobotId, t.robots[r].address = s.robots[r].address

theorem sameAddresses_of_eq {s t : State} (h : t.robots = s.robots) : sameAddresses s t := fun r => by rw [h]

theorem coil_congr {s t : State} (h : t.groups = s.groups) (g : GroupId) : coil t g = coil s g := by
  unfold coil; rw [h]

/-- What leaves track, events, grants, addresses, counters, groups, stop causes and the queue of commands alone is kept. -/
theorem kept_of_same {s₀ s t : State} (h : Kept s₀ s) (track : t.track = s.track := by rfl)
    (events : t.events = s.events := by rfl) (access : t.access.grants = s.access.grants := by rfl)
    (number : t.access.nextNumber = s.access.nextNumber := by rfl)
    (addresses : sameAddresses s t := by exact fun _ => rfl) (counters : t.counters = s.counters := by rfl)
    (coils : ∀ g : GroupId, coil t g = true → coil s g = true := by exact fun _ => id)
    (stops : lstop s = true → lstop t = true := by exact id) (pending : t.pending = s.pending := by rfl) :
    Kept s₀ t := by
  refine h.trans ⟨⟨pending, ?_, ?_, ?_, ?_⟩, fun i => by rw [counters]; exact .refl i _, ⟨coils, stops⟩⟩
  · unfold ticketsConsecutive State.slotAt; simp only [track]; exact id
  · unfold eventsInOrder accountHolds; rw [events]; exact fun h k => ⟨h, k⟩
  · unfold grantsDistinct; rw [access, number]; exact id
  · unfold addressesDistinct; simp only [addresses _]; exact id

theorem mapCamera_kept (n : CameraId) (f : Camera → Camera) ⦃s₀ s : State⦄ (h : Kept s₀ s) :
    Kept s₀ (s.mapCamera n f) :=
  kept_of_same h

theorem mapGate_kept (g : GateId) (f : Gate → Gate) ⦃s₀ s : State⦄ (h : Kept s₀ s) :
    Kept s₀ (s.mapGate g f) :=
  kept_of_same h

theorem mapDose_kept (r : RobotId) (f : Dose → Dose) ⦃s₀ s : State⦄ (h : Kept s₀ s) :
    Kept s₀ (s.mapDose r f) :=
  kept_of_same h

theorem mapQueue_kept (r : RobotId) (f : RobotQueue → RobotQueue) ⦃s₀ s : State⦄ (h : Kept s₀ s) :
    Kept s₀ (s.mapQueue r f) :=
  kept_of_same h

theorem mapLink_kept (f : Link → Link) ⦃s₀ s : State⦄ (h : Kept s₀ s) : Kept s₀ (s.mapLink f) :=
  kept_of_same h

theorem passMoment_kept : Keeping passMoment := fun _ _ h => kept_of_same h

theorem raiseBroadcast_kept : Keeping raiseBroadcast := fun _ _ h => kept_of_same h

theorem sendReply_kept (kind : Byte) (tag : Half) (code : ReplyCode) (fields : List Byte) :
    Keeping (sendReply kind tag code fields) := fun _ _ h => kept_of_same h

theorem refuse_kept (kind : Byte) (tag : Half) (code : ReplyCode) : Keeping (refuse kind tag code) :=
  sendReply_kept ..

theorem accept_kept (kind : Byte) (tag : Half) (fields : List Byte) : Keeping (accept kind tag fields) :=
  sendReply_kept ..

theorem setSwitch_kept (st : SwitchState) (alike : Option Nat) : Keeping (setSwitch st alike) :=
  fun _ _ h => kept_of_same h

theorem setPitchCounter_kept (n : Nat) : Keeping (setPitchCounter n) := fun _ _ h => kept_of_same h

theorem setZoneLatch_kept (z : GroupId) (on : Bool) : Keeping (setZoneLatch z on) := fun _ _ h => kept_of_same h

theorem mapRobot_kept (r : RobotId) (f : Robot → Robot) ⦃s₀ s : State⦄ (h : Kept s₀ s)
    (address : ∀ rb, (f rb).address = rb.address := by exact fun _ => rfl) : Kept s₀ (s.mapRobot r f) :=
  kept_of_same h (addresses := fun k => by
    rw [mapRobot_get]
    split
    case isTrue e => rw [e, address]
    case isFalse => rfl)

/-- A stop cause that is added keeps LSTOP asserted (R58). -/
theorem addEscape_kept : Keeping addEscape := fun _ _ h => kept_of_same h (stops := by simp [lstop, StopCauses.flags, addEscape])

theorem addGateFault_kept : Keeping addGateFault :=
  fun _ _ h => kept_of_same h (stops := by simp [lstop, StopCauses.flags, addGateFault])

theorem addSwitchCause_kept : Keeping addSwitchCause :=
  fun _ _ h => kept_of_same h (stops := by simp [lstop, StopCauses.flags, addSwitchCause])

theorem addDiscrepancy_kept : Keeping addDiscrepancy :=
  fun _ _ h => kept_of_same h (stops := by simp [lstop, StopCauses.flags, addDiscrepancy])

theorem addCabinetIntrusion_kept : Keeping addCabinetIntrusion :=
  fun _ _ h => kept_of_same h (stops := by simp [lstop, StopCauses.flags, addCabinetIntrusion])

/-! ## Events -/

/-- What changes the event queue alone, and keeps its order and its account, is kept. -/
theorem kept_of_events {s₀ s : State} (h : Kept s₀ s) {events : EventQueue}
    (keeps : eventsInOrder s → accountHolds s → eventsInOrder { s with events } ∧ accountHolds { s with events }) :
    Kept s₀ { s with events } :=
  h.trans ⟨⟨rfl, id, keeps, id, id⟩, fun i => .refl i _, ⟨fun _ => id, id⟩⟩

/-- The sequence numbers stay consecutive when a record with the next one enters at the end (R168). -/
theorem sequence_append {queue : List EventRecord} {next : Half} {e : EventRecord} (last : e.sequence = next)
    (order : ∀ (k : Nat) (h : k < queue.length), queue[k].sequence = next - BitVec.ofNat 16 (queue.length - k))
    (k : Nat) (h : k < (queue ++ [e]).length) :
    (queue ++ [e])[k].sequence = next + 1 - BitVec.ofNat 16 ((queue ++ [e]).length - k) := by
  have bound : k < queue.length + 1 := by simpa using h
  have after : next + 1 - BitVec.ofNat 16 (queue.length + 1 - k) = next - BitVec.ofNat 16 (queue.length - k) := by
    rw [Nat.sub_add_comm (Nat.lt_succ_iff.1 bound)]
    have split : BitVec.ofNat 16 (queue.length - k + 1) = BitVec.ofNat 16 (queue.length - k) + 1 := by
      simp [BitVec.ofNat_add]
    rw [split]; ring
  rw [List.length_append, List.length_singleton, after]
  rcases Nat.lt_or_ge k queue.length with before | reached
  · rw [List.getElem_append_left before, order k before]
  · obtain rfl : k = queue.length := by omega
    simp [last]

theorem raiseEvent_kept (kind : EventKind) (unit : Nat) (detail1 detail2 : Half) ⦃s₀ s : State⦄ (h : Kept s₀ s)
    (counted : kind ≠ .eventsLost ∧ kind ≠ .restarted := by decide) :
    Kept s₀ (raiseEvent kind unit detail1 detail2 s) := by
  have accounted : (s.recordOf kind unit detail1 detail2).accounted = true := by
    simp [EventRecord.accounted, State.recordOf, counted]
  dsimp only [raiseEvent]
  split_ifs with room more
  · refine kept_of_events h fun ⟨full, lost, order⟩ account => ⟨⟨?_, lost, ?_⟩, fun inLimit => ?_⟩
    · simpa [enterRecord] using room
    · exact sequence_append rfl order
    · have sum : s.events.account.raised = _ := account inLimit
      have one : [s.recordOf kind unit detail1 detail2].countP EventRecord.accounted = 1 := by
        simp [accounted]
      change s.events.account.raised + 1 = s.events.account.delivered
        + (s.events.queue ++ [s.recordOf kind unit detail1 detail2]).countP EventRecord.accounted
        + s.events.account.countedLost
      rw [List.countP_append, one]
      omega
  · refine kept_of_events h fun ⟨full, lost, order⟩ account => ⟨⟨full, more, order⟩, fun inLimit => ?_⟩
    have sum := account inLimit
    dsimp only at sum ⊢
    omega
  · exact kept_of_events h fun order account => ⟨order, fun inLimit => by cases inLimit⟩

/-! ## Counters -/

/-- What changes one counter's record, and lets that counter go on, is kept. -/
theorem setCounter_kept {s₀ s : State} (h : Kept s₀ s) {i : CounterId} {c : Counter}
    (onward : Counter.Onward i s.counters[i] c) : Kept s₀ { s with counters := s.counters.set i c } :=
  h.trans
    { steady := ⟨rfl, id, fun h k => ⟨h, k⟩, id, id⟩
      counters := fun k => by
        rw [set_get]
        split
        case isTrue e => rw [e]; exact onward
        case isFalse => exact .refl k _
      lowered := ⟨fun _ => id, id⟩ }

theorem storeCounter_kept {s₀ s : State} (h : Kept s₀ s) {i : CounterId} {c : Counter}
    (onward : Counter.Onward i s.counters[i] c) : Kept s₀ (storeCounter i c s) := by
  dsimp only [storeCounter]
  split
  · exact raiseEvent_kept _ _ _ _ (setCounter_kept h onward)
  · exact setCounter_kept h onward

/-- Computing the state afresh leaves total, remainder and limits, and gives a state that they allow (R161). -/
theorem Counter.refresh_within {i : CounterId} {bound : Nat} {c : Counter} (total : c.total ≤ maxLong)
    (remainder : c.remainder < bound) (valve : c.remainder ≠ 0 → 8 ≤ i.val ∧ i.val < 16) (limits : c.warn ≤ c.due)
    (due : c.due ≤ maxLong) (margin : c.margin ≤ 50) : c.refresh.within i bound := by
  unfold Counter.refresh
  split
  case isTrue unloaded => exact ⟨total, remainder, valve, limits, due, margin, .inl unloaded⟩
  case isFalse => exact ⟨total, remainder, valve, limits, due, margin, .inr rfl⟩

theorem Counter.refresh_total (c : Counter) : c.refresh.total = c.total := by
  unfold Counter.refresh; split <;> rfl

/-- One more count lets a counter go on (R159). -/
theorem Counter.onward_count (i : CounterId) (c : Counter) :
    Counter.Onward i c { c with total := countUpTo maxLong c.total }.refresh :=
  fun bound _ ⟨total, remainder, valve, limits, due, margin, _⟩ =>
    ⟨refresh_within (by simp [countUpTo]) remainder valve limits due margin, by
      rw [refresh_total]; simp only [countUpTo]; omega⟩

theorem countOn_kept (i : CounterId) : Keeping (countOn i) := fun _ s h =>
  storeCounter_kept h (Counter.onward_count i s.counters[i])

/-! ## Slots -/

/-- What changes the track alone, and keeps its tickets, is kept. -/
theorem kept_of_track {s₀ s : State} (h : Kept s₀ s) {track : Track}
    (keeps : ticketsConsecutive s → ticketsConsecutive { s with track }) : Kept s₀ { s with track } :=
  h.trans ⟨⟨rfl, keeps, fun h k => ⟨h, k⟩, id, id⟩, fun i => .refl i _, ⟨fun _ => id, id⟩⟩

theorem mapTallies_kept (f : Tallies → Tallies) ⦃s₀ s : State⦄ (h : Kept s₀ s) : Kept s₀ (s.mapTallies f) :=
  kept_of_track h id

theorem putSlot_kept {s₀ s : State} (h : Kept s₀ s) {p : Nat} {sl : Slot} (same : sl.ticket = (s.slotAt p).ticket) :
    Kept s₀ (putSlot p sl s) :=
  kept_of_track h fun ⟨low, high, order⟩ => ⟨low, high, fun q onTrack =>
    (ticket_putSlot p q sl s same).trans (order q onTrack)⟩

theorem editSlotAt_kept (p : Nat) (f : Slot → Slot) : Keeping (editSlotAt p f) := fun _ _ h => putSlot_kept h rfl

theorem editSlot_kept (t : Half) (f : Slot → Slot) : Keeping (editSlot t f) := by
  intro s₀ s h
  unfold editSlot
  split
  · exact editSlotAt_kept _ f h
  · exact h

/-! ## Groups -/

/-- A change of a group's record that energises no coil is kept (R114). -/
theorem mapGroup_kept {s₀ s : State} (h : Kept s₀ s) {g : GroupId} {f : Group → Group}
    (coils : (f s.groups[g]).state.coil = true → s.groups[g].state.coil = true) : Kept s₀ (s.mapGroup g f) :=
  kept_of_same h (coils := fun k energised => by
    unfold coil at energised ⊢
    rw [mapGroup_get] at energised
    split at energised
    case isTrue e => rw [e]; exact coils energised
    case isFalse => exact energised)

theorem enterGroup_kept {s₀ s : State} (h : Kept s₀ s) {g : GroupId} {st : GroupState}
    (coils : st.coil = true → s.groups[g].state.coil = true) : Kept s₀ (enterGroup g st s) :=
  raiseEvent_kept _ _ _ _ (mapGroup_kept h coils)

/-! ## Grants -/

/-- The grant is the one in the place, in another state or with other times. -/
def State.sameGrant (s : State) (i : PlaceId) (g : Grant) : Prop :=
  ∃ old : Grant, s.access.grants[i] = some old ∧ g.number = old.number ∧ g.kind = old.kind ∧ g.zones = old.zones

/-- Grants that all come from grants in the same places stay distinct (R129, R131). -/
theorem grantsDistinct_of_same {s t : State} (number : t.access.nextNumber = s.access.nextNumber)
    (same : ∀ (k : PlaceId) (g : Grant), t.access.grants[k] = some g → s.sameGrant k g) :
    grantsDistinct s → grantsDistinct t := by
  rintro ⟨notZero, distinct⟩
  refine ⟨number ▸ notZero, fun k g hg => ?_⟩
  obtain ⟨old, at_k, numbers, kind, zones⟩ := same k g hg
  obtain ⟨zero, next, covers, others⟩ := distinct k old at_k
  refine ⟨numbers ▸ zero, by rwa [numbers, number], zones ▸ covers, fun l other ho => ?_⟩
  obtain ⟨old', at_l, numbers', kind', zones'⟩ := same l other ho
  rw [numbers, numbers', kind, kind', zones, zones']
  exact others l old' at_l

theorem putGrant_kept {s₀ s : State} (h : Kept s₀ s) {i : PlaceId} {new : Option Grant}
    (same : ∀ g ∈ new, s.sameGrant i g) : Kept s₀ (s.putGrant i new) := by
  refine h.trans ⟨⟨rfl, id, fun h k => ⟨h, k⟩, grantsDistinct_of_same rfl fun k g hg => ?_, id⟩,
    fun i => .refl i _, ⟨fun _ => id, id⟩⟩
  rw [putGrant_get] at hg
  split at hg
  case isTrue e => rw [e]; exact same g hg
  case isFalse => exact ⟨g, hg, rfl, rfl, rfl⟩

theorem removeGrant_kept (i : PlaceId) ⦃s₀ s : State⦄ (h : Kept s₀ s) : Kept s₀ (s.putGrant i none) :=
  putGrant_kept h (fun _ impossible => nomatch impossible)

theorem raiseGrantState_kept (i : PlaceId) (badge : Long) (code : Nat) : Keeping (raiseGrantState i badge code) :=
  fun _ _ h => raiseEvent_kept _ _ _ _ h

theorem enterGrant_kept {s₀ s : State} (h : Kept s₀ s) {i : PlaceId} {g : Grant} (same : s.sameGrant i g)
    (st : GrantState) : Kept s₀ (enterGrant i g st s) :=
  raiseGrantState_kept _ _ _ (putGrant_kept h fun g' e => by obtain rfl := Option.some.inj e; exact same)

end Sys2Proof.Machine
end


section
/-! Every operation of the fill section, of the cabinet and of service access keeps what the part's operations keep. -/

set_option Elab.async false

namespace Sys2Proof.Machine

/-! ## Fills (R74 to R81) -/

theorem raiseCommand_kept (r : RobotId) (c : BusCommand) : Keeping (raiseCommand r c) := by
  grind [raiseCommand, passMoment_kept, mapQueue_kept]

theorem raisePoll_kept (r : RobotId) : Keeping (raisePoll r) := by
  grind [raisePoll, passMoment_kept, mapQueue_kept]

theorem dropJob_kept (r : RobotId) : Keeping (dropJob r) := fun _ _ h => mapRobot_kept r _ h

theorem recordFill_kept (r : RobotId) (j : Job) (ending : Ending) (flow volume : Nat) (fillClass : Option FillClass)
    (afterflow : Option Nat) (learning : Learning) :
    Keeping (recordFill r j ending flow volume fillClass afterflow learning) := mapDose_kept r _

theorem learn_kept (r : RobotId) (recipe : Recipe) (a : Nat) : Keeping (learn r recipe a) := by
  grind [learn, raiseEvent_kept, mapDose_kept]

theorem reportJob_kept (r : RobotId) (cut : Bool) : Keeping (reportJob r cut) := by
  intro s₀ s h
  unfold reportJob
  split
  · exact h
  · dsimp only
    refine dropJob_kept r (recordFill_kept _ _ _ _ _ _ _ _ ?_)
    split
    · exact countOn_kept _ (raiseCommand_kept _ _ (editSlot_kept _ _ (mapDose_kept r _ h)))
    · exact learn_kept _ _ _ (countOn_kept _ (raiseCommand_kept _ _ (editSlot_kept _ _ (mapDose_kept r _ h))))

theorem failJob_kept (r : RobotId) (outcome : FillOutcome) (ending : Ending) : Keeping (failJob r outcome ending) := by
  intro s₀ s h
  unfold failJob
  split
  · exact h
  · dsimp only
    split
    · exact dropJob_kept r (recordFill_kept _ _ _ _ _ _ _ _ (raiseCommand_kept _ _ (countOn_kept _
        (editSlot_kept _ _ (mapDose_kept r _ h)))))
    · exact dropJob_kept r (raiseCommand_kept _ _ (editSlot_kept _ _ (mapDose_kept r _ h)))

theorem abortJob_kept (r : RobotId) : Keeping (abortJob r) := failJob_kept r .aborted .aborted

theorem startFilling_kept (r : RobotId) : Keeping (startFilling r) := by
  intro s₀ s h
  unfold startFilling
  split
  · split
    · exact mapDose_kept r _ (mapRobot_kept r _ h)
    · exact h
  · exact h


theorem countPulse_kept (r : RobotId) : Keeping (countPulse r) := by
  intro s₀ s h
  have counted := mapDose_kept r (fun d => { d with flow := countUpTo Config.flowCapacity s.doses[r].flow }) h
  unfold countPulse
  dsimp only
  split
  · split
    · split
      · exact mapRobot_kept r _ (mapDose_kept r _ counted)
      · exact mapRobot_kept r _ counted
    · exact counted
  · exact counted

theorem countDrip_kept (r : RobotId) : Keeping (countDrip r) := by
  grind [countDrip, mapDose_kept, raiseEvent_kept]

theorem flowPulse_kept (r : RobotId) : Keeping (flowPulse r) := by
  grind [flowPulse, countPulse_kept, countDrip_kept]

/-! ## Robots (4.1 to 4.6) -/

theorem changeRobot_kept (r : RobotId) (f : Robot → Robot) ⦃s₀ s : State⦄ (h : Kept s₀ s)
    (address : ∀ rb, (f rb).address = rb.address := by exact fun _ => rfl) : Kept s₀ (changeRobot r f s) := by
  have changed := mapRobot_kept r f h address
  grind [changeRobot, raiseEvent_kept]

theorem enterFaulted_kept (r : RobotId) (why : FaultReason) : Keeping (enterFaulted r why) :=
  fun _ _ h => changeRobot_kept r _ (abortJob_kept r h)

theorem enterLost_kept (r : RobotId) : Keeping (enterLost r) := fun _ _ h =>
  mapQueue_kept r _ (changeRobot_kept r _ (raiseEvent_kept _ _ _ _ (abortJob_kept r h)))

theorem countFailure_kept (r : RobotId) : Keeping (countFailure r) := by
  intro s₀ s h
  have counted := mapRobot_kept r (fun rb => { rb with failures := min (rb.failures + 1) 3 }) h
  grind [countFailure, enterLost_kept]

theorem endLoss_kept (r : RobotId) (st : RobotStatus) : Keeping (endLoss r st) :=
  fun _ _ h => changeRobot_kept r _ h (fun _ => by split <;> rfl)

theorem takePoll_kept (r : RobotId) (st : RobotStatus) : Keeping (takePoll r st) := by
  intro s₀ s h
  have recorded :=
    mapRobot_kept r (fun rb => { rb with lastStatus := some st, failures := 0 }) h
  dsimp only [takePoll]
  split
  · exact endLoss_kept r st recorded
  · split
    · split
      · exact enterFaulted_kept r _ recorded
      · exact recorded
    · exact startFilling_kept r recorded
    · exact recorded

theorem valveFault_kept (r : RobotId) (why : FaultReason) : Keeping (valveFault r why) := by
  grind [valveFault, enterFaulted_kept, raiseEvent_kept]

theorem checkExpiry_kept (r : RobotId) : Keeping (checkExpiry r) := by
  grind [checkExpiry, mapDose_kept, valveFault_kept]

theorem stuckValve_kept (r : RobotId) : Keeping (stuckValve r) := by
  grind [stuckValve, valveFault_kept]

theorem feedbackChange_kept (r : RobotId) (showsOpen : Bool) : Keeping (feedbackChange r showsOpen) := by
  intro s₀ s h
  have read : Kept s₀ { s with pins := { s.pins with feedback := s.pins.feedback.set r showsOpen } } := kept_of_same h
  grind [feedbackChange, mapDose_kept, stuckValve_kept]

theorem noFlowExpiry_kept (r : RobotId) : Keeping (noFlowExpiry r) := by
  grind [noFlowExpiry, raiseEvent_kept, abortJob_kept]

theorem settleExpiry_kept (r : RobotId) : Keeping (settleExpiry r) := by
  grind [settleExpiry, reportJob_kept]

/-- The remainder has no part in the state that total and limits give (R161). -/
theorem Counter.computed_remainder (c : Counter) (n : Nat) : { c with remainder := n }.computed = c.computed := by
  unfold Counter.computed Counter.threshold; rfl

/-- Within the limits with another remainder. -/
theorem Counter.within_remainder {i : CounterId} {bound bound' n : Nat} {c : Counter} (h : c.within i bound)
    (low : n < bound') (valve : n ≠ 0 → 8 ≤ i.val ∧ i.val < 16) : { c with remainder := n }.within i bound' := by
  obtain ⟨total, -, -, limits, due, margin, state⟩ := h
  exact ⟨total, low, valve, limits, due, margin, by rw [computed_remainder]; exact state⟩

/-- A second taken from a remainder that has reached it lets a counter go on (R158). -/
theorem Counter.onward_second (i : CounterId) {c : Counter} (full : 1000 ≤ c.remainder) :
    Counter.Onward i c { c with remainder := c.remainder - 1000 } := by
  intro bound _ h
  obtain ⟨-, remainder, valve, -⟩ := id h
  exact ⟨within_remainder h (by omega) (fun _ => valve (by omega)), Nat.le_refl c.total⟩

theorem valveSecond_kept (r : RobotId) : Keeping (valveSecond r) := by
  intro s₀ s h
  dsimp only [valveSecond]
  split
  case isTrue full => exact countOn_kept _ (setCounter_kept h (Counter.onward_second _ full))
  case isFalse => exact h

theorem enterService_kept (jog : Bool) (r : RobotId) : Keeping (enterService jog r) := by
  intro s₀ s h
  have entered := changeRobot_kept r (fun rb =>
    { rb with mode := .service, resume := s.robots[r].mode == .production, armed := false, jog := jog }) h
  grind [enterService, raiseCommand_kept]

theorem leaveService_kept (r : RobotId) : Keeping (leaveService r) := by
  intro s₀ s h
  have left := changeRobot_kept r (fun rb =>
    { rb with mode := if rb.resume then .production else .manual, armed := false, resume := false, jog := false }) h
  grind [leaveService, raiseCommand_kept]

theorem intrudeRobot_kept (r : RobotId) : Keeping (intrudeRobot r) := by
  intro s₀ s h
  dsimp only [intrudeRobot]
  split
  · exact changeRobot_kept r _ (abortJob_kept r h)
  · split
    · exact raiseCommand_kept _ _ (changeRobot_kept r _ h)
    · exact changeRobot_kept r _ h
  · exact mapRobot_kept r _ h

theorem exitLimit_kept (r : RobotId) : Keeping (exitLimit r) := by
  grind [exitLimit, reportJob_kept, failJob_kept]

theorem approachLimit_kept (r : RobotId) : Keeping (approachLimit r) := by
  grind [approachLimit, failJob_kept]

theorem armRobot_kept (r : RobotId) : Keeping (armRobot r) := by
  intro s₀ s h
  have armed := mapRobot_kept r (fun rb => { rb with armed := true }) h
  grind [armRobot]

theorem assign_kept (r : RobotId) (t : Half) : Keeping (assign r t) := fun _ _ h =>
  raiseCommand_kept _ _ (editSlot_kept _ _ (mapRobot_kept r _ (mapDose_kept r _ h)))

theorem assignEntry_kept : Keeping assignEntry := by
  intro s₀ s h
  unfold assignEntry
  dsimp only
  split
  · split
    · exact assign_kept _ _ h
    · exact mapTallies_kept _ (editSlot_kept _ _ h)
  · exact h

/-! ## The robot bus (4.7) -/

theorem startTransaction_kept : Keeping startTransaction := by
  intro s₀ s h
  unfold startTransaction
  repeat' split
  all_goals first | exact h | exact kept_of_same h

end Sys2Proof.Machine
end


section
/-! Every operation of the robot bus, of the cabinet and of service access keeps what the part's operations keep, but for the
close of a group. -/

set_option Elab.async false

namespace Sys2Proof.Machine

/-! ## The robot bus (4.7) -/

theorem endTransaction_kept : Keeping endTransaction := fun _ _ h => kept_of_same h

theorem removeEntry_kept (r : RobotId) (serial : Nat) : Keeping (removeEntry r serial) := fun _ _ h =>
  mapQueue_kept r _ h

theorem broadcastSent_kept : Keeping broadcastSent := by
  intro s₀ s h
  unfold broadcastSent
  split
  · split
    · exact h
    · exact forEach_kept _ (fun r _ _ k => mapRobot_kept r _ k) (kept_of_same h)
  · exact h

theorem deferEntry_kept (r : RobotId) (serial : Nat) : Keeping (deferEntry r serial) := fun _ _ h =>
  passMoment_kept (mapQueue_kept r _ h)

theorem commandFailed_kept (r : RobotId) (serial : Nat) : Keeping (commandFailed r serial) := by
  grind [commandFailed, deferEntry_kept, removeEntry_kept]

theorem commandSucceeded_kept (r : RobotId) (serial : Nat) (c : BusCommand) : Keeping (commandSucceeded r serial c) :=
  fun _ _ h => mapRobot_kept r _ (removeEntry_kept r serial h)

theorem transactionFailed_kept (r : RobotId) (serial : Nat) (c : BusCommand) :
    Keeping (transactionFailed r serial c) := by
  grind [transactionFailed, countFailure_kept, removeEntry_kept, commandFailed_kept]

theorem commandDone_kept (acked : Bool) : Keeping (commandDone acked) := by
  grind [commandDone, commandSucceeded_kept, endTransaction_kept, transactionFailed_kept]

theorem pollDone_kept (acked : Bool) (statusByte codeByte : Byte) : Keeping (pollDone acked statusByte codeByte) := by
  grind [pollDone, takePoll_kept, removeEntry_kept, endTransaction_kept, transactionFailed_kept]

theorem holdClock_kept (r : RobotId) ⦃s₀ s : State⦄ (h : Kept s₀ s) :
    Kept s₀ { s with bus := { s.bus with clockHeldBy := some r } } := kept_of_same h

theorem clockHold_kept (r : RobotId) : Keeping (clockHold r) := by
  intro s₀ s h
  unfold clockHold
  split
  · split
    · exact countFailure_kept r h
    · exact h
  · dsimp only
    split
    · exact holdClock_kept r (transactionFailed_kept _ _ _ (endTransaction_kept h))
    · exact holdClock_kept r h
    · exact h

theorem clockRelease_kept (r : RobotId) : Keeping (clockRelease r) := by
  intro s₀ s h
  unfold clockRelease
  split
  · exact kept_of_same h
  · exact h

theorem pollExpiry_kept (r : RobotId) : Keeping (pollExpiry r) := by
  intro s₀ s h
  have restarted := mapRobot_kept r (fun rb => { rb with pollTimer := 0 }) h
  grind [pollExpiry, raisePoll_kept]

theorem judgeRelease_kept (r : RobotId) : Keeping (judgeRelease r) := by
  grind [judgeRelease, raiseCommand_kept]

theorem judgeReleases_kept : Keeping judgeReleases := forEach_kept _ judgeRelease_kept

/-! ## Power groups and the main switch (6.1, 6.2) -/

/-- A group that enters a state without a coil (R114). -/
theorem enterGroup_off_kept (g : GroupId) (st : GroupState) ⦃s₀ s : State⦄ (h : Kept s₀ s)
    (off : st.coil = false := by rfl) : Kept s₀ (enterGroup g st s) :=
  enterGroup_kept h fun energised => by rw [off] at energised; cases energised

theorem leaveClosed_kept (zones : List GroupId) : Keeping (leaveClosed zones) :=
  forEach_kept _ fun r _ _ h => by
    split
    · exact mapRobot_kept r _ (abortJob_kept r h)
    · exact h

theorem dropCoil_kept (g : GroupId) : Keeping (dropCoil g) := by
  intro s₀ s h
  unfold dropCoil
  repeat' split
  · exact enterGroup_off_kept g _ h
  · exact enterGroup_off_kept g _ h
  · exact h

theorem openGroup_kept (g : GroupId) : Keeping (openGroup g) := by
  grind [openGroup, leaveClosed_kept, dropCoil_kept]

theorem pullinExpiry_kept (g : GroupId) : Keeping (pullinExpiry g) := by
  intro s₀ s h
  unfold pullinExpiry
  split
  · exact enterGroup_off_kept g _ (raiseEvent_kept _ _ _ _ h)
  · exact h

theorem fallOutExpiry_kept (g : GroupId) : Keeping (fallOutExpiry g) := by
  intro s₀ s h
  unfold fallOutExpiry
  split
  · exact leaveClosed_kept _ (enterGroup_off_kept g _ (raiseEvent_kept _ _ _ _ h))
  · exact h

theorem dropoutExpiry_kept (g : GroupId) : Keeping (dropoutExpiry g) := by
  intro s₀ s h
  unfold dropoutExpiry
  split
  · exact enterGroup_off_kept g _ (raiseEvent_kept _ _ _ _ h)
  · exact h

theorem weldExpiry_kept (g : GroupId) : Keeping (weldExpiry g) := by
  intro s₀ s h
  unfold weldExpiry
  split
  · exact enterGroup_off_kept g _ (raiseEvent_kept _ _ _ _ h)
  · exact h

theorem setGroupTimer_kept (g : GroupId) (t : Option Nat) : Keeping (setGroupTimer g t) := fun _ _ h =>
  mapGroup_kept h id

theorem mirrorChange_kept (g : GroupId) (reportsClosed : Bool) : Keeping (mirrorChange g reportsClosed) := by
  intro s₀ s h
  unfold mirrorChange
  split
  · exact h
  · have read : Kept s₀ { s with pins := { s.pins with mirror := s.pins.mirror.set g reportsClosed } } :=
      kept_of_same h
    dsimp only
    split
    case h_1 closing _ => exact enterGroup_kept read fun _ => by rw [closing]; rfl
    case h_2 => exact enterGroup_off_kept g _ read
    all_goals first | exact setGroupTimer_kept g _ read | exact read

theorem cutPower_kept : Keeping cutPower := fun _ _ h =>
  raiseBroadcast_kept (leaveClosed_kept _ (forEach_kept _ dropCoil_kept h))

theorem switchToOn_kept : Keeping switchToOn := by
  grind [switchToOn, setSwitch_kept, raiseEvent_kept]

theorem switchToOff_kept : Keeping switchToOff := by
  grind [switchToOff, setSwitch_kept, cutPower_kept, raiseEvent_kept, addSwitchCause_kept]

theorem contactChange_kept (msaClosed msbClosed : Bool) : Keeping (contactChange msaClosed msbClosed) := by
  intro s₀ s h
  have read : Kept s₀ { s with pins := { s.pins with msa := msaClosed, msb := msbClosed } } := kept_of_same h
  grind [contactChange, switchToOn_kept, switchToOff_kept, setSwitch_kept]

theorem discrepancyExpiry_kept : Keeping discrepancyExpiry := by
  intro s₀ s h
  unfold discrepancyExpiry
  split
  · split
    · have told := raiseEvent_kept .switchDiscrepancy 0 (detail s.mainSwitch.state.code)
        (detail (s.pins.msa && s.pins.msb).toNat) (addSwitchCause_kept (addDiscrepancy_kept
          (kept_of_same h : Kept s₀ { s with mainSwitch := { state := .discrepant, alike := none, latch := true } })))
      dsimp only
      split
      · exact cutPower_kept told
      · exact told
    · exact h
  · exact h

/-! ## Grants (7.2, 7.3) -/

theorem sameGrant_of_access {s t : State} {i : PlaceId} {g : Grant} (h : t.access = s.access)
    (held : s.access.grants[i] = some g) : t.sameGrant i g := ⟨g, by rw [h, held], rfl, rfl, rfl⟩

theorem sameGrant_self {s : State} {i : PlaceId} {g : Grant} (held : s.access.grants[i] = some g) : s.sameGrant i g :=
  sameGrant_of_access rfl held

theorem serveRobots_kept (g : Grant) : Keeping (serveRobots g) :=
  forEach_kept _ fun r _ _ h => by
    split
    · exact enterService_kept _ r h
    · exact h

theorem endDrain_kept {s₀ s : State} (h : Kept s₀ s) {i : PlaceId} {g : Grant} (held : s.access.grants[i] = some g) :
    Kept s₀ (endDrain i g s) := by
  have same : (serveRobots g s).sameGrant i g := sameGrant_of_access (by simp [serveRobots_frame]) held
  have entered := enterGrant_kept (serveRobots_kept g h) same
  dsimp only [endDrain]
  split
  · exact entered _
  · exact forEach_kept _ openGroup_kept (entered _)

theorem judgeDrain_kept (i : PlaceId) : Keeping (judgeDrain i) := by
  grind [judgeDrain, endDrain_kept]

theorem judgeIsolation_kept (i : PlaceId) : Keeping (judgeIsolation i) := by
  intro s₀ s h
  unfold judgeIsolation
  split
  case h_1 g held =>
    split
    · split
      · exact enterGrant_kept (raiseEvent_kept _ _ _ _ h) (sameGrant_of_access (by simp) held) _
      · split
        · exact enterGrant_kept h (sameGrant_self held) _
        · exact h
    · exact h
  case h_2 => exact h

theorem judgeGrants_kept : Keeping judgeGrants :=
  forEach_kept _ fun i _ _ h => judgeIsolation_kept i (judgeDrain_kept i h)

theorem settle_kept : Keeping settle := fun _ _ h => judgeReleases_kept (judgeGrants_kept h)

theorem drainExpiry_kept (i : PlaceId) : Keeping (drainExpiry i) := by
  intro s₀ s h
  unfold drainExpiry
  split
  · split
    · refine forEach_kept _ (fun r _ _ k => ?_) h
      split
      · exact abortJob_kept r k
      · exact k
    · exact h
  · exact h

theorem endGrant_kept (i : PlaceId) (g : Grant) : Keeping (endGrant i g) := by
  intro s₀ s h
  dsimp only [endGrant]
  refine raiseGrantState_kept _ _ _ (forEach_kept _ (fun r _ _ k => ?_) (removeGrant_kept i h))
  split
  · exact leaveService_kept r k
  · exact k

theorem atExpiry_kept {s₀ s : State} (h : Kept s₀ s) {i : PlaceId} {g : Grant} (held : s.access.grants[i] = some g) :
    Kept s₀ (atExpiry i g s) := by
  unfold atExpiry
  split
  · exact endGrant_kept i g h
  · exact endGrant_kept i g h
  · split
    · exact endGrant_kept i g h
    · exact enterGrant_kept (raiseEvent_kept _ _ _ _ h) (sameGrant_of_access (by simp) held) _
  all_goals exact h

theorem expireGrant_kept (i : PlaceId) (uptime : Long) : Keeping (expireGrant i uptime) := by
  grind [expireGrant, atExpiry_kept]

/-! ## Intrusions and doors (7.1, 7.5) -/

theorem zoneIntrusion_kept (z : GroupId) (how : Half) : Keeping (zoneIntrusion z how) := by
  intro s₀ s h
  unfold zoneIntrusion
  split
  · exact h
  · refine openGroup_kept z (forEach_kept _ (fun r _ _ k => ?_) (raiseEvent_kept _ _ _ _ (setZoneLatch_kept z true h)))
    split
    · exact intrudeRobot_kept r k
    · exact k

theorem cabinetIntrusion_kept (how zoneHow : Half) : Keeping (cabinetIntrusion how zoneHow) := by
  intro s₀ s h
  unfold cabinetIntrusion
  split
  · exact h
  · exact raiseBroadcast_kept (forEach_kept _ (fun z => zoneIntrusion_kept z zoneHow) (raiseEvent_kept _ _ _ _
      (addCabinetIntrusion_kept (kept_of_same h))))

theorem flagOpened_kept (d : DoorId) : Keeping (flagOpened d) := forEach_kept _ fun i s₀ s h => by
  unfold flagGrant
  split
  case h_1 g held =>
    split
    · exact putGrant_kept h fun g' e => by
        obtain rfl := Option.some.inj e
        exact ⟨g, held, rfl, rfl, rfl⟩
    · exact h
  case h_2 => exact h

theorem endClosedGrants_kept (d : DoorId) : Keeping (endClosedGrants d) := forEach_kept _ fun i _ _ h => by
  unfold endClosedGrant
  split
  · split
    · exact endGrant_kept i _ h
    · exact h
  · exact h

theorem judgeOpening_kept (d : DoorId) : Keeping (judgeOpening d) := by
  grind [judgeOpening, zoneIntrusion_kept, cabinetIntrusion_kept]

theorem doorChange_kept (d : DoorId) (isOpen : Bool) : Keeping (doorChange d isOpen) := by
  intro s₀ s h
  have read : Kept s₀ { s with pins := { s.pins with doors := s.pins.doors.set d isOpen } } := kept_of_same h
  grind [doorChange, judgeOpening_kept, flagOpened_kept, endClosedGrants_kept]

end Sys2Proof.Machine
end


section
/-! Every operation of the cameras, the gates, the track and the time base keeps what the part's operations keep. -/

set_option Elab.async false

namespace Sys2Proof.Machine

/-! ## Cameras (chapter 2) -/

theorem missAt_kept (n : CameraId) (p : Nat) : Keeping (missAt n p) := fun _ _ h => editSlotAt_kept p _ h

theorem missAll_kept (n : CameraId) (required : Bool) : Keeping (missAll n required) := fun _ _ h =>
  forEach_kept _ (fun p => editSlotAt_kept p _) h

theorem neverTriggered_kept (n : CameraId) : Keeping (neverTriggered n) := by
  grind [neverTriggered, missAt_kept]

theorem deadlineAt_kept (n : CameraId) (p : Nat) : Keeping (deadlineAt n p) := by
  grind [deadlineAt, missAt_kept, mapCamera_kept]

theorem deadlineCheck_kept (n : CameraId) : Keeping (deadlineCheck n) := by
  grind [deadlineCheck, forEach_kept, deadlineAt_kept]

theorem arriveAt_kept (n : CameraId) : Keeping (arriveAt n) := by
  grind [arriveAt, editSlotAt_kept, missAt_kept]

theorem camerasAtBoundary_kept : Keeping camerasAtBoundary := fun _ _ h =>
  forEach_kept _ arriveAt_kept (forEach_kept _ deadlineCheck_kept (forEach_kept _ neverTriggered_kept h))

theorem pulseTrigger_kept (n : CameraId) (t : Half) : Keeping (pulseTrigger n t) := fun _ _ h =>
  countOn_kept _ (mapCamera_kept n _ h)

theorem triggerAt_kept (n : CameraId) : Keeping (triggerAt n) := by
  grind [triggerAt, missAt_kept, pulseTrigger_kept, raiseEvent_kept]

theorem statusReady_kept (n : CameraId) : Keeping (statusReady n) := by
  intro s₀ s h
  have missed := forEach_kept s.cameras[n].outstanding
    (fun o => editSlot_kept o.ticket fun sl => sl.miss n s.cameras[n].cfg.required) h
  grind [statusReady, mapCamera_kept, raiseEvent_kept]

theorem statusNotReady_kept (n : CameraId) : Keeping (statusNotReady n) := by
  grind [statusNotReady, raiseEvent_kept, mapCamera_kept]

theorem silenceExpiry_kept (n : CameraId) : Keeping (silenceExpiry n) := by
  grind [silenceExpiry, raiseEvent_kept, mapCamera_kept]

theorem takeVerdict_kept (n : CameraId) (t : Byte) (classes : ClassSet) : Keeping (takeVerdict n t classes) := by
  grind [takeVerdict, editSlot_kept, mapCamera_kept, raiseEvent_kept]

theorem takeRecord_kept (n : CameraId) (kind : RecordKind) (params : List Byte) :
    Keeping (takeRecord n kind params) := by
  intro s₀ s h
  unfold takeRecord
  split
  · exact takeVerdict_kept n _ _ h
  · split_ifs
    · exact statusReady_kept n h
    · exact statusNotReady_kept n h
    · exact raiseEvent_kept _ _ _ _ h
  · exact h

theorem setReceiver_kept (n : CameraId) (r : PortReceiver) : Keeping (setReceiver n r) := fun _ _ h =>
  mapCamera_kept n _ h

theorem takeKind_kept (n : CameraId) (b : Byte) : Keeping (takeKind n b) := by
  grind [takeKind, raiseEvent_kept, setReceiver_kept]

theorem takeParameter_kept (n : CameraId) (b : Byte) : Keeping (takeParameter n b) := by
  grind [takeParameter, mapCamera_kept, setReceiver_kept, takeRecord_kept]

theorem selectPort_kept (n : CameraId) : Keeping (selectPort n) := fun _ _ h => kept_of_same h

theorem takeByte_kept (n : CameraId) (kindByte : Bool) (b : Byte) : Keeping (takeByte n kindByte b) := by
  grind [takeByte, selectPort_kept, mapCamera_kept, takeKind_kept, takeParameter_kept]

theorem clockBit_kept (n : CameraId) (data kindHigh : Bool) : Keeping (clockBit n data kindHigh) := by
  grind [clockBit, selectPort_kept, mapCamera_kept, takeByte_kept]

theorem selectRise_kept (n : CameraId) : Keeping (selectRise n) := by
  intro s₀ s h
  have high : Kept s₀ { s with pins := { s.pins with deselected := s.pins.deselected.set n true } } := kept_of_same h
  grind [selectRise, mapCamera_kept]

theorem sendRecord_kept (n : CameraId) (kind : RecordKind) (params : List Byte) : Keeping (sendRecord n kind params) :=
  fun _ _ h => forEach_kept _ (fun b : Bool × Byte => takeByte_kept n b.1 b.2) h

/-! ## Gates and discharge (chapter 3, R18, R19) -/

theorem countUnconfirmed_kept (g : GateId) (t : Half) : Keeping (countUnconfirmed g t) := by
  grind [countUnconfirmed, mapGate_kept, addGateFault_kept, raiseEvent_kept]

theorem unconfirm_kept (g : GateId) (why : UnconfirmedReason) (t : Half) : Keeping (unconfirm g why t) := by
  grind [unconfirm, raiseEvent_kept, editSlot_kept, countUnconfirmed_kept]

theorem expireConfirm_kept (g : GateId) : Keeping (expireConfirm g) := by
  intro s₀ s h
  unfold expireConfirm
  exact forEach_kept _ (fun e : ConfirmEntry => unconfirm_kept g .window e.ticket) (mapGate_kept g _ h)

theorem dropPending_kept (g : GateId) : Keeping (dropPending g) := by
  grind [dropPending, unconfirm_kept, mapGate_kept]

theorem ageConfirm_kept (g : GateId) : Keeping (ageConfirm g) := fun _ _ h => mapGate_kept g _ h

theorem judgeSlot_kept (g : GateId) : Keeping (judgeSlot g) := by
  grind [judgeSlot, editSlotAt_kept, mapGate_kept]

theorem gatesAtBoundary_kept : Keeping gatesAtBoundary := fun _ _ h =>
  forEach_kept _ judgeSlot_kept (forEach_kept _ expireConfirm_kept (forEach_kept _ ageConfirm_kept
    (forEach_kept _ dropPending_kept h)))

theorem fireAt_kept (g : GateId) : Keeping (fireAt g) := by
  grind [fireAt, countOn_kept, editSlot_kept, mapGate_kept]

theorem pulseExpiry_kept (g : GateId) : Keeping (pulseExpiry g) := by
  grind [pulseExpiry, mapGate_kept]

theorem confirmEdge_kept (g : GateId) : Keeping (confirmEdge g) := by
  grind [confirmEdge, editSlot_kept, mapGate_kept, mapTallies_kept, raiseEvent_kept]

theorem retireAll_kept (t : Half) : Keeping (retireAll t) := fun _ _ h =>
  forEach_kept _ (fun n _ _ k => mapCamera_kept n _ k) h

theorem expireDischarged_kept (t : Half) (g : GateId) : Keeping (expireDischarged t g) := by
  grind [expireDischarged, unconfirm_kept, mapGate_kept]

theorem judgeLeaving_kept (sl : Slot) : Keeping (judgeLeaving sl) := by
  grind [judgeLeaving, addEscape_kept, raiseEvent_kept, mapTallies_kept]

theorem discharge_kept (p : Nat) : Keeping (discharge p) := fun _ _ h =>
  judgeLeaving_kept _ (forEach_kept _ (expireDischarged_kept _) (retireAll_kept _ h))

/-! ## The track (chapter 1) -/

theorem activateStaged_kept : Keeping activateStaged := fun _ _ h =>
  forEach_kept _ (fun g _ _ k => mapGate_kept g _ k) (forEach_kept _ (fun n _ _ k => mapCamera_kept n _ k) h)

/-- Moving the head on by one moves each slot on by one position (R13). -/
theorem ringIndex_succ (head : Fin 128) (p : Nat) : ringIndex (head + 1) (p + 1) = ringIndex head p := by
  apply Fin.ext
  simp only [ringIndex, Fin.val_add]
  have := head.isLt
  have : ((1 : Fin 128)).val = 1 := rfl
  omega

/-- The head is the place of the slot at position 0 (R12). -/
theorem ringIndex_zero (head : Fin 128) : ringIndex head 0 = head := by
  apply Fin.ext
  simp only [ringIndex]
  omega

/-- The slot that the advance makes at position 0 (R13, R16). -/
theorem createSlot_slotAt_zero (s : State) :
    (createSlot s).slotAt 0 =
      { Slot.fresh s.track.nextTicket with occupancy := if s.pitch.infeed then .occupied else .empty } := by
  simp only [createSlot, State.slotAt, ringIndex_zero, set_get, if_true]

/-- The advance moves every slot but the last of the ring on by one position (R13). -/
theorem createSlot_slotAt_succ {p : Nat} (onRing : p + 1 < 128) (s : State) :
    (createSlot s).slotAt (p + 1) = s.slotAt p := by
  have other : ringIndex s.track.head p ≠ s.track.head + 1 := fun e => by
    have at_zero := ringIndex_inj (s.track.head + 1) onRing (by omega : 0 < 128)
      ((ringIndex_succ _ _).trans (e.trans (ringIndex_zero _).symm))
    omega
  simp only [createSlot, State.slotAt, ringIndex_succ, set_get, if_neg other]

theorem createSlot_tickets {s : State} (h : ticketsConsecutive s) : ticketsConsecutive (createSlot s) := by
  obtain ⟨low, high, order⟩ := h
  refine ⟨low, high, fun p onTrack => ?_⟩
  change p < s.track.length at onTrack
  change _ = s.track.nextTicket + 1 - 1 - BitVec.ofNat 16 p
  cases p with
  | zero => rw [createSlot_slotAt_zero]; simp [Slot.fresh]
  | succ p =>
    rw [createSlot_slotAt_succ (by omega), order p (by omega), BitVec.ofNat_add]
    change _ = _ - (_ + 1)
    ring

theorem createSlot_kept : Keeping createSlot := fun s₀ s h => by
  have track : Kept s₀ { s with track := (createSlot s).track } := kept_of_track h createSlot_tickets
  exact (kept_of_same track : Kept s₀ (createSlot s))

theorem advance_kept : Keeping advance := fun _ _ h => createSlot_kept (discharge_kept _ h)

theorem fillerAtBoundary_kept : Keeping fillerAtBoundary := by
  intro s₀ s h
  unfold fillerAtBoundary
  have left := judgeGrants_kept (forEach_kept (allUnits 8) exitLimit_kept h)
  have late := judgeGrants_kept (forEach_kept (allUnits 8) approachLimit_kept left)
  exact assignEntry_kept (judgeReleases_kept (forEach_kept (allUnits 8) armRobot_kept late))

theorem boundary_kept : Keeping boundary := fun _ _ h =>
  fillerAtBoundary_kept (gatesAtBoundary_kept (camerasAtBoundary_kept (advance_kept (activateStaged_kept h))))

theorem sampleInfeed_kept (infActive : Bool) : Keeping (sampleInfeed infActive) := by
  intro s₀ s h
  dsimp only [sampleInfeed]
  split
  · exact kept_of_same h
  · exact h

theorem reachPhase_kept (infActive : Bool) : Keeping (reachPhase infActive) := fun _ _ h =>
  forEach_kept _ triggerAt_kept (forEach_kept _ fireAt_kept (sampleInfeed_kept infActive h))

theorem countedEdge_kept (infActive : Bool) : Keeping (countedEdge infActive) := by
  grind [countedEdge, reachPhase_kept, setPitchCounter_kept, boundary_kept]

theorem strayEdge_kept : Keeping strayEdge := by
  intro s₀ s h
  unfold strayEdge
  split
  · exact h
  · exact raiseEvent_kept _ _ _ _ (kept_of_same h)

theorem runRise_kept : Keeping runRise := by
  intro s₀ s h
  unfold runRise
  split
  · exact h
  · exact kept_of_same h

theorem runFall_kept : Keeping runFall := fun _ _ h => kept_of_same h

/-! ## The expiries (8.1, R151) -/

theorem rolloverTime_kept : Keeping rolloverTime := by
  intro s₀ s h
  have rolled : Kept s₀ { s with time := s.time.rollover } := kept_of_same h
  grind [rolloverTime, raiseEvent_kept]

theorem rollover_kept : Keeping rollover := fun _ _ h =>
  forEach_kept _ (fun i _ _ k => settle_kept (expireGrant_kept i _ k)) (rolloverTime_kept h)

theorem gapExpiry_kept : Keeping gapExpiry := by
  intro s₀ s h
  unfold gapExpiry
  split
  · split
    · exact kept_of_same h
    · exact h
  · exact h

theorem groupExpiries_kept (g : GroupId) : Keeping (groupExpiries g) := fun _ _ h =>
  weldExpiry_kept g (dropoutExpiry_kept g (fallOutExpiry_kept g (pullinExpiry_kept g h)))

theorem robotExpiries_kept (r : RobotId) : Keeping (robotExpiries r) := fun _ _ h =>
  settle_kept (settleExpiry_kept r (settle_kept (noFlowExpiry_kept r (settle_kept (stuckValve_kept r
    (settle_kept (checkExpiry_kept r h)))))))

/-! ## One timer's share of the tick -/

theorem shareOfTick_kept {due : State → Bool} {advanceOne act : State → State}
    (acts : ∀ ⦃s₀ s⦄, Kept s₀ s → Kept s₀ (act (advanceOne s))) : Keeping (shareOfTick due advanceOne act) := by
  intro s₀ s h
  dsimp only [shareOfTick]
  split
  · exact settle_kept (acts h)
  · exact h

theorem noteShare_kept (share : TickShare) : Keeping (noteShare share) := fun _ _ h => kept_of_same h

/-- A millisecond of valve-open time, and the second that it may complete (R158). -/
def Counter.afterMillisecond (c : Counter) : Counter :=
  { c with remainder := if 1000 ≤ c.remainder + 1 then c.remainder + 1 - 1000 else c.remainder + 1 }

theorem Counter.onward_millisecond (r : RobotId) (c : Counter) :
    Counter.Onward (valveCounter r) c c.afterMillisecond := by
  intro bound low h
  obtain ⟨-, remainder, -⟩ := id h
  refine ⟨within_remainder h ?_ fun _ => ?_, Nat.le_refl c.total⟩
  · split <;> omega
  · simp only [valveCounter]; omega

/-- The share of a valve-open time, taken ahead of its tick (R97, R158). -/
theorem valveShare_kept (r : RobotId) ⦃s₀ s : State⦄ (h : Kept s₀ s) :
    Kept s₀ (valveSecond r (noteShare (.valveTime r)
      { s with counters := updateAt s.counters (valveCounter r) Counter.tick })) := by
  have ticked : (updateAt s.counters (valveCounter r) Counter.tick)[valveCounter r] =
      s.counters[valveCounter r].tick := by rw [updateAt_get, if_pos rfl]
  have onward := Counter.onward_millisecond r s.counters[valveCounter r]
  unfold valveSecond
  simp only [noteShare, ticked]
  split
  case isTrue full =>
    have due : 1000 ≤ s.counters[valveCounter r].remainder + 1 := full
    refine countOn_kept _ (kept_of_same (setCounter_kept h onward) (counters := ?_))
    rw [Counter.afterMillisecond, if_pos due]
    simp [updateAt, Counter.tick]
  case isFalse early =>
    have early : ¬1000 ≤ s.counters[valveCounter r].remainder + 1 := early
    refine kept_of_same (setCounter_kept h onward) (counters := ?_)
    rw [Counter.afterMillisecond, if_neg early]
    rfl

theorem takeValveTime_kept (r : RobotId) : Keeping (takeValveTime r) := by
  intro s₀ s h
  unfold takeValveTime
  split
  · exact h
  · exact valveShare_kept r h

theorem countClosed_kept (before : State) : Keeping (countClosed before) := fun _ _ h =>
  forEach_kept _ (fun r s₀ s k => by
    split
    · exact settle_kept (takeValveTime_kept r k)
    · exact k) h

theorem shareSilence_kept (n : CameraId) : Keeping (shareSilence n) :=
  shareOfTick_kept fun _ _ h => silenceExpiry_kept n (mapCamera_kept n _ h)

theorem sharePulse_kept (g : GateId) : Keeping (sharePulse g) :=
  shareOfTick_kept fun _ _ h => pulseExpiry_kept g (mapGate_kept g _ h)

theorem shareSettle_kept (r : RobotId) : Keeping (shareSettle r) :=
  shareOfTick_kept fun _ _ h => settleExpiry_kept r (mapRobot_kept r _ h)

theorem shareNoFlow_kept (r : RobotId) : Keeping (shareNoFlow r) := fun _ s h =>
  countClosed_kept s (shareOfTick_kept (fun _ _ k => noFlowExpiry_kept r (mapRobot_kept r _ k)) h)

theorem shareCheck_kept (r : RobotId) : Keeping (shareCheck r) := fun _ s h =>
  countClosed_kept s (shareOfTick_kept (fun _ _ k => checkExpiry_kept r (mapDose_kept r _ k)) h)

theorem shareValveTime_kept (r : RobotId) : Keeping (shareValveTime r) := by
  intro s₀ s h
  unfold shareValveTime
  split
  · exact shareOfTick_kept (fun _ _ k => valveShare_kept r k) h
  · exact h

theorem Robot.tickPoll_address (rb : Robot) : rb.tickPoll.address = rb.address := by
  unfold Robot.tickPoll; split <;> rfl

theorem sharePoll_kept (r : RobotId) : Keeping (sharePoll r) := by
  intro s₀ s h
  unfold sharePoll
  split
  · exact h
  · exact shareOfTick_kept (fun _ _ k => pollExpiry_kept r (noteShare_kept _
      (mapRobot_kept r _ k Robot.tickPoll_address))) h

theorem shareAlike_kept : Keeping shareAlike := fun _ s h =>
  countClosed_kept s (shareOfTick_kept (fun _ _ k => discrepancyExpiry_kept (kept_of_same k)) h)

theorem tickGroup_kept (g : GroupId) ⦃s₀ s : State⦄ (h : Kept s₀ s) : Kept s₀ (s.mapGroup g Group.tick) :=
  mapGroup_kept h id

theorem shareGroup_kept (g : GroupId) {due : State → Bool} {act : State → State} (acts : Keeping act) :
    Keeping (shareGroup g due act) :=
  shareOfTick_kept fun _ _ h => acts (tickGroup_kept g h)

theorem shareFallOut_kept (g : GroupId) : Keeping (shareFallOut g) := fun _ s h =>
  countClosed_kept s (shareGroup_kept g (fallOutExpiry_kept g) h)

theorem Grant.tick_same (g : Grant) :
    g.tick.number = g.number ∧ g.tick.kind = g.kind ∧ g.tick.zones = g.zones := by
  unfold Grant.tick; split <;> exact ⟨rfl, rfl, rfl⟩

theorem tickGrant_kept (i : PlaceId) ⦃s₀ s : State⦄ (h : Kept s₀ s) :
    Kept s₀ (s.putGrant i (s.access.grants[i].map Grant.tick)) :=
  putGrant_kept h fun g ticked => by
    obtain ⟨old, held, rfl⟩ := Option.map_eq_some_iff.1 ticked
    exact ⟨old, held, old.tick_same⟩

theorem shareDrain_kept (i : PlaceId) : Keeping (shareDrain i) := fun _ s h =>
  countClosed_kept s (shareOfTick_kept (fun _ _ k => drainExpiry_kept i (tickGrant_kept i k)) h)

theorem shareExpiry_kept (i : PlaceId) : Keeping (shareExpiry i) := fun _ _ h =>
  settle_kept (expireGrant_kept i _ h)

theorem shareGap_kept : Keeping shareGap :=
  shareOfTick_kept fun _ _ h => gapExpiry_kept (kept_of_same h)

/-! ## The tick (R151) -/

/-- The seconds of valve-open time come after every expiry that may count a fill, and before the polls. -/
theorem expireTimers_eq (s : State) :
    ∃ filled : State, Kept s filled ∧ expireTimers s =
      gapExpiry (forEach (allUnits 8) pollExpiry (forEach (allUnits 8) (fun r t => settle (valveSecond r t)) filled)) := by
  have switched := settle_kept (discrepancyExpiry_kept (.refl s))
  have supervised := forEach_kept (allUnits 4) (fun g _ _ k => settle_kept (groupExpiries_kept g k)) switched
  have drained := forEach_kept (allUnits 8) (fun i _ _ k => settle_kept (drainExpiry_kept i k)) supervised
  have heard := forEach_kept (allUnits 6) silenceExpiry_kept drained
  have fired := forEach_kept (allUnits 2) pulseExpiry_kept heard
  exact ⟨_, forEach_kept (allUnits 8) robotExpiries_kept fired, rfl⟩

theorem secondExpiries_kept (rs : List RobotId) :
    Keeping (forEach rs fun r t => settle (valveSecond r t)) := fun _ _ h =>
  forEach_kept rs (fun r _ _ k => settle_kept (valveSecond_kept r k)) h

theorem polls_kept {s₀ s : State} (h : Kept s₀ s) : Kept s₀ (gapExpiry (forEach (allUnits 8) pollExpiry s)) :=
  gapExpiry_kept (forEach_kept _ pollExpiry_kept h)

theorem expireTimers_kept : Keeping expireTimers := by
  intro s₀ s h
  obtain ⟨filled, kept, e⟩ := expireTimers_eq s
  rw [e]
  exact h.trans (polls_kept (secondExpiries_kept _ kept))

theorem tickRobot_address (s : State) (r : RobotId) : (tickRobot s r).address = s.robots[r].address := by
  unfold tickRobot
  split
  · rfl
  · exact Robot.tickPoll_address _

/-- The rise of the timers is kept, the milliseconds of valve-open time apart. -/
theorem advanceTimers_steady (s : State) : Steady s (advanceTimers s) ∧ Lowered s (advanceTimers s) := by
  have timers : Kept s { advanceTimers s with counters := s.counters, access := s.access } :=
    kept_of_same (.refl s) (addresses := fun r => by simp [advanceTimers, tickRobot_address])
      (coils := fun g => by simp [advanceTimers, coil, Group.tick])
  refine ⟨⟨rfl, timers.steady.tickets, timers.steady.events, grantsDistinct_of_same rfl fun k g ticked => ?_,
    timers.steady.addresses⟩, ⟨timers.lowered.coils, timers.lowered.stops⟩⟩
  have ticked : s.access.grants[k].map Grant.tick = some g := by simpa [advanceTimers] using ticked
  obtain ⟨old, held, rfl⟩ := Option.map_eq_some_iff.1 ticked
  exact ⟨old, held, old.tick_same⟩

theorem valveRobot_some {i : CounterId} {r : RobotId} (h : valveRobot i = some r) : i = valveCounter r := by
  unfold valveRobot at h
  split at h
  case isTrue range =>
    obtain rfl := Option.some.inj h
    exact Fin.ext (by simp only [valveCounter]; omega)
  case isFalse => cases h

theorem valveRobot_isSome {i : CounterId} (h : 8 ≤ i.val ∧ i.val < 16) : ∃ r : RobotId, i = valveCounter r :=
  ⟨⟨i.val - 8, by omega⟩, Fin.ext (by simp only [valveCounter]; omega)⟩

/-- The rise of the timers may bring the remainder of a valve-open time to 1,000, and does nothing else to a counter
(R158). -/
theorem tickCounter_within {s : State} {i : CounterId} (within : s.counters[i].within i 1000) :
    (tickCounter s i).within i 1001 ∧ (tickCounter s i).total = s.counters[i].total := by
  obtain ⟨-, remainder, valve, -⟩ := id within
  have same : s.counters[i].within i 1001 := Counter.within_of_lt within (by omega)
  unfold tickCounter
  split
  case h_1 r opened =>
    split
    · refine ⟨Counter.within_remainder within (by omega) fun _ => ?_, rfl⟩
      rw [valveRobot_some opened]
      simp only [valveCounter]; omega
    · exact ⟨same, rfl⟩
  case h_2 => exact ⟨same, rfl⟩

/-- A remainder that has reached 1,000 gives the second that it completes (R158). -/
theorem valveSecond_within {s : State} {r : RobotId}
    (within : s.counters[valveCounter r].within (valveCounter r) 1001) :
    (valveSecond r s).counters[valveCounter r].within (valveCounter r) 1000 := by
  obtain ⟨-, remainder, valve, -⟩ := id within
  unfold valveSecond
  dsimp only
  split
  case isTrue full =>
    have low : { s.counters[valveCounter r] with remainder := s.counters[valveCounter r].remainder - 1000 }.within
        (valveCounter r) 1000 := Counter.within_remainder within (by omega) fun _ => valve (by omega)
    refine (countOn_kept (valveCounter r) (.refl _)).within le_rfl ?_
    rw [set_get, if_pos rfl]
    exact low
  case isFalse early => exact Counter.within_of_lt within (Nat.lt_of_not_le early)

/-- Counter i of the part lies within its limits, its remainder below a bound. -/
def State.counterWithin (s : State) (i : CounterId) (bound : Nat) : Prop := s.counters[i].within i bound

theorem Kept.counterWithin {s t : State} (h : Kept s t) {i : CounterId} {bound : Nat} (low : 1000 ≤ bound)
    (within : s.counterWithin i bound) : t.counterWithin i bound := h.within low within

/-- The seconds of valve-open time, robot by robot: each leaves its robot's remainder below 1,000 (R158). -/
theorem seconds_within (rs : List RobotId) {s : State} (within : ∀ i : CounterId, s.counterWithin i 1001) :
    ∀ r ∈ rs, (forEach rs (fun r t => settle (valveSecond r t)) s).counterWithin (valveCounter r) 1000 := by
  induction rs generalizing s with
  | nil => exact fun r impossible => nomatch impossible
  | cons q rs ih =>
    have next : Kept s (settle (valveSecond q s)) := settle_kept (valveSecond_kept q (.refl s))
    have done : (settle (valveSecond q s)).counterWithin (valveCounter q) 1000 :=
      (settle_kept (.refl _)).counterWithin le_rfl (valveSecond_within (within (valveCounter q)))
    rw [forEach_cons]
    intro r listed
    rcases List.mem_cons.1 listed with rfl | listed
    · exact (secondExpiries_kept rs (.refl _)).counterWithin le_rfl done
    · exact ih (fun i => next.counterWithin (Nat.le_succ 1000) (within i)) r listed

/-- The tick keeps each counter within its limits, and lets no total fall (R158, R159). -/
theorem tick_counters {s : State} (computed : countersComputed s) (i : CounterId) :
    (tick s).counters[i].within i 1000 ∧ s.counters[i].total ≤ (tick s).counters[i].total := by
  have risen (k : CounterId) : (advanceTimers s).counters[k].within k 1001
      ∧ (advanceTimers s).counters[k].total = s.counters[k].total := by
    have := tickCounter_within (computed k)
    simpa [advanceTimers] using this
  obtain ⟨rolled, kept, e⟩ : ∃ rolled, Kept (advanceTimers s) rolled ∧ tick s = expireTimers rolled := by
    unfold tick
    dsimp only
    split
    · exact ⟨_, rollover_kept (.refl _), rfl⟩
    · exact ⟨_, .refl _, rfl⟩
  obtain ⟨filled, kept', e'⟩ := expireTimers_eq rolled
  have early : Kept (advanceTimers s) filled := kept.trans kept'
  have last : Kept filled (tick s) := e ▸ e' ▸ polls_kept (secondExpiries_kept _ (.refl filled))
  have loose (k : CounterId) : filled.counters[k].within k 1001 := early.within (Nat.le_succ 1000) (risen k).1
  have whole : (tick s).counters[i].within i 1001 := last.within (Nat.le_succ 1000) (loose i)
  have rises := (early.total_le (Nat.le_succ 1000) (risen i).1).trans (last.total_le (Nat.le_succ 1000) (loose i))
  rw [(risen i).2] at rises
  refine ⟨?_, rises⟩
  by_cases valve : 8 ≤ i.val ∧ i.val < 16
  · obtain ⟨r, rfl⟩ := valveRobot_isSome valve
    have seconds := seconds_within (allUnits 8) loose r (List.mem_finRange r)
    rw [e, e']
    exact (polls_kept (.refl _)).within le_rfl seconds
  · have none : (tick s).counters[i].remainder = 0 := by
      obtain ⟨-, -, only, -⟩ := whole
      by_contra some
      exact valve (only some)
    exact Counter.within_of_lt whole (by omega)

theorem tick_steady (s : State) : Steady s (tick s) ∧ Lowered s (tick s) := by
  obtain ⟨steady, lowered⟩ := advanceTimers_steady s
  have kept : Kept (advanceTimers s) (tick s) := by
    unfold tick
    dsimp only
    split
    · exact expireTimers_kept (rollover_kept (.refl _))
    · exact expireTimers_kept (.refl _)
  exact ⟨steady.trans kept.steady, lowered.trans kept.lowered⟩

/-- The tick keeps what the part's operations keep, from counters that lie within their limits. -/
theorem tick_kept {s : State} (computed : countersComputed s) : Kept s (tick s) where
  steady := (tick_steady s).1
  lowered := (tick_steady s).2
  counters i bound low _ := by
    obtain ⟨within, rises⟩ := tick_counters computed i
    obtain ⟨-, remainder, -⟩ := id within
    exact ⟨Counter.within_of_lt within (remainder.trans_le low), rises⟩

end Sys2Proof.Machine
end


section
/-! The host requests: every rule keeps what the part's operations keep, but for GROUP_CLOSE, LINE_RELEASE and COUNTER_RESET,
each of which lowers what the others do not (R59, R116, R164). -/

set_option Elab.async false

namespace Sys2Proof.Machine

/-! ## Settings (R6 to R11, R24, R25, R45, R46, R71) -/

theorem raiseClamped_kept (unit phase : Nat) : Keeping (raiseClamped unit phase) := fun _ _ h =>
  raiseEvent_kept _ _ _ _ h

theorem clampCamera_kept (n : CameraId) : Keeping (clampCamera n) := by
  grind [clampCamera, raiseClamped_kept, mapCamera_kept]

theorem clampGate_kept (g : GateId) : Keeping (clampGate g) := by
  grind [clampGate, raiseClamped_kept, mapGate_kept]

theorem clampWindowStart_kept : Keeping clampWindowStart := by
  intro s₀ s h
  unfold clampWindowStart
  dsimp only
  split
  · exact raiseClamped_kept _ _ (kept_of_same h)
  · exact h

theorem clampWindowEnd_kept : Keeping clampWindowEnd := by
  intro s₀ s h
  unfold clampWindowEnd
  dsimp only
  split
  · exact raiseClamped_kept _ _ (kept_of_same h)
  · exact h

theorem clampAll_kept : Keeping clampAll := fun _ _ h =>
  setPitchCounter_kept _ (clampWindowEnd_kept (clampWindowStart_kept (forEach_kept _ clampGate_kept
    (forEach_kept _ clampCamera_kept h))))

theorem checkLimits_kept : Keeping checkLimits := fun _ _ h =>
  forEach_kept _ expireConfirm_kept (forEach_kept _ deadlineCheck_kept h)

theorem layoutBase_kept (layout : Bool) : Keeping (layoutBase layout) := by
  grind [layoutBase, activateStaged_kept]

theorem writeTrack_kept (pitch start stop : Nat) : Keeping (writeTrack pitch start stop) := fun _ _ h =>
  kept_of_same h

/-- Slots added at the discharge end: each position of the list becomes EMPTY with the ticket that its distance from
position 0 gives, and every other slot is kept (R11). -/
theorem addSlots (ps : List Nat) (s : State) (low : ∀ p ∈ ps, 0 < p ∧ p < 128) :
    let t := forEach ps addSlot s
    t.track.head = s.track.head ∧ t.track.nextTicket = s.track.nextTicket ∧ t.track.length = s.track.length
      ∧ t.track.tallies = s.track.tallies
      ∧ ∀ q : Nat, q < 128 → t.slotAt q =
        if q ∈ ps then Slot.fresh ((s.slotAt 0).ticket - BitVec.ofNat 16 q) else s.slotAt q := by
  induction ps generalizing s with
  | nil => exact ⟨rfl, rfl, rfl, rfl, fun q _ => by simp⟩
  | cons p ps ih =>
    have ⟨positive, onRing⟩ := low p List.mem_cons_self
    have added (q : Nat) (hq : q < 128) : (addSlot p s).slotAt q =
        if q = p then Slot.fresh ((s.slotAt 0).ticket - BitVec.ofNat 16 p) else s.slotAt q :=
      slotAt_putSlot p q _ s onRing hq
    obtain ⟨head, ticket, length, tallies, slots⟩ := ih (addSlot p s) fun q hq => low q (List.mem_cons_of_mem p hq)
    refine ⟨head, ticket, length, tallies, fun q hq => ?_⟩
    have zero : (addSlot p s).slotAt 0 = s.slotAt 0 := by rw [added 0 (by omega), if_neg (by omega)]
    rw [forEach_cons, slots q hq, zero, added q hq]
    by_cases same : q = p
    · simp [same]
    · simp [same]

theorem addSlot_eq (ps : List Nat) (s : State) : forEach ps addSlot s = { s with track := (forEach ps addSlot s).track } := by
  induction ps generalizing s with
  | nil => rfl
  | cons p ps ih => rw [forEach_cons, ih]; rfl

/-- A reject that leaves without confirmation changes the track by its slot's mark alone (R55). -/
theorem unconfirm_track (g : GateId) (why : UnconfirmedReason) (t : Half) (s : State) :
    (unconfirm g why t s).track = (editSlot t (fun sl => { sl with reject := .unconfirmed }) s).track := by
  simp only [unconfirm]
  split <;> simp [countUnconfirmed_frame]

theorem expireDischarged_length (t : Half) (g : GateId) (s : State) :
    (expireDischarged t g s).track.length = s.track.length := by
  unfold expireDischarged
  split
  · rw [unconfirm_track, (editSlot_track _ _ _).2.2.1]
    rfl
  · rfl

theorem judgeLeaving_length (sl : Slot) (s : State) : (judgeLeaving sl s).track.length = s.track.length := by
  unfold judgeLeaving
  split <;> simp

theorem discharge_length (p : Nat) (s : State) : (discharge p s).track.length = s.track.length := by
  have cleared := forEach_keeps (fun t : State => t.track.length) (allUnits 2)
    (expireDischarged (s.slotAt p).ticket) (expireDischarged_length _) (retireAll (s.slotAt p).ticket s)
  rw [discharge, judgeLeaving_length]
  exact cleared.trans (by rw [(retireAll_frame _ s).2.2.1])

/-- A change of L to a length in range keeps the tickets of the slots that stay, and gives those that are added the tickets
that follow (R11). -/
theorem changeLength_kept {l : Nat} (low : 16 ≤ l) (high : l ≤ 128) : Keeping (changeLength l) := by
  intro s₀ s h
  dsimp only [changeLength]
  split
  case isTrue longer =>
    rw [addSlot_eq]
    refine kept_of_track h fun ⟨least, _, order⟩ => ⟨low, high, fun p onTrack => ?_⟩
    obtain ⟨-, ticket, -, -, slots⟩ := addSlots ((List.range l).filter fun p => decide (s.track.length ≤ p)) s
      fun p listed => by
        simp only [List.mem_filter, List.mem_range, decide_eq_true_eq] at listed
        omega
    have onTrack : p < l := onTrack
    have slot := slots p (by omega)
    change ((forEach _ addSlot s).slotAt p).ticket = (forEach _ addSlot s).track.nextTicket - 1 - BitVec.ofNat 16 p
    rw [slot, ticket]
    split
    case isTrue => simp [Slot.fresh, order 0 (by omega)]
    case isFalse stays =>
      refine order p ?_
      simpa [onTrack] using stays
  case isFalse shorter =>
    have discharged := forEach_kept ((List.range s.track.length).filter fun p => decide (l ≤ p)).reverse
      discharge_kept h
    have length := forEach_keeps (fun t : State => t.track.length)
      ((List.range s.track.length).filter fun p => decide (l ≤ p)).reverse discharge discharge_length s
    refine kept_of_track discharged fun ⟨_, _, order⟩ => ⟨low, high, fun p onTrack => order p ?_⟩
    have onTrack : p < l := onTrack
    rw [length]
    omega

theorem trackConfig_kept (tag pitch : Half) (length : Byte) (infeedStart infeedEnd : Half) :
    Keeping (trackConfig tag pitch length infeedStart infeedEnd) := by
  intro s₀ s h
  unfold trackConfig
  dsimp only
  split
  · exact refuse_kept _ _ _ h
  · split
    case isTrue ok =>
      obtain ⟨low, high⟩ : 16 ≤ length.toNat ∧ length.toNat ≤ 128 := by
        simp only [settingsOk, trackSettingsOk, Bool.and_eq_true, decide_eq_true_eq] at ok
        exact ok.1.1.1.1.1.1.2
      refine accept_kept _ _ _ ?_
      split
      · exact changeLength_kept low high (checkLimits_kept (clampAll_kept (writeTrack_kept _ _ _
          (layoutBase_kept _ h))))
      · exact h
    case isFalse => exact refuse_kept _ _ _ h

theorem reconfigureCamera_kept (n : CameraId) (old new : CameraSettings) : Keeping (reconfigureCamera n old new) := by
  intro s₀ s h
  unfold reconfigureCamera
  repeat' split
  · exact mapCamera_kept n _ h
  · exact mapCamera_kept n _ (missAll_kept n _ h)
  · exact mapCamera_kept n _ (missAll_kept n _ h)
  · exact h

theorem stageCamera_kept (n : CameraId) (new : CameraSettings) : Keeping (stageCamera n new) := by
  grind [stageCamera, mapCamera_kept, raiseClamped_kept]

theorem writeCamera_kept (n : CameraId) (new : CameraSettings) : Keeping (writeCamera n new) := fun _ _ h =>
  mapCamera_kept n _ h

theorem configureCamera_kept (tag : Half) (n : CameraId) (new : CameraSettings) :
    Keeping (configureCamera tag n new) := by
  grind [configureCamera, refuse_kept, accept_kept, stageCamera_kept, checkLimits_kept, reconfigureCamera_kept,
    clampAll_kept, writeCamera_kept, layoutBase_kept]

theorem cameraConfig_kept (tag : Half) (camera enabled position : Byte) (phase classMask : Half)
    (required deadline : Byte) :
    Keeping (cameraConfig tag camera enabled position phase classMask required deadline) := by
  grind [cameraConfig, refuse_kept, configureCamera_kept]

theorem dropRejects_kept (g : GateId) : Keeping (dropRejects g) := by
  intro s₀ s h
  unfold dropRejects
  exact forEach_kept _ (unconfirm_kept g .reconfigured) (mapGate_kept g _ h)

theorem reconfigureGate_kept (g : GateId) (old new : GateSettings) : Keeping (reconfigureGate g old new) := by
  grind [reconfigureGate, dropRejects_kept, mapGate_kept]

theorem stageGate_kept (g : GateId) (new : GateSettings) : Keeping (stageGate g new) := by
  grind [stageGate, mapGate_kept, raiseClamped_kept]

theorem writeGate_kept (g : GateId) (new : GateSettings) : Keeping (writeGate g new) := fun _ _ h =>
  mapGate_kept g _ h

theorem configureGate_kept (tag : Half) (g : GateId) (new : GateSettings) : Keeping (configureGate tag g new) := by
  grind [configureGate, refuse_kept, accept_kept, stageGate_kept, checkLimits_kept, reconfigureGate_kept,
    clampAll_kept, writeGate_kept, layoutBase_kept]

theorem gateConfig_kept (tag : Half) (gate enabled position : Byte) (phase : Half) (width : Byte) (classMask : Half)
    (window : Byte) : Keeping (gateConfig tag gate enabled position phase width classMask window) := by
  grind [gateConfig, refuse_kept, configureGate_kept]

theorem fillerConfig_kept (tag : Half) (entry exit approach : Byte) : Keeping (fillerConfig tag entry exit approach) := by
  intro s₀ s h
  unfold fillerConfig
  dsimp only
  repeat' split
  · exact refuse_kept _ _ _ h
  · exact refuse_kept _ _ _ h
  · exact accept_kept _ _ _ (checkLimits_kept (clampAll_kept (kept_of_same (layoutBase_kept _ h))))
  · exact accept_kept _ _ _ h
  · exact refuse_kept _ _ _ h

/-! ## Reading and flushing the track (R20 to R22, R61), and faults of gates (R56) -/

theorem trackRead_kept (tag : Half) (position : Byte) : Keeping (trackRead tag position) := by
  grind [trackRead, accept_kept, refuse_kept]

theorem trackTally_kept (tag : Half) (clear : Byte) : Keeping (trackTally tag clear) := by
  grind [trackTally, accept_kept, refuse_kept, mapTallies_kept]

theorem emptySlots_kept : Keeping emptySlots := by
  intro s₀ s h
  unfold emptySlots
  refine forEach_kept _ (fun p _ t k => ?_) h
  exact putSlot_kept k rfl

theorem emptyUnitLists_kept : Keeping emptyUnitLists := fun _ _ h =>
  forEach_kept _ (fun g _ _ k => mapGate_kept g _ k) (forEach_kept _ (fun n _ _ k => mapCamera_kept n _ k) h)

theorem trackFlush_kept (tag : Half) : Keeping (trackFlush tag) := by
  intro s₀ s h
  unfold trackFlush
  dsimp only
  split
  · exact refuse_kept _ _ _ h
  · exact accept_kept _ _ _ (settle_kept (emptyUnitLists_kept (emptySlots_kept (forEach_kept _ abortJob_kept h))))

theorem clearGateFault_kept (tag : Half) (number : Byte) : Keeping (clearGateFault tag number) := by
  grind [clearGateFault, accept_kept, refuse_kept, mapGate_kept]

/-! ## Robots (R62 to R65, R91 to R93) -/

theorem mem_allUnits {n : Nat} (i : Fin n) : i ∈ allUnits n := List.mem_finRange i

theorem addressTaken_iff (s : State) (r : RobotId) (address : Nat) :
    addressTaken s r address = true ↔ ∃ q : RobotId, q ≠ r ∧ s.robots[q].address = address := by
  simp [addressTaken, mem_allUnits]

/-- A robot that takes an address in range that no other has leaves the addresses distinct (R62). -/
theorem newAddress_kept {s₀ s : State} (h : Kept s₀ s) (r : RobotId) (z : GroupId) {a : Nat} (low : 1 ≤ a) (high : a ≤ 30)
    (free : ¬addressTaken s r a = true) : Kept s₀ (s.mapRobot r fun rb => { rb with zone := z, address := a }) := by
  have others (q : RobotId) (other : q ≠ r) : s.robots[q].address ≠ a := fun taken =>
    free ((addressTaken_iff s r a).2 ⟨q, other, taken⟩)
  refine h.trans ⟨⟨rfl, id, fun h k => ⟨h, k⟩, id, fun ⟨range, distinct⟩ => ⟨fun q => ?_, fun q k same => ?_⟩⟩,
    fun i => .refl i _, ⟨fun _ => id, id⟩⟩
  · rw [mapRobot_get]
    split
    · exact ⟨low, high⟩
    · exact range q
  · rw [mapRobot_get, mapRobot_get] at same
    by_cases hq : q = r <;> by_cases hk : k = r
    · rw [hq, hk]
    · rw [if_pos hq, if_neg hk] at same
      exact absurd same.symm (others k hk)
    · rw [if_neg hq, if_pos hk] at same
      exact absurd same (others q hq)
    · rw [if_neg hq, if_neg hk] at same
      exact distinct q k same

theorem robotConfig_kept (tag : Half) (robot zone address : Byte) : Keeping (robotConfig tag robot zone address) := by
  intro s₀ s h
  unfold robotConfig
  split
  case h_1 r z _ _ =>
    dsimp only
    split
    case isTrue => exact refuse_kept _ _ _ h
    case isFalse valid =>
      split
      · exact refuse_kept _ _ _ h
      · obtain ⟨low, high, free⟩ : ¬address.toNat < 1 ∧ ¬30 < address.toNat ∧ ¬addressTaken s r address.toNat := by
          simpa only [not_or] using valid
        exact accept_kept _ _ _ (newAddress_kept h r z (by omega) (by omega) free)
  case h_2 => exact refuse_kept _ _ _ h

theorem recipeLoad_kept (tag : Half) (robot : Byte) (new : Recipe) : Keeping (recipeLoad tag robot new) := by
  grind [recipeLoad, takeRecipe, accept_kept, refuse_kept, mapDose_kept]

theorem leaveOff_kept (r : RobotId) : Keeping (leaveOff r) := fun _ _ h => changeRobot_kept r _ (kept_of_same h)

theorem enterOff_kept (r : RobotId) : Keeping (enterOff r) := fun _ _ h => changeRobot_kept r _ (mapQueue_kept r _ h)

theorem modeChange_kept {s : State} {r : RobotId} {new : RobotMode} {change : State → State}
    (allowed : modeChange s r new = .ok change) : Keeping change := by
  unfold modeChange at allowed
  split at allowed
  · cases allowed
  split at allowed
  · cases allowed
    exact leaveOff_kept r
  · cases allowed
    exact enterOff_kept r
  · split_ifs at allowed
    cases allowed
    exact fun _ _ h => changeRobot_kept r _ h
  · cases allowed
    exact fun _ _ h => changeRobot_kept r _ (abortJob_kept r h)
  · cases allowed

theorem robotMode_kept (tag : Half) (robot mode : Byte) : Keeping (robotMode tag robot mode) := by
  intro s₀ s h
  unfold robotMode
  split
  · split
    · exact accept_kept _ _ _ h
    · split
      · exact accept_kept _ _ _ (settle_kept (modeChange_kept ‹_› h))
      · exact refuse_kept _ _ _ h
  · exact refuse_kept _ _ _ h

theorem robotRead_kept (tag : Half) (robot : Byte) : Keeping (robotRead tag robot) := by
  grind [robotRead, accept_kept, refuse_kept]

theorem clearRobotFault_kept (tag : Half) (number : Byte) : Keeping (clearRobotFault tag number) := by
  intro s₀ s h
  unfold clearRobotFault
  split
  case h_1 r _ =>
    split
    · exact accept_kept _ _ _ (settle_kept (changeRobot_kept r _ h))
    · exact refuse_kept _ _ _ h
  case h_2 => exact refuse_kept _ _ _ h

/-! ## The cabinet (R112, R119, R122, R126) -/

theorem groupOpen_kept (tag : Half) (group : Byte) : Keeping (groupOpen tag group) := by
  grind [groupOpen, settle_kept, openGroup_kept, accept_kept, refuse_kept]

theorem powerRead_kept (tag : Half) : Keeping (powerRead tag) := fun _ _ h => accept_kept _ _ _ h

theorem clearSwitchFault_kept (tag : Half) (number : Byte) : Keeping (clearSwitchFault tag number) := by
  intro s₀ s h
  unfold clearSwitchFault
  repeat' split
  · exact refuse_kept _ _ _ h
  · exact refuse_kept _ _ _ h
  · exact accept_kept _ _ _ (kept_of_same h)

theorem clearGroupFault_kept (tag : Half) (number : Byte) : Keeping (clearGroupFault tag number) := by
  intro s₀ s h
  unfold clearGroupFault
  repeat' split
  · exact accept_kept _ _ _ (settle_kept (enterGroup_off_kept _ _ h))
  · exact refuse_kept _ _ _ h
  · exact refuse_kept _ _ _ h

/-! ## Counters and machine time (R154, R156, R160, R163, R167) -/

theorem acceptCounter_kept {s₀ s : State} (h : Kept s₀ s) (kind : Byte) (tag : Half) {i : CounterId} {c : Counter}
    (onward : Counter.Onward i s.counters[i] c) : Kept s₀ (acceptCounter kind tag i c s) :=
  accept_kept _ _ _ (settle_kept (storeCounter_kept h onward))

/-- A load adds to the counts gathered so far (R163). -/
theorem Counter.onward_loaded (i : CounterId) (c : Counter) (total : Nat) : Counter.Onward i c (c.loaded total) :=
  fun bound _ ⟨most, remainder, valve, limits, due, margin, _⟩ =>
    ⟨⟨Nat.min_le_right _ _, remainder, valve, limits, due, margin, .inr rfl⟩, by
      change c.total ≤ min (total + c.total) maxLong
      omega⟩

theorem counterLoad_kept (tag : Half) (counter : Byte) (total : Long) : Keeping (counterLoad tag counter total) := by
  intro s₀ s h
  unfold counterLoad
  split
  case h_1 i _ =>
    split
    · exact acceptCounter_kept h _ _ (Counter.onward_loaded i _ _)
    · exact refuse_kept _ _ _ h
  case h_2 => exact refuse_kept _ _ _ h

/-- New limits within their ranges leave the total (R160). -/
theorem Counter.onward_limits (i : CounterId) (c : Counter) {warn due margin : Nat} (z : GroupId) (order : warn ≤ due)
    (most : due ≤ maxLong) (range : margin ≤ 50) :
    Counter.Onward i c { c with warn := warn, due := due, margin := margin, zone := z }.refresh :=
  fun bound _ ⟨total, remainder, valve, _⟩ =>
    ⟨refresh_within total remainder valve order most range, by rw [refresh_total]⟩

theorem counterLimits_kept (tag : Half) (counter : Byte) (warn due : Long) (margin zone : Byte) :
    Keeping (counterLimits tag counter warn due margin zone) := by
  intro s₀ s h
  unfold counterLimits
  split
  case h_1 i _ =>
    split
    case isTrue => exact refuse_kept _ _ _ h
    case isFalse range =>
      obtain ⟨margin50, order⟩ := not_or.1 range
      split
      · exact acceptCounter_kept h _ _ (Counter.onward_limits i _ _ (Nat.le_of_not_lt order)
          (Nat.le_of_lt_succ due.isLt) (Nat.le_of_not_lt margin50))
      · exact refuse_kept _ _ _ h
  case h_2 => exact refuse_kept _ _ _ h

theorem counterRead_kept (tag : Half) (counter : Byte) : Keeping (counterRead tag counter) := by
  grind [counterRead, accept_kept, refuse_kept]

theorem timeSet_kept (tag : Half) (seconds : Long) : Keeping (timeSet tag seconds) := fun _ _ h =>
  accept_kept _ _ _ (kept_of_same h)

theorem timeRead_kept (tag : Half) : Keeping (timeRead tag) := fun _ _ h => accept_kept _ _ _ h

/-! ## Grants and latches (R131, R140, R142, R148, R150) -/

theorem endByRequest_kept {s₀ s : State} (h : Kept s₀ s) {i : PlaceId} {g : Grant}
    (held : s.access.grants[i] = some g) : Kept s₀ (endByRequest i g s) := by
  unfold endByRequest
  repeat' split
  all_goals first
    | exact endGrant_kept i g h
    | exact enterGrant_kept h (sameGrant_self held) _
    | exact h

theorem grantEnd_kept (tag number : Half) : Keeping (grantEnd tag number) := by
  intro s₀ s h
  unfold grantEnd
  split
  · exact refuse_kept _ _ _ h
  · split
    · exact refuse_kept _ _ _ h
    · exact accept_kept _ _ _ (settle_kept (endByRequest_kept h ‹_›))

theorem extendGrant_kept {s₀ s : State} (h : Kept s₀ s) {i : PlaceId} {g : Grant}
    (held : s.access.grants[i] = some g) (minutes : Nat) : Kept s₀ (extendGrant i g minutes s) := by
  unfold extendGrant
  dsimp only
  split
  · refine enterGrant_kept h ?_ _
    exact ⟨g, held, rfl, rfl, rfl⟩
  · exact putGrant_kept h fun g' longer => by
      obtain rfl := Option.some.inj longer
      exact ⟨g, held, rfl, rfl, rfl⟩

theorem grantExtend_kept (tag number minutes : Half) : Keeping (grantExtend tag number minutes) := by
  intro s₀ s h
  unfold grantExtend
  dsimp only
  split
  · exact refuse_kept _ _ _ h
  split
  · exact refuse_kept _ _ _ h
  split
  · exact refuse_kept _ _ _ h
  split
  · exact refuse_kept _ _ _ h
  · exact accept_kept _ _ _ (settle_kept (extendGrant_kept h ‹_› _))

theorem grantRead_kept (tag : Half) (place : Byte) : Keeping (grantRead tag place) := by
  grind [grantRead, accept_kept, refuse_kept]

theorem clearZoneLatch_kept (tag : Half) (number : Byte) : Keeping (clearZoneLatch tag number) := by
  grind [clearZoneLatch, accept_kept, refuse_kept, settle_kept, setZoneLatch_kept]

theorem clearCabinetLatch_kept (tag : Half) (number : Byte) : Keeping (clearCabinetLatch tag number) := by
  intro s₀ s h
  unfold clearCabinetLatch
  repeat' split
  · exact refuse_kept _ _ _ h
  · exact refuse_kept _ _ _ h
  · exact accept_kept _ _ _ (kept_of_same h)

end Sys2Proof.Machine
end


section
/-! What the remaining requests keep: GRANT_REQUEST, EVENT_READ, RESTART and the resets, and what GROUP_CLOSE, LINE_RELEASE
and COUNTER_RESET alone do. -/

set_option Elab.async false

namespace Sys2Proof.Machine

/-! ## The numbers of grants (R129) -/

theorem toNat_pos_of_ne_zero {n : Half} (notZero : n ≠ 0) : 0 < n.toNat :=
  Nat.pos_of_ne_zero fun zero => notZero (BitVec.eq_of_toNat_eq (by simpa using zero))

theorem numberAfter_toNat (n : Half) : (numberAfter n).toNat = n.toNat % 65535 + 1 := by
  unfold numberAfter
  split
  case isTrue last => rw [last]; rfl
  case isFalse more =>
    have top : n.toNat ≠ 65535 := fun top => more (BitVec.eq_of_toNat_eq (by simpa using top))
    have := n.isLt
    bv_omega

theorem numberAfter_iterate {n : Half} (notZero : n ≠ 0) (k : Nat) :
    (numberAfter^[k] n).toNat = (n.toNat - 1 + k) % 65535 + 1 := by
  induction k with
  | zero =>
    have := toNat_pos_of_ne_zero notZero
    have := n.isLt
    simp only [Function.iterate_zero, id_eq]
    omega
  | succ k ih =>
    rw [Function.iterate_succ_apply', numberAfter_toNat, ih]
    omega

theorem numberAfter_iterate_ne_zero {n : Half} (notZero : n ≠ 0) (k : Nat) : numberAfter^[k] n ≠ 0 := fun zero => by
  have := numberAfter_iterate notZero k
  rw [zero] at this
  simp at this

theorem numberLive_iff (s : State) (n : Half) :
    numberLive s n = true ↔ ∃ (i : PlaceId) (g : Grant), s.access.grants[i] = some g ∧ g.number = n := by
  constructor
  · intro live
    obtain ⟨i, -, here⟩ := List.any_eq_true.1 live
    cases held : s.access.grants[i] with
    | none => simp [held] at here
    | some g => exact ⟨i, g, held, by simpa [held] using here⟩
  · rintro ⟨i, g, held, number⟩
    exact List.any_eq_true.2 ⟨i, List.mem_finRange i, by simp [held, number]⟩

/-- The search for a number ends at a number that no live grant carries, or has met live ones alone (R129). -/
theorem freeNumber_spec (s : State) (tries : Nat) (n : Half) :
    ∃ k : Nat, freeNumber s tries n = numberAfter^[k] n
      ∧ (numberLive s (numberAfter^[k] n) = false ∨ ∀ j < tries, numberLive s (numberAfter^[j] n) = true) := by
  induction tries generalizing n with
  | zero => exact ⟨0, rfl, .inr fun j impossible => absurd impossible (Nat.not_lt_zero j)⟩
  | succ tries ih =>
    unfold freeNumber
    split
    case isTrue live =>
      obtain ⟨k, found, free⟩ := ih (numberAfter n)
      refine ⟨k + 1, found, free.imp id fun all j low => ?_⟩
      cases j with
      | zero => exact live
      | succ j => exact all j (Nat.lt_of_succ_lt_succ low)
    case isFalse free => exact ⟨0, rfl, .inl (by simpa using free)⟩

/-- Nine numbers one after another cannot all be live in eight places. -/
theorem not_nine_live (s : State) {n : Half} (notZero : n ≠ 0) :
    ¬ ∀ j < 9, numberLive s (numberAfter^[j] n) = true := by
  intro all
  have held (j : Fin 9) := (numberLive_iff s _).1 (all j.val j.isLt)
  choose place grant at_place number using held
  obtain ⟨j, k, differ, same⟩ := Fintype.exists_ne_map_eq_of_card_lt place (by decide)
  have grants : grant j = grant k := by
    have := at_place j
    rw [same, at_place k] at this
    exact (Option.some.inj this).symm
  have numbers : numberAfter^[j.val] n = numberAfter^[k.val] n := by rw [← number j, ← number k, grants]
  have := congrArg BitVec.toNat numbers
  rw [numberAfter_iterate notZero, numberAfter_iterate notZero] at this
  exact differ (Fin.ext (by omega))

/-- The number that follows a grant's is not 0, and no live grant carries it (R129). -/
theorem freeNumber_free (s : State) {n : Half} (notZero : n ≠ 0) :
    freeNumber s 9 n ≠ 0 ∧ numberLive s (freeNumber s 9 n) = false := by
  obtain ⟨k, found, free⟩ := freeNumber_spec s 9 n
  rw [found]
  exact ⟨numberAfter_iterate_ne_zero notZero k, free.resolve_right (not_nine_live s notZero)⟩

/-! ## GRANT_REQUEST (R131, R132) -/

theorem coveredBy_iff (s : State) (zones : ZoneSet) (which : GrantKind → Bool) :
    coveredBy s zones which = true ↔
      ∃ (i : PlaceId) (g : Grant), s.access.grants[i] = some g ∧ which g.kind = true ∧ g.zones &&& zones ≠ 0 := by
  constructor
  · intro covered
    obtain ⟨i, -, here⟩ := List.any_eq_true.1 covered
    cases held : s.access.grants[i] with
    | none => simp [held] at here
    | some g => exact ⟨i, g, held, by simpa [held] using here⟩
  · rintro ⟨i, g, held, which, shares⟩
    exact List.any_eq_true.2 ⟨i, List.mem_finRange i, by simpa [held, which] using shares⟩

/-- A grant may be placed: it covers a zone, and shares none with a grant of the other sort (R131). -/
structure State.MayPlace (s : State) (kind : GrantKind) (zones : ZoneSet) : Prop where
  covers : zones ≠ 0
  jogApart : kind = .jog → ∀ (i : PlaceId) (g : Grant), s.access.grants[i] = some g → g.kind ≠ .jog → g.zones &&& zones = 0
  othersApart : kind ≠ .jog → ∀ (i : PlaceId) (g : Grant), s.access.grants[i] = some g → g.kind = .jog → g.zones &&& zones = 0

theorem mayPlace_of_noConflict {s : State} {kind : GrantKind} {zones : ZoneSet} (covers : zones ≠ 0)
    (apart : kindConflict s kind zones = false) : s.MayPlace kind zones := by
  refine ⟨covers, fun jog i g held other => ?_, fun notJog i g held other => ?_⟩
  · by_contra shares
    subst jog
    have : kindConflict s .jog zones = true := (coveredBy_iff s zones fun k => k != .jog).2 ⟨i, g, held, by simpa using other, shares⟩
    simp [this] at apart
  · by_contra shares
    have : kindConflict s kind zones = true := by
      cases kind with
      | jog => exact absurd rfl notJog
      | zoneEntry => exact (coveredBy_iff s zones fun k => k == .jog).2 ⟨i, g, held, by simpa using other, shares⟩
      | cabinet => exact (coveredBy_iff s zones fun k => k == .jog).2 ⟨i, g, held, by simpa using other, shares⟩
    simp [this] at apart

theorem mayPlace_of_grantRefusal {s : State} {kind : GrantKind} {zones : Byte} {duration : Nat}
    (accepted : grantRefusal s kind zones duration = none) : s.MayPlace kind (requestedZones kind zones) := by
  unfold grantRefusal at accepted
  dsimp only at accepted
  split_ifs at accepted with _ _ _ empty _ conflict
  exact mayPlace_of_noConflict empty (by simpa using conflict)

/-- A new grant with the next number, and the next number moved on to a free one, keep the grants distinct (R129, R131). -/
theorem placeGrant_kept {s₀ s : State} (h : Kept s₀ s) {i : PlaceId} {g : Grant} (number : g.number = s.access.nextNumber)
    (may : s.MayPlace g.kind g.zones) : Kept s₀ (placeGrant i g s) := by
  refine raiseGrantState_kept _ _ _ (h.trans ⟨⟨rfl, id, fun h k => ⟨h, k⟩, ?_, id⟩, fun i => .refl i _, ⟨fun _ => id, id⟩⟩)
  rintro ⟨notZero, distinct⟩
  rw [← number] at notZero distinct
  have after : numberAfter g.number ≠ 0 := numberAfter_iterate_ne_zero notZero 1
  obtain ⟨nextNotZero, nextFree⟩ := freeNumber_free (s.putGrant i (some g)) after
  refine ⟨nextNotZero, fun k old held => ?_⟩
  have free : old.number ≠ freeNumber (s.putGrant i (some g)) 9 (numberAfter g.number) := fun same => by
    have := (numberLive_iff (s.putGrant i (some g)) _).2 ⟨k, old, held, same⟩
    simp [nextFree] at this
  have placed (l : PlaceId) (other : Grant) (h : (s.putGrant i (some g)).access.grants[l] = some other) :
      (l = i ∧ other = g) ∨ s.access.grants[l] = some other := by
    rw [putGrant_get] at h
    split at h
    case isTrue same => exact .inl ⟨same, (Option.some.inj h).symm⟩
    case isFalse => exact .inr h
  rcases placed k old held with ⟨rfl, rfl⟩ | stood
  · refine ⟨notZero, free, may.covers, fun l other holds => ?_⟩
    rcases placed l other holds with ⟨rfl, rfl⟩ | holds
    · exact ⟨fun _ => rfl, fun jog notJog => absurd jog notJog⟩
    · obtain ⟨-, otherFree, -⟩ := distinct l other holds
      exact ⟨fun same => absurd same.symm otherFree, fun jog notJog => by
        rw [BitVec.and_comm]; exact may.jogApart jog l other holds notJog⟩
  · obtain ⟨zero, oldFree, covers, others⟩ := distinct k old stood
    refine ⟨zero, free, covers, fun l other holds => ?_⟩
    rcases placed l other holds with ⟨rfl, rfl⟩ | holds
    · exact ⟨fun same => absurd same oldFree, fun jog notJog => may.othersApart notJog k old stood jog⟩
    · exact others l other holds

theorem grantRequest_kept (tag : Half) (kind zones : Byte) (badge : Long) (duration : Half) :
    Keeping (grantRequest tag kind zones badge duration) := by
  intro s₀ s h
  unfold grantRequest
  split
  case h_1 => exact refuse_kept _ _ _ h
  case h_2 =>
    split
    case h_1 => exact refuse_kept _ _ _ h
    case h_2 => exact refuse_kept _ _ _ h
    case h_3 accepted _ =>
      exact accept_kept _ _ _ (settle_kept (placeGrant_kept h rfl (mayPlace_of_grantRefusal accepted)))

/-! ## EVENT_READ (R172) -/

/-- The queue stays in order without its oldest record (R172). -/
theorem sequence_tail {e : EventRecord} {rest : List EventRecord} {next : Half}
    (order : ∀ (k : Nat) (h : k < (e :: rest).length),
      (e :: rest)[k].sequence = next - BitVec.ofNat 16 ((e :: rest).length - k)) (k : Nat) (h : k < rest.length) :
    rest[k].sequence = next - BitVec.ofNat 16 (rest.length - k) := by
  simpa using order (k + 1) (Nat.succ_lt_succ h)

theorem removeOldest_kept : Keeping removeOldest := by
  intro s₀ s h
  unfold removeOldest
  split
  case h_1 => exact h
  case h_2 e rest queued =>
    have sum (account : accountHolds s) (inLimit : s.events.account.overflowed = false) :
        s.events.account.raised
          = (if e.accounted = true then s.events.account.delivered + 1 else s.events.account.delivered)
            + rest.countP EventRecord.accounted + s.events.account.countedLost := by
      have sum := account inLimit
      rw [queued, List.countP_cons] at sum
      split_ifs at sum ⊢ <;> omega
    dsimp only
    split
    case isTrue =>
      refine kept_of_events h fun ⟨full, lost, order⟩ account => ⟨⟨?_, lost, ?_⟩, sum account⟩
      · rw [queued] at full
        exact (Nat.le_succ _).trans full
      · simp only [queued] at order
        exact sequence_tail order
    case isFalse =>
      refine kept_of_events h fun ⟨full, lost, order⟩ account => ⟨⟨?_, Nat.zero_le _, ?_⟩, fun inLimit => ?_⟩
      · rw [queued] at full
        simpa using full
      · simp only [queued] at order
        exact sequence_append rfl (sequence_tail order)
      · have marker (lower upper : Half) (t : State) : (t.recordOf .eventsLost 0 lower upper).accounted = false := rfl
        simpa [marker] using sum account inLimit

theorem removeRecords_kept (n : Nat) : Keeping (removeRecords n) := by
  induction n with
  | zero => exact fun _ _ h => h
  | succ n ih => exact fun _ _ h => ih (removeOldest_kept h)

theorem eventRead_kept (tag : Half) (count : Byte) : Keeping (eventRead tag count) := by
  intro s₀ s h
  unfold eventRead
  dsimp only
  split
  · exact refuse_kept _ _ _ h
  · exact accept_kept _ _ _ (removeRecords_kept _ h)

end Sys2Proof.Machine
end


section
/-! The reset state, what the resets keep, and the three requests that alone energise a coil, release LSTOP or lower a
total. -/

set_option Elab.async false

namespace Sys2Proof.Machine

/-! ## The reset state (R5, R23, R63, R166, R174) -/

theorem reset_tickets : ticketsConsecutive State.reset := by
  refine ⟨by decide, by decide, fun p (onTrack : p < 128) => ?_⟩
  have index : (128 - (0 + (128 - p % 128)) % 128) % 128 = p := by omega
  change (Track.reset.ring[ringIndex 0 p]).ticket = 0 - 1 - BitVec.ofNat 16 p
  simp only [Track.reset, Fin.getElem_fin, Vector.getElem_ofFn, ringIndex, Slot.fresh, Fin.val_zero, index]
  rfl

theorem reset_events : eventsInOrder State.reset ∧ accountHolds State.reset :=
  ⟨⟨by decide, by decide, fun _ impossible => absurd impossible (Nat.not_lt_zero _)⟩, fun _ => rfl⟩

theorem reset_addresses : addressesDistinct State.reset := by
  unfold addressesDistinct; decide

theorem reset_counters : countersComputed State.reset := by
  unfold countersComputed; decide

theorem reset_coil (g : GroupId) : coil State.reset g = false := by
  revert g; decide

theorem reset_coilsSwitched : coilsSwitched State.reset := fun g energised => by
  rw [reset_coil] at energised; cases energised

theorem reset_job (r : RobotId) : State.reset.robots[r].job = none := by
  simp [State.reset, Robot.reset]

theorem reset_dose (r : RobotId) : State.reset.doses[r] = Dose.reset := by
  simp [State.reset]

theorem reset_fills : fillsPowered State.reset := fun r => by
  refine ⟨fun j held => ?_, ?_⟩
  · rw [reset_job] at held; cases held
  · simp only [reset_job, reset_dose]
    simp [Dose.reset]

theorem reset_grant (i : PlaceId) : State.reset.access.grants[i] = none := by
  revert i; decide

theorem reset_grants : grantsDistinct State.reset :=
  ⟨by decide, fun i g held => by rw [reset_grant] at held; cases held⟩

/-- Settles O2: each property of the reset state from the records that it is made of. -/
theorem resetMeetsTheProperties : Obligations.ResetMeetsTheProperties :=
  ⟨reset_tickets, reset_events.1, reset_events.2, reset_addresses, reset_counters,
    reset_coilsSwitched, reset_fills, reset_grants,
    fun _ _ _ _ _ z _ => reset_coil z, Nat.zero_lt_succ _, rfl, by decide, by decide⟩

theorem unitField_some {n : Nat} {b : Byte} {i : Fin n} (h : unitField n b = some i) : b.toNat = i.val := by
  unfold unitField at h
  split at h
  · rw [← Option.some.inj h]
  · cases h

/-! ## The resets (R149, R174, R185) -/

theorem bootDoors_kept : Keeping bootDoors := by
  intro s₀ s h
  unfold bootDoors
  dsimp only
  have zones := forEach_kept (allUnits 4)
    (act := fun z t => if t.pins.doors[zoneDoor z] then zoneIntrusion z 2 t else t) (fun z s₀ s k => by
      dsimp only
      split
      · exact zoneIntrusion_kept z 2 k
      · exact k) h
  split
  · exact cabinetIntrusion_kept 2 2 zones
  · exact zones

theorem bootInputs_kept : Keeping bootInputs := fun _ _ h =>
  bootDoors_kept (kept_of_same h (coils := fun g energised => by simp [coil, GroupState.coil] at energised))

/-- A state whose blocks are in their reset state, but for the pins, machine time, the counters, the link and the queue of
commands. -/
def State.asReset (s : State) (time : TimeBase) (counters : Vector Counter 28) (link : Link) : State :=
  { State.reset with pins := s.pins, time, counters, link, pending := s.pending }

theorem asReset_steady (s : State) (time : TimeBase) (counters : Vector Counter 28) (link : Link) :
    Steady s (s.asReset time counters link) ∧ Lowered s (s.asReset time counters link) :=
  ⟨⟨rfl, fun _ => reset_tickets, fun _ _ => reset_events, fun _ => reset_grants, fun _ => reset_addresses⟩,
    ⟨fun g energised => absurd energised (by rw [show coil (s.asReset time counters link) g = false from reset_coil g]; simp),
      fun _ => rfl⟩⟩

theorem restart_kept (tag : Half) : Keeping (restart tag) := by
  intro s₀ s h
  have ⟨steady, lowered⟩ := asReset_steady s { s.time with staged := none, uptime := 0, ahead := [] } s.counters
    (Link.reset s.link.fast)
  refine h.trans (accept_kept _ _ _ (bootInputs_kept ⟨⟨rfl, steady.tickets, fun _ _ => ⟨⟨?_, Nat.zero_le _, ?_⟩, fun _ => rfl⟩,
    steady.grants, steady.addresses⟩, fun i => .refl i _, ⟨lowered.coils, lowered.stops⟩⟩))
  · exact Nat.le_add_left 1 63
  exact sequence_append rfl fun _ impossible => absurd impossible (Nat.not_lt_zero _)

/-- Power-on reset goes on from the reset state of every block (R5, R166, R174, R175). -/
theorem powerOnReset_kept (powerUp baudHigh : Bool) (s : State) :
    Kept (s.asReset { State.reset.time with ms := if powerUp then 0 else s.time.ms } State.reset.counters (Link.reset baudHigh))
      (powerOnReset powerUp baudHigh s) :=
  bootInputs_kept (.refl _)

/-! ## The requests that may do more (R59, R116, R164) -/

/-- The state with the coil of a group energised (R116). -/
def State.energised (s : State) (g : GroupId) : State :=
  s.mapGroup g fun _ => { state := .closing, timer := entryTimer .closing s.pins.mirror[g] }

theorem closeGroup_kept (g : GroupId) (s : State) : Kept (s.energised g) (closeGroup g s) := by
  have energised : (s.energised g).groups[g].state.coil = true := by simp [State.energised, GroupState.coil]
  have told : Kept (s.energised g) (enterGroup g .closing s) := raiseEvent_kept _ _ _ _ (.refl _)
  have same : (countOn (contactorCounter g) (enterGroup g .closing s)).groups[g].state = .closing := by
    simp [countOn_frame, enterGroup]
  unfold closeGroup
  dsimp only
  split
  · exact enterGroup_kept (countOn_kept _ told) fun _ => by rw [same]; rfl
  · exact countOn_kept _ told

/-- GROUP_CLOSE energises the coil of its group, after every check, and nothing else (R116). -/
theorem groupClose_kept (tag : Half) (group : Byte) (s : State) :
    Kept s (groupClose tag group s)
      ∨ ∃ g : GroupId, group.toNat = g.val ∧ closeRefusal s g = none ∧ s.groups[g].state = .isOpen
        ∧ Kept (s.energised g) (groupClose tag group s) := by
  unfold groupClose
  split
  case h_1 g field =>
    split
    case h_1 => exact .inl (refuse_kept _ _ _ (.refl s))
    case h_2 passed =>
      split
      case isTrue opened =>
        exact .inr ⟨g, unitField_some field, passed, opened, accept_kept _ _ _ (settle_kept (closeGroup_kept g s))⟩
      case isFalse => exact .inl (accept_kept _ _ _ (.refl s))
  case h_2 => exact .inl (refuse_kept _ _ _ (.refl s))

/-- LINE_RELEASE leaves the causes whose condition still holds (R59). -/
theorem lineRelease_kept (tag : Half) (s : State) :
    Kept { s with stops := releasedCauses s } (lineRelease tag s) :=
  accept_kept _ _ _ (.refl _)

/-- The state with the total and the remainder of a counter cleared, and its state computed afresh (R164). -/
def State.cleared (s : State) (i : CounterId) : State :=
  { s with counters := s.counters.set i { s.counters[i] with total := 0, remainder := 0 }.refresh }

theorem acceptCounter_of_stored (kind : Byte) (tag : Half) (i : CounterId) (c : Counter) (s : State) :
    Kept { s with counters := s.counters.set i c } (acceptCounter kind tag i c s) := by
  refine accept_kept _ _ _ (settle_kept ?_)
  dsimp only [storeCounter]
  split
  · exact raiseEvent_kept _ _ _ _ (.refl _)
  · exact .refl _

/-- COUNTER_RESET clears the counter it names, under a qualifying grant (R164). -/
theorem counterReset_kept (tag : Half) (counter : Byte) (s : State) :
    Kept s (counterReset tag counter s)
      ∨ ∃ i : CounterId, counter.toNat = i.val ∧ (qualifyingPlace s i).isSome = true
        ∧ Kept (s.cleared i) (counterReset tag counter s) := by
  unfold counterReset
  split
  case h_1 i field =>
    split
    case isTrue qualified =>
      exact .inr ⟨i, unitField_some field, qualified, acceptCounter_of_stored _ _ _ _ _⟩
    case isFalse => exact .inl (refuse_kept _ _ _ (.refl s))
  case h_2 => exact .inl (refuse_kept _ _ _ (.refl s))

end Sys2Proof.Machine
end


section
/-! What every command keeps, and what three requests, the tick and power-on reset do beyond it. -/

set_option Elab.async false

namespace Sys2Proof.Machine

theorem ident_kept (tag : Half) : Keeping (ident tag) := fun _ _ h => accept_kept _ _ _ h

theorem status_kept (tag : Half) : Keeping (status tag) := fun _ _ h => accept_kept _ _ _ h

theorem faultClear_kept (tag : Half) (target number : Byte) : Keeping (faultClear tag target number) := by
  intro s₀ s h
  unfold faultClear
  split_ifs
  · exact clearGateFault_kept _ _ h
  · exact clearRobotFault_kept _ _ h
  · exact clearSwitchFault_kept _ _ h
  · exact clearGroupFault_kept _ _ h
  · exact clearZoneLatch_kept _ _ h
  · exact clearCabinetLatch_kept _ _ h
  · exact refuse_kept _ _ _ h

theorem frameChecked_kept (b : Byte) : Keeping (frameChecked b) := by
  grind [frameChecked, mapLink_kept]

theorem lengthAbandon_kept (b : Byte) : Keeping (lengthAbandon b) := by
  grind [lengthAbandon, mapLink_kept]

/-! ## The taking of a buffered request -/

/-- The state in which the request of the oldest buffered frame is carried out (R180). -/
def State.withBuffer (s : State) (rest : List Frame) : State := s.mapLink fun l => { l with buffer := rest }

/-- A request is carried out: directly with the link idle, or as the oldest frame of the buffer that REQUEST_TAKEN takes
(R180). -/
def carriedOut (row : Instr) (f : Frame) (rule : State → State) (c : Instr) (s t : State) : Prop :=
  (c = row ∧ t = rule s)
    ∨ (c = .requestTaken ∧ s.link.sending = none
      ∧ ∃ rest : List Frame, s.link.buffer = f :: rest ∧ t = rule (s.withBuffer rest))

/-- The requests that may energise a coil, remove stop causes or lower a total. -/
def lowering (kind : Byte) : Bool := kind == kindGroupClose || kind == kindLineRelease || kind == kindCounterReset

theorem requestRules_kept :
    ∀ owned ∈ requestRules, lowering owned.1 = false → ∀ tag fields, Keeping (owned.2 tag fields) := by
  simp only [requestRules, List.forall_mem_cons]
  exact ⟨fun _ _ _ => ident_kept _,
    fun _ _ _ => status_kept _,
    fun _ tag _ => restart_kept tag,
    fun _ _ _ => trackConfig_kept _ _ _ _ _,
    fun _ _ _ => cameraConfig_kept _ _ _ _ _ _ _ _,
    fun _ _ _ => gateConfig_kept _ _ _ _ _ _ _ _,
    fun _ _ _ => fillerConfig_kept _ _ _ _,
    fun _ _ _ => trackRead_kept _ _,
    fun _ _ _ => trackTally_kept _ _,
    fun _ _ _ => trackFlush_kept _,
    fun _ _ _ => robotConfig_kept _ _ _ _,
    fun _ _ _ => recipeLoad_kept _ _ _,
    fun _ _ _ => robotMode_kept _ _ _,
    fun _ _ _ => robotRead_kept _ _,
    fun other => absurd other (by decide),
    fun _ _ _ => groupOpen_kept _ _,
    fun _ _ _ => powerRead_kept _,
    fun _ _ _ => faultClear_kept _ _ _,
    fun other => absurd other (by decide),
    fun _ _ _ => grantRequest_kept _ _ _ _ _,
    fun _ _ _ => grantEnd_kept _ _,
    fun _ _ _ => grantExtend_kept _ _ _,
    fun _ _ _ => grantRead_kept _ _,
    fun _ _ _ => timeSet_kept _ _,
    fun _ _ _ => timeRead_kept _,
    fun _ _ _ => counterLoad_kept _ _ _,
    fun _ _ _ => counterLimits_kept _ _ _ _ _ _,
    fun other => absurd other (by decide),
    fun _ _ _ => counterRead_kept _ _,
    fun _ _ _ => eventRead_kept _ _,
    fun _ impossible => absurd impossible List.not_mem_nil⟩

theorem serve_kept {f : Frame} (other : lowering f.kind = false) : Keeping (serve f) := by
  intro s₀ s h
  unfold serve
  split
  case h_1 size rule sized owned =>
    split
    case isTrue => exact requestRules_kept _ (rule_mem_of_lookup owned) other _ _ h
    case isFalse => exact refuse_kept _ _ _ h
  case h_2 => exact refuse_kept _ _ _ h

/-- A frame whose KIND names a request is judged by its LEN and the rule that owns it (R181, R187). -/
theorem serve_of_size {f : Frame} {size : Nat} {rule : Half → List Byte → State → State} {s : State}
    (sized : requestSize f.kind = some size) (owned : requestRules.lookup f.kind = some rule) :
    serve f s = if f.fields.length = size then rule f.tag f.fields s else refuse f.kind f.tag .badLength s := by
  unfold serve
  rw [sized, owned]

/-- A frame of one byte of fields. -/
theorem fields_of_length_one {fields : List Byte} (one : fields.length = 1) : fields = [fieldByte fields 0] := by
  obtain ⟨b, rfl⟩ := List.length_eq_one_iff.1 one
  rfl

/-- A frame is served by GROUP_CLOSE, LINE_RELEASE or COUNTER_RESET, or what its request does is kept. -/
theorem serve_cases (f : Frame) (s : State) :
    Kept s (serve f s)
      ∨ (∃ (tag : Half) (b : Byte), f = ⟨kindGroupClose, tag, [b]⟩ ∧ serve f s = groupClose tag b s)
      ∨ (∃ tag : Half, f = ⟨kindLineRelease, tag, []⟩ ∧ serve f s = lineRelease tag s)
      ∨ (∃ (tag : Half) (b : Byte), f = ⟨kindCounterReset, tag, [b]⟩ ∧ serve f s = counterReset tag b s) := by
  cases lowers : lowering f.kind
  case false => exact .inl (serve_kept lowers (.refl s))
  case true =>
    obtain ⟨kind, tag, fields⟩ := f
    obtain rfl | rfl | rfl : kind = kindGroupClose ∨ kind = kindLineRelease ∨ kind = kindCounterReset := by
      simpa [lowering, or_assoc] using lowers
    · rw [serve_of_size (size := 1) rfl rfl]
      split
      case isTrue one =>
        exact .inr (.inl ⟨tag, _, by rw [← fields_of_length_one one], rfl⟩)
      case isFalse => exact .inl (refuse_kept _ _ _ (.refl s))
    · rw [serve_of_size (size := 0) rfl rfl]
      split
      case isTrue none =>
        obtain rfl := List.length_eq_zero_iff.1 none
        exact .inr (.inr (.inl ⟨tag, rfl, rfl⟩))
      case isFalse => exact .inl (refuse_kept _ _ _ (.refl s))
    · rw [serve_of_size (size := 1) rfl rfl]
      split
      case isTrue one =>
        exact .inr (.inr (.inr ⟨tag, _, by rw [← fields_of_length_one one], rfl⟩))
      case isFalse => exact .inl (refuse_kept _ _ _ (.refl s))

/-! ## Every command -/

/-- What a command may do: what the part's operations keep, a tick, a power-on reset, or one of the three requests that
may do more. -/
inductive Ran (c : Instr) (s t : State) : Prop where
  | kept (h : Kept s t)
  | ticked (h : t = tick s)
  | reset (powerUp baudHigh : Bool) (row : c = .powerOnReset powerUp baudHigh) (h : t = powerOnReset powerUp baudHigh s)
  | closed (tag : Half) (b : Byte)
    (h : carriedOut (.groupClose tag b) ⟨kindGroupClose, tag, [b]⟩ (groupClose tag b) c s t)
  | released (tag : Half) (h : carriedOut (.lineRelease tag) ⟨kindLineRelease, tag, []⟩ (lineRelease tag) c s t)
  | cleared (tag : Half) (b : Byte)
    (h : carriedOut (.counterReset tag b) ⟨kindCounterReset, tag, [b]⟩ (counterReset tag b) c s t)

theorem withBuffer_kept (s : State) (rest : List Frame) : Kept s (s.withBuffer rest) := mapLink_kept _ (.refl s)

theorem requestTaken_ran (s : State) : Ran .requestTaken s (requestTaken s) := by
  unfold requestTaken
  split
  case h_1 f rest idle waiting =>
    obtain kept | ⟨tag, b, rfl, e⟩ | ⟨tag, rfl, e⟩ | ⟨tag, b, rfl, e⟩ := serve_cases f (s.withBuffer rest)
    · exact .kept ((withBuffer_kept s rest).trans kept)
    · exact .closed tag b (.inr ⟨rfl, idle, rest, waiting, e⟩)
    · exact .released tag (.inr ⟨rfl, idle, rest, waiting, e⟩)
    · exact .cleared tag b (.inr ⟨rfl, idle, rest, waiting, e⟩)
  case h_2 => exact .kept (.refl s)

theorem next_inj {s t : State} (step : (.next s : Result) = .next t) : t = s := by
  injection step with e
  exact e.symm

theorem next_kept {op : State → State} (keeps : Keeping op) {c : Instr} {s t : State}
    (step : (.next (op s) : Result) = .next t) : Ran c s t := by
  cases step
  exact .kept (keeps (.refl s))

/-- A request acts by its rule, or waits as a change of the link alone. -/
theorem request_ran {rule : State → State} {row c : Instr} {s t : State} (acts : Ran c s (rule s))
    (step : hostRequest row rule s = .next t) : Ran c s t := by
  obtain ⟨-, rfl⟩ | ⟨-, link, rfl⟩ := hostRequest_cases step
  · exact acts
  · exact .kept (kept_of_same (.refl s))

theorem request_kept {rule : State → State} (keeps : Keeping rule) {row c : Instr} {s t : State}
    (step : hostRequest row rule s = .next t) : Ran c s t :=
  request_ran (.kept (keeps (.refl s))) step

theorem secondsRollover_ran {c : Instr} (s : State) : Ran c s (secondsRollover s) := by
  unfold secondsRollover
  split
  · exact .ticked rfl
  · exact .kept (.refl s)

theorem settled {op : State → State} (keeps : Keeping op) : Keeping fun s => settle (op s) :=
  fun _ _ h => settle_kept (keeps h)

theorem unknownStatus_kept (n : CameraId) (value : Byte) :
    Keeping fun s => if value = 1 ∨ value = 2 then s else sendRecord n .status [value] s := by
  grind [sendRecord_kept]

theorem strayParameter_kept (n : CameraId) (value : Byte) :
    Keeping fun s => if s.cameras[n].receiver = .idle then takeByte n false value s else s := by
  grind [takeByte_kept]

theorem exec_ran {c : Instr} {s t : State} (step : exec c s = .next t) : Ran c s t := by
  cases c <;> dsimp only [exec] at step
  case powerOnReset up baud => cases step; exact .reset up baud rfl rfl
  case msTick => exact .ticked (next_inj step)
  case secondsRollover => rw [next_inj step]; exact secondsRollover_ran s
  case encCountedEdge infActive => exact next_kept (countedEdge_kept infActive) step
  case verdictDeadline => exact next_kept (deadlineCheck_kept _) step
  case confirmExpiry => exact next_kept (expireConfirm_kept _) step
  case fillExitLimit => exact next_kept (settled (exitLimit_kept _)) step
  case fillApproachLimit => exact next_kept (settled (approachLimit_kept _)) step
  case triggerPulseEnd => cases step; exact .kept (kept_of_same (.refl s))
  case gatePulseEnd => exact next_kept (sharePulse_kept _) step
  case strayEdge => exact next_kept strayEdge_kept step
  case runRise => exact next_kept runRise_kept step
  case runFall => exact next_kept (fun _ _ h => kept_of_same h) step
  case verdict => exact next_kept (sendRecord_kept _ _ _) step
  case statusReady => exact next_kept (sendRecord_kept _ _ _) step
  case statusNotReady => exact next_kept (sendRecord_kept _ _ _) step
  case statusUnknownValue => exact next_kept (unknownStatus_kept _ _) step
  case cameraKindByte => exact next_kept (takeByte_kept _ true _) step
  case strayParameter => exact next_kept (strayParameter_kept _ _) step
  case cameraLost => exact next_kept (shareSilence_kept _) step
  case gateConfirm => exact next_kept (confirmEdge_kept _) step
  case busTransactionStart => exact next_kept startTransaction_kept step
  case broadcastHoldSent => exact next_kept (settled broadcastSent_kept) step
  case commandTransactionDone => exact next_kept (settled (commandDone_kept _)) step
  case pollDone => exact next_kept (settled (pollDone_kept _ _ _)) step
  case pollTimer => exact next_kept (sharePoll_kept _) step
  case clockHoldTimeout => exact next_kept (settled (clockHold_kept _)) step
  case flowPulse => exact next_kept (flowPulse_kept _) step
  case settleEnd => exact next_kept (shareSettle_kept _) step
  case noFlow => exact next_kept (shareNoFlow_kept _) step
  case valveCheckExpiry => exact next_kept (shareCheck_kept _) step
  case valveFeedbackChange => exact next_kept (settled (feedbackChange_kept _ _)) step
  case valveTimeSecond => exact next_kept (shareValveTime_kept _) step
  case mainSwitchContactChange => exact next_kept (settled (contactChange_kept _ _)) step
  case switchDiscrepancy => exact next_kept shareAlike_kept step
  case mirrorContactChange => exact next_kept (settled (mirrorChange_kept _ _)) step
  case pullinTimeout => exact next_kept (shareGroup_kept _ (pullinExpiry_kept _)) step
  case fallOut => exact next_kept (shareFallOut_kept _) step
  case dropoutTimeout => exact next_kept (shareGroup_kept _ (dropoutExpiry_kept _)) step
  case weldDetected => exact next_kept (shareGroup_kept _ (weldExpiry_kept _)) step
  case doorChange => exact next_kept (settled (doorChange_kept _ _)) step
  case drainEnd => exact next_kept (settled (judgeDrain_kept _)) step
  case drainLimit => exact next_kept (shareDrain_kept _) step
  case isolationComplete => exact next_kept (settled (judgeIsolation_kept _)) step
  case grantExpiry => exact next_kept (shareExpiry_kept _) step
  case frameChecked => exact next_kept (frameChecked_kept _) step
  case lengthAbandon => exact next_kept (lengthAbandon_kept _) step
  case gapTimeout => exact next_kept shareGap_kept step
  case requestTaken => cases step; exact requestTaken_ran s
  case ident => exact request_kept (ident_kept _) step
  case status => exact request_kept (status_kept _) step
  case restart => exact request_kept (restart_kept _) step
  case trackConfig => exact request_kept (trackConfig_kept _ _ _ _ _) step
  case cameraConfig => exact request_kept (cameraConfig_kept _ _ _ _ _ _ _ _) step
  case gateConfig => exact request_kept (gateConfig_kept _ _ _ _ _ _ _ _) step
  case fillerConfig => exact request_kept (fillerConfig_kept _ _ _ _) step
  case trackRead => exact request_kept (trackRead_kept _ _) step
  case trackTally => exact request_kept (trackTally_kept _ _) step
  case trackFlush => exact request_kept (trackFlush_kept _) step
  case robotConfig => exact request_kept (robotConfig_kept _ _ _ _) step
  case recipeLoad => exact request_kept (recipeLoad_kept _ _ _) step
  case robotMode => exact request_kept (robotMode_kept _ _ _) step
  case robotRead => exact request_kept (robotRead_kept _ _) step
  case groupClose tag b => exact request_ran (.closed tag b (.inl ⟨rfl, rfl⟩)) step
  case groupOpen => exact request_kept (groupOpen_kept _ _) step
  case powerRead => exact request_kept (powerRead_kept _) step
  case faultClearGate => exact request_kept (clearGateFault_kept _ _) step
  case faultClearRobot => exact request_kept (clearRobotFault_kept _ _) step
  case faultClearSwitch => exact request_kept (clearSwitchFault_kept _ _) step
  case faultClearGroup => exact request_kept (clearGroupFault_kept _ _) step
  case faultClearZone => exact request_kept (clearZoneLatch_kept _ _) step
  case faultClearCabinet => exact request_kept (clearCabinetLatch_kept _ _) step
  case lineRelease tag => exact request_ran (.released tag (.inl ⟨rfl, rfl⟩)) step
  case grantRequest => exact request_kept (grantRequest_kept _ _ _ _ _) step
  case grantEnd => exact request_kept (grantEnd_kept _ _) step
  case grantExtend => exact request_kept (grantExtend_kept _ _ _) step
  case grantRead => exact request_kept (grantRead_kept _ _) step
  case timeSet => exact request_kept (timeSet_kept _ _) step
  case timeRead => exact request_kept (timeRead_kept _) step
  case counterLoad => exact request_kept (counterLoad_kept _ _ _) step
  case counterLimits => exact request_kept (counterLimits_kept _ _ _ _ _ _) step
  case counterReset tag b => exact request_ran (.cleared tag b (.inl ⟨rfl, rfl⟩)) step
  case counterRead => exact request_kept (counterRead_kept _ _) step
  case eventRead => exact request_kept (eventRead_kept _ _) step
  case cameraClockEdge => exact next_kept (clockBit_kept _ _ _) step
  case cameraSelectRise => exact next_kept (selectRise_kept _) step
  case cameraParameterByte => exact next_kept (takeByte_kept _ false _) step
  case rxdByteTaken => exact next_kept (mapLink_kept _) step
  case replySent => exact next_kept (mapLink_kept _) step
  case robotClockRelease => exact next_kept (clockRelease_kept _) step

end Sys2Proof.Machine
end


section
/-! The properties that every step keeps (O1, O3 to O6), and the commands that energise a coil (O9) or release LSTOP. -/

set_option Elab.async false

namespace Sys2Proof.Machine

/-! ## What every command keeps -/

/-- A request is carried out in a state that differs in the link alone. -/
theorem carriedOut_base {row : Instr} {f : Frame} {rule : State → State} {c : Instr} {s t : State}
    (h : carriedOut row f rule c s t) : ∃ base : State, Kept s base ∧ base = { s with link := base.link } ∧ t = rule base := by
  obtain ⟨-, rfl⟩ | ⟨-, -, rest, -, rfl⟩ := h
  · exact ⟨s, .refl s, rfl, rfl⟩
  · exact ⟨_, withBuffer_kept s rest, rfl, rfl⟩

theorem energised_steady (s : State) (g : GroupId) : Steady s (s.energised g) :=
  ⟨rfl, id, fun h k => ⟨h, k⟩, id, id⟩

theorem cleared_steady (s : State) (i : CounterId) : Steady s (s.cleared i) :=
  ⟨rfl, id, fun h k => ⟨h, k⟩, id, id⟩

theorem releasedCauses_steady (s : State) : Steady s { s with stops := releasedCauses s } :=
  ⟨rfl, id, fun h k => ⟨h, k⟩, id, id⟩

/-- Every command keeps the properties of the track, the events, the grants and the addresses, and the queue of
commands. -/
theorem Ran.steady {c : Instr} {s t : State} (ran : Ran c s t) : Steady s t := by
  cases ran with
  | kept h => exact h.steady
  | ticked h => exact h ▸ (tick_steady s).1
  | reset up baud _ h => exact h ▸ (asReset_steady s _ _ _).1.trans (powerOnReset_kept up baud s).steady
  | closed tag b h =>
    obtain ⟨base, kept, -, rfl⟩ := carriedOut_base h
    obtain same | ⟨g, -, -, -, closed⟩ := groupClose_kept tag b base
    · exact (kept.trans same).steady
    · exact kept.steady.trans ((energised_steady base g).trans closed.steady)
  | released tag h =>
    obtain ⟨base, kept, -, rfl⟩ := carriedOut_base h
    exact kept.steady.trans ((releasedCauses_steady base).trans (lineRelease_kept tag base).steady)
  | cleared tag b h =>
    obtain ⟨base, kept, -, rfl⟩ := carriedOut_base h
    obtain same | ⟨i, -, -, cleared⟩ := counterReset_kept tag b base
    · exact (kept.trans same).steady
    · exact kept.steady.trans ((cleared_steady base i).trans cleared.steady)

theorem exec_steady {c : Instr} {s t : State} (step : exec c s = .next t) : Steady s t := (exec_ran step).steady

theorem exec_total (c : Instr) (s : State) : ∃ t : State, exec c s = .next t := by
  have request (row : Instr) (rule : State → State) : ∃ t : State, hostRequest row rule s = .next t := by
    unfold hostRequest
    split
    · exact ⟨_, rfl⟩
    · split
      · exact ⟨_, rfl⟩
      · exact ⟨_, rfl⟩
  cases c <;> dsimp only [exec]
  case ident | status | restart | trackConfig | cameraConfig | gateConfig | fillerConfig | trackRead | trackTally
     | trackFlush | robotConfig | recipeLoad | robotMode | robotRead | groupClose | groupOpen | powerRead
     | faultClearGate | faultClearRobot | faultClearSwitch | faultClearGroup | faultClearZone | faultClearCabinet
     | lineRelease | grantRequest | grantEnd | grantExtend | grantRead | timeSet | timeRead | counterLoad
     | counterLimits | counterReset | counterRead | eventRead => exact request _ _
  all_goals exact ⟨_, rfl⟩

/-- Settles O1: a step by whether a command waits, and what every command does by its case of `exec`. -/
theorem stepRunsTheFrontCommand : Obligations.StepRunsTheFrontCommand := by
  refine ⟨fun s => ⟨fun c rest waiting => ?_, fun idle => ?_⟩, fun c s => ?_⟩
  · unfold step; rw [waiting]
  · unfold step; rw [idle]
  · obtain ⟨t, run⟩ := exec_total c s
    exact ⟨t, run, (exec_steady run).pending⟩

/-- A step keeps what every command keeps. -/
theorem step_cases {s t : State} (run : step s = .next t) :
    t = s ∨ ∃ (c : Instr) (rest : List Instr), s.pending = c :: rest ∧ exec c { s with pending := rest } = .next t := by
  unfold step at run
  split at run
  case h_1 => exact .inl (next_inj run)
  case h_2 c rest waiting => exact .inr ⟨c, rest, waiting, run⟩

/-- Settles O3. -/
theorem ticketsStayConsecutive : Obligations.TicketsStayConsecutive := fun s t holds run => by
  obtain rfl | ⟨c, rest, -, ran⟩ := step_cases run
  · exact holds
  · exact (exec_steady ran).tickets holds

/-- Settles O4. -/
theorem eventsStayAccountedFor : Obligations.EventsStayAccountedFor := fun s t order account run => by
  obtain rfl | ⟨c, rest, -, ran⟩ := step_cases run
  · exact ⟨order, account⟩
  · exact (exec_steady ran).events order account

/-- Settles O5. -/
theorem grantsAndAddressesStayDistinct : Obligations.GrantsAndAddressesStayDistinct := by
  refine ⟨fun s t holds run => ?_, fun s t holds run => ?_⟩ <;> obtain rfl | ⟨c, rest, -, ran⟩ := step_cases run
  · exact holds
  · exact (exec_steady ran).grants holds
  · exact holds
  · exact (exec_steady ran).addresses holds

/-! ## Counters -/

theorem Kept.countersComputed {s t : State} (kept : Kept s t) (computed : countersComputed s) : countersComputed t :=
  fun i => kept.within le_rfl (computed i)

/-- A counter that is cleared lies within its limits (R164). -/
theorem cleared_countersComputed {s : State} (computed : countersComputed s) (i : CounterId) :
    countersComputed (s.cleared i) := fun k => by
  change ((s.counters.set i _)[k]).within k 1000
  rw [set_get]
  split
  case isTrue e =>
    subst e
    obtain ⟨-, -, -, limits, due, margin, -⟩ := computed k
    exact Counter.refresh_within (Nat.zero_le _) (Nat.zero_lt_succ _) (fun impossible => absurd rfl impossible) limits due margin
  case isFalse => exact computed k

theorem asReset_countersComputed (s : State) (time : TimeBase) (link : Link) :
    countersComputed (s.asReset time State.reset.counters link) := reset_counters

theorem Ran.countersComputed {c : Instr} {s t : State} (ran : Ran c s t) (computed : countersComputed s) :
    countersComputed t := by
  cases ran with
  | kept h => exact h.countersComputed computed
  | ticked h => exact h ▸ (tick_kept computed).countersComputed computed
  | reset up baud _ h => exact h ▸ (powerOnReset_kept up baud s).countersComputed (asReset_countersComputed s _ _)
  | closed tag b h =>
    obtain ⟨base, kept, -, rfl⟩ := carriedOut_base h
    obtain same | ⟨g, -, -, -, closed⟩ := groupClose_kept tag b base
    · exact (kept.trans same).countersComputed computed
    · exact closed.countersComputed (s := base.energised g) (kept.countersComputed computed)
  | released tag h =>
    obtain ⟨base, kept, -, rfl⟩ := carriedOut_base h
    exact (lineRelease_kept tag base).countersComputed (kept.countersComputed computed)
  | cleared tag b h =>
    obtain ⟨base, kept, -, rfl⟩ := carriedOut_base h
    obtain same | ⟨i, -, -, cleared⟩ := counterReset_kept tag b base
    · exact (kept.trans same).countersComputed computed
    · exact cleared.countersComputed (cleared_countersComputed (kept.countersComputed computed) i)

/-- Settles O6. -/
theorem countersStayComputed : Obligations.CountersStayComputed := fun s t computed run => by
  obtain rfl | ⟨c, rest, -, ran⟩ := step_cases run
  · exact computed
  · exact (exec_ran ran).countersComputed computed

/-! ## Coils (R114, R116) -/

theorem coil_energised {s : State} {g k : GroupId} (on : coil (s.energised g) k = true) : k = g ∨ coil s k = true := by
  unfold coil State.energised at on
  rw [mapGroup_get] at on
  split at on
  case isTrue e => exact .inl e
  case isFalse => exact .inr on

/-- The checks of a close that passes (R116). -/
theorem closeRefusal_none {s : State} {g : GroupId} (passed : closeRefusal s g = none) :
    s.mainSwitch.state = .on ∧ s.pair = .onPair ∧ s.mainSwitch.latch = false ∧ locked s g = false
      ∧ s.counters[contactorCounter g].state ≠ .unloaded ∧ s.counters[contactorCounter g].state ≠ .overrun := by
  unfold closeRefusal at passed
  dsimp only at passed
  split_ifs at passed with _ lock permits unloaded overrun _
  obtain ⟨⟨on, pair⟩, latch⟩ : (s.mainSwitch.state = .on ∧ s.pair = .onPair) ∧ s.mainSwitch.latch = false := by
    simpa [switchPermits] using permits
  exact ⟨on, pair, latch, by simpa using lock, unloaded, overrun⟩

theorem Kept.not_energises {s t : State} (kept : Kept s t) {g : GroupId} (off : coil s g = false) : coil t g ≠ true :=
  fun on => by rw [kept.lowered.coils g on] at off; cases off

theorem coil_base {s base : State} (same : base = { s with link := base.link }) (g : GroupId) : coil base g = coil s g := by
  rw [same]; rfl

/-- Settles O9: of what a command may do, the close of a group alone energises a coil. -/
theorem coilsAreEnergisedOnlyByGroupClose : Obligations.CoilsAreEnergisedOnlyByGroupClose := by
  intro c s t g run off on
  cases exec_ran run with
  | kept h => exact absurd on (h.not_energises off)
  | ticked h => exact absurd ((tick_steady s).2.coils g (h ▸ on)) (by simp [off])
  | reset up baud _ h =>
    subst h
    exact absurd ((asReset_steady s _ _ _).2.coils g ((powerOnReset_kept up baud s).lowered.coils g on)) (by simp [off])
  | released tag h =>
    obtain ⟨base, kept, -, rfl⟩ := carriedOut_base h
    exact absurd ((lineRelease_kept tag base).lowered.coils g on) (kept.not_energises off)
  | cleared tag b h =>
    obtain ⟨base, kept, -, rfl⟩ := carriedOut_base h
    obtain same | ⟨i, -, -, cleared⟩ := counterReset_kept tag b base
    · exact absurd on ((kept.trans same).not_energises off)
    · exact absurd (cleared.lowered.coils g on) (kept.not_energises off)
  | closed tag b h =>
    obtain ⟨base, kept, same, e⟩ := carriedOut_base h
    subst e
    obtain keeps | ⟨k, number, passed, stood, closed⟩ := groupClose_kept tag b base
    · exact absurd on ((kept.trans keeps).not_energises off)
    obtain rfl | stays := coil_energised (closed.lowered.coils g on)
    · rw [same] at passed stood
      obtain ⟨switch, pair, latch, lock, unloaded, overrun⟩ := closeRefusal_none passed
      refine ⟨?_, switch, pair, latch, lock, stood, unloaded, overrun⟩
      obtain ⟨row, -⟩ | ⟨row, idle, rest, waiting, -⟩ := h
      · exact .inl ⟨tag, b, row, number⟩
      · exact .inr ⟨row, idle, _, rest, b, waiting, rfl, rfl, number⟩
    · exact absurd stays (kept.not_energises off)

end Sys2Proof.Machine
end


section
/-! The two resets: the state they leave, with every door closed and with doors found open (O15). -/

set_option Elab.async false

namespace Sys2Proof.Machine

/-! ## Intrusions into a part whose blocks are in their reset state (R146, R149) -/

/-- No group is closed and every robot is as after a reset. -/
structure State.AtRest (s : State) : Prop where
  robots : s.robots = State.reset.robots
  groups : ∀ g : GroupId, s.groups[g].state = .isOpen

theorem mapRobot_of_fixed {s : State} {r : RobotId} {f : Robot → Robot} (fixed : f s.robots[r] = s.robots[r]) :
    s.mapRobot r f = s := by
  unfold State.mapRobot updateAt
  rw [fixed]
  simp

theorem intrudeRobot_of_atRest {s : State} (rest : s.AtRest) (r : RobotId) : intrudeRobot r s = s := by
  have robot : s.robots[r] = Robot.reset r := by simp [rest.robots, State.reset]
  unfold intrudeRobot
  simp only [robot, Robot.reset]
  exact mapRobot_of_fixed (by simp [robot, Robot.reset])

theorem openGroup_of_atRest {s : State} (rest : s.AtRest) (g : GroupId) : openGroup g s = s := by
  unfold openGroup dropCoil
  rw [rest.groups g]
  rfl

theorem forEach_of_fixed {α : Type} {act : α → State → State} {s : State} (fixed : ∀ u, act u s = s) (us : List α) :
    forEach us act s = s := by
  induction us with
  | nil => rfl
  | cons u us ih => rw [forEach_cons, fixed u, ih]

/-- The latch of a zone set, and its INTRUSION raised. -/
def latchZone (z : GroupId) (how : Half) (s : State) : State :=
  raiseEvent .intrusion z.val how (detail (intrudedJobs s z)) (setZoneLatch z true s)

theorem AtRest_latchZone {s : State} (rest : s.AtRest) (z : GroupId) (how : Half) : (latchZone z how s).AtRest :=
  ⟨by simpa [latchZone, setZoneLatch] using rest.robots, fun g => by simpa [latchZone, setZoneLatch] using rest.groups g⟩

theorem zoneIntrusion_of_atRest {s : State} (rest : s.AtRest) (z : GroupId) (how : Half) :
    zoneIntrusion z how s = if s.access.zoneLatch[z] then s else latchZone z how s := by
  have told := AtRest_latchZone rest z how
  unfold zoneIntrusion
  dsimp only
  split
  · rfl
  · have stopped : forEach (allUnits 8) (fun r t => if t.robots[r].zone = z then intrudeRobot r t else t)
        (latchZone z how s) = latchZone z how s := forEach_of_fixed (fun r => by
      split
      · exact intrudeRobot_of_atRest told r
      · rfl) _
    rw [show raiseEvent .intrusion z.val how (detail (intrudedJobs s z)) (setZoneLatch z true s) = latchZone z how s from rfl,
      stopped]
    exact openGroup_of_atRest told z

/-- The number of zone latches that are set. -/
def setLatches (s : State) : Nat := (allUnits 4).countP fun z => s.access.zoneLatch[z]

/-- The number of INTRUSION records in the queue. -/
def intrusionRecords (s : State) : Nat := s.events.queue.countP fun e => e.kind == .intrusion

theorem setLatches_le (s : State) : setLatches s ≤ 4 := List.countP_le_length

theorem setLatches_set {s t : State} {z : GroupId} (set : t.access.zoneLatch = s.access.zoneLatch.set z true)
    (clear : s.access.zoneLatch[z] = false) : setLatches t = setLatches s + 1 := by
  unfold setLatches
  rw [set]
  have one (k : GroupId) : (s.access.zoneLatch.set z true)[k] = if k = z then true else s.access.zoneLatch[k] := set_get ..
  simp only [one, allUnits, List.finRange_succ, List.finRange_zero, List.map_nil, List.map_cons, List.countP_cons, List.countP_nil]
  fin_cases z <;> simp_all <;> omega

/-- From b to t zone latches have been set, each with its INTRUSION record of detail 2, and nothing else is changed. -/
structure Latched (b t : State) : Prop where
  same : t = { b with access := { b.access with zoneLatch := t.access.zoneLatch }, events := t.events }
  records : intrusionRecords t + setLatches b = intrusionRecords b + setLatches t
  length : t.events.queue.length + setLatches b = b.events.queue.length + setLatches t
  details : ∀ e ∈ t.events.queue, e.kind = .intrusion → e.detail1 = 2

theorem Latched.atRest {b t : State} (h : Latched b t) (rest : b.AtRest) : t.AtRest :=
  ⟨by rw [h.same]; exact rest.robots, fun g => by rw [h.same]; exact rest.groups g⟩

theorem latchZone_latched {b t : State} (h : Latched b t) (room : b.events.queue.length < 60) {z : GroupId}
    (clear : t.access.zoneLatch[z] = false) : Latched b (latchZone z 2 t) := by
  have length := h.length
  have few := setLatches_le t
  have raised := setLatches_set (s := t) (t := latchZone z 2 t) (by simp [latchZone, setZoneLatch]) clear
  have entered : (latchZone z 2 t).events.queue
      = t.events.queue ++ [(setZoneLatch z true t).recordOf .intrusion z.val 2 (detail (intrudedJobs t z))] := by
    unfold latchZone
    rw [raiseEvent_events_of_room (by simp [setZoneLatch]; omega)]
    rfl
  have records := h.records
  constructor
  · obtain ⟨events, told⟩ := raiseEvent_eq .intrusion z.val 2 (detail (intrudedJobs t z)) (setZoneLatch z true t)
    unfold latchZone
    rw [told]
    conv_lhs => rw [h.same]
    rfl
  · rw [raised]
    simp only [intrusionRecords, entered, List.countP_append, List.countP_singleton] at records ⊢
    simp only [State.recordOf, beq_self_eq_true, if_true]
    omega
  · rw [raised, entered, List.length_append, List.length_singleton]
    omega
  · intro e listed intrusion
    rw [entered, List.mem_append, List.mem_singleton] at listed
    obtain old | rfl := listed
    · exact h.details e old intrusion
    · rfl

/-- Zones are intruded in turn: those chosen have their latch set, and the others keep theirs. -/
theorem forEach_zoneIntrusion {b : State} (rest : b.AtRest) (room : b.events.queue.length < 60) (chosen : GroupId → Bool)
    (zs : List GroupId) {t : State} (h : Latched b t) :
    let u := forEach zs (fun z t => if chosen z then zoneIntrusion z 2 t else t) t
    Latched b u ∧ ∀ k : GroupId, u.access.zoneLatch[k] = (t.access.zoneLatch[k] || (decide (k ∈ zs) && chosen k)) := by
  induction zs generalizing t with
  | nil => exact ⟨h, fun k => by simp⟩
  | cons z zs ih =>
    rw [forEach_cons]
    have one : Latched b (if chosen z then zoneIntrusion z 2 t else t)
        ∧ ∀ k : GroupId, (if chosen z then zoneIntrusion z 2 t else t).access.zoneLatch[k]
          = (t.access.zoneLatch[k] || (decide (k = z) && chosen k)) := by
      rw [zoneIntrusion_of_atRest (h.atRest rest)]
      split_ifs with takes latched
      · refine ⟨h, fun k => ?_⟩
        by_cases e : k = z
        · subst e; simp [latched]
        · simp [e]
      · refine ⟨latchZone_latched h room (by simpa using latched), fun k => ?_⟩
        have set : (latchZone z 2 t).access.zoneLatch[k] = if k = z then true else t.access.zoneLatch[k] := by
          rw [show (latchZone z 2 t).access.zoneLatch = t.access.zoneLatch.set z true by simp [latchZone, setZoneLatch]]
          exact set_get ..
        rw [set]
        by_cases e : k = z
        · subst e; simp [takes]
        · simp [e]
      · refine ⟨h, fun k => ?_⟩
        by_cases e : k = z
        · subst e; simp [takes]
        · simp [e]
    obtain ⟨latched, latches⟩ := ih one.1
    refine ⟨latched, fun k => ?_⟩
    rw [latches k, one.2 k]
    cases t.access.zoneLatch[k] <;> cases chosen k <;> simp

theorem forEach_zoneIntrusion_all {b : State} (rest : b.AtRest) (room : b.events.queue.length < 60)
    (details : ∀ e ∈ b.events.queue, e.kind = .intrusion → e.detail1 = 2) (z : GroupId) :
    (forEach (allUnits 4) (fun z t => zoneIntrusion z 2 t) b).access.zoneLatch[z] = true := by
  refine ((forEach_zoneIntrusion rest room (fun _ => true) (allUnits 4) ⟨rfl, rfl, rfl, details⟩).2 z).trans ?_
  simp [allUnits]

/-! ## The doors as they are read (R149) -/

theorem forEach_congr {α : Type} {us : List α} {act act' : α → State → State} {P : State → Prop} {s : State} (holds : P s)
    (keeps : ∀ u t, P t → P (act u t)) (same : ∀ u t, P t → act u t = act' u t) : forEach us act s = forEach us act' s := by
  induction us generalizing s with
  | nil => rfl
  | cons u us ih => rw [forEach_cons, forEach_cons, ih (keeps u s holds), same u s holds]

/-- The pins are those of a state. -/
def pinsOf (s t : State) : Prop := t.pins = s.pins

theorem zoneIntrusion_pinsOf {s t : State} (h : pinsOf s t) (z : GroupId) (how : Half) : pinsOf s (zoneIntrusion z how t) := by
  unfold pinsOf at h ⊢
  rw [← h]
  simp [zoneIntrusion_frame]

/-- A part at rest in which no latch is set and no INTRUSION is queued. -/
structure State.Booting (b : State) : Prop where
  rest : b.AtRest
  latches : ∀ z : GroupId, b.access.zoneLatch[z] = false
  cabinet : b.access.cabinetLatch = false
  room : b.events.queue.length < 50
  quiet : ∀ e ∈ b.events.queue, e.kind ≠ .intrusion

theorem setLatches_of_clear {b : State} (clear : ∀ z : GroupId, b.access.zoneLatch[z] = false) : setLatches b = 0 := by
  unfold setLatches
  simp [clear]

/-- What the doors leave that both resets read: the latches, the cause, the broadcast HOLD and the INTRUSIONs (R149). -/
structure DoorsRead (b t : State) : Prop where
  same : t = { b with
    access := { b.access with zoneLatch := t.access.zoneLatch, cabinetLatch := b.pins.doors[cabinetDoor] }
    stops := { b.stops with cabinetIntrusion := b.stops.cabinetIntrusion || b.pins.doors[cabinetDoor] }
    bus := { b.bus with broadcast := b.bus.broadcast || b.pins.doors[cabinetDoor] }
    events := t.events }
  latches : ∀ z : GroupId, t.access.zoneLatch[z] = (b.pins.doors[zoneDoor z] || b.pins.doors[cabinetDoor])
  details : ∀ e ∈ t.events.queue, e.kind = .intrusion → e.detail1 = 2
  records : intrusionRecords t =
    if b.pins.doors[cabinetDoor] = true then 5 else (allUnits 4).countP fun z => b.pins.doors[zoneDoor z]

theorem Latched.refl {b : State} (details : ∀ e ∈ b.events.queue, e.kind = .intrusion → e.detail1 = 2) : Latched b b :=
  ⟨rfl, rfl, rfl, details⟩

theorem bootDoors_read {b : State} (boot : b.Booting) : DoorsRead b (bootDoors b) := by
  have none : intrusionRecords b = 0 := List.countP_eq_zero.2 fun e listed => by simpa using boot.quiet e listed
  have clear := setLatches_of_clear boot.latches
  obtain ⟨zones, latches⟩ := forEach_zoneIntrusion boot.rest (boot.room.trans (by decide))
    (fun z => b.pins.doors[zoneDoor z]) (allUnits 4) (Latched.refl fun e listed kind => absurd kind (boot.quiet e listed))
  have read : forEach (allUnits 4) (fun z t => if t.pins.doors[zoneDoor z] then zoneIntrusion z 2 t else t) b
      = forEach (allUnits 4) (fun z t => if b.pins.doors[zoneDoor z] then zoneIntrusion z 2 t else t) b := by
    refine forEach_congr (P := pinsOf b) rfl (fun z t pins => ?_) (fun z t pins => ?_)
    · split
      · exact zoneIntrusion_pinsOf pins z 2
      · exact pins
    · rw [show t.pins = b.pins from pins]
  unfold bootDoors
  dsimp only
  rw [read]
  generalize forEach (allUnits 4) (fun z t => if b.pins.doors[zoneDoor z] then zoneIntrusion z 2 t else t) b = u at zones latches
  simp only [boot.latches, Bool.false_or, allUnits, List.mem_finRange, decide_true, Bool.true_and] at latches
  have pins : u.pins = b.pins := by rw [zones.same]
  have records := zones.records
  rw [none, clear] at records
  rw [pins]
  split
  case isFalse closed =>
    have shut : b.pins.doors[cabinetDoor] = false := by simpa using closed
    have stops : { b.stops with cabinetIntrusion := b.stops.cabinetIntrusion || false } = b.stops := by
      rw [Bool.or_false]
    have bus : { b.bus with broadcast := b.bus.broadcast || false } = b.bus := by rw [Bool.or_false]
    refine ⟨?_, fun z => by rw [latches z, shut, Bool.or_false], zones.details, ?_⟩
    · rw [shut, stops, bus, ← boot.cabinet]
      exact zones.same
    · rw [if_neg closed]
      unfold setLatches at records
      simpa [latches, allUnits] using records
  case isTrue opened =>
    have room := zones.length
    have few := setLatches_le u
    have short := boot.room
    obtain ⟨told, told_eq⟩ : ∃ told, told = raiseEvent .intrusion 4 2 (detail (clearLatches u))
      (addCabinetIntrusion { u with access := { u.access with cabinetLatch := true } }) := ⟨_, rfl⟩
    have queue : told.events.queue = u.events.queue
        ++ [u.recordOf .intrusion 4 2 (detail (clearLatches u))] := by
      rw [told_eq, raiseEvent_events_of_room (by simp [addCabinetIntrusion]; omega)]
      rfl
    have rest : told.AtRest := by
      have := zones.atRest boot.rest
      exact ⟨by simpa [told_eq, addCabinetIntrusion] using this.robots,
        fun g => by simpa [told_eq, addCabinetIntrusion] using this.groups g⟩
    have start : Latched told told := Latched.refl fun e listed kind => by
      rw [queue, List.mem_append, List.mem_singleton] at listed
      obtain old | rfl := listed
      · exact zones.details e old kind
      · rfl
    have every := forEach_zoneIntrusion_all rest (by rw [queue]; simp; omega) start.details
    have all : Latched told (forEach (allUnits 4) (fun z t => zoneIntrusion z 2 t) told) :=
      (forEach_zoneIntrusion rest (by rw [queue]; simp; omega) (fun _ => true) (allUnits 4) start).1
    unfold cabinetIntrusion
    rw [if_neg (by rw [zones.same, boot.cabinet]; simp)]
    dsimp only
    rw [← told_eq]
    generalize forEach (allUnits 4) (fun z t => zoneIntrusion z 2 t) told = w at all every
    have full : setLatches w = 4 := by
      unfold setLatches; simp [every, allUnits]
    have before : setLatches told = setLatches u := by
      simp [setLatches, told_eq, addCabinetIntrusion]
    have count : intrusionRecords told = intrusionRecords u + 1 := by
      simp [intrusionRecords, queue, State.recordOf]
    refine ⟨?_, fun z => by rw [opened, Bool.or_true]; exact every z, all.details, ?_⟩
    · rw [opened, Bool.or_true, Bool.or_true]
      obtain ⟨events, raised⟩ := raiseEvent_eq .intrusion 4 2 (detail (clearLatches u))
        (addCabinetIntrusion { u with access := { u.access with cabinetLatch := true } })
      rw [raised] at told_eq
      conv_lhs => rw [all.same, told_eq, zones.same]
      rfl
    · rw [if_pos opened]
      have := all.records
      change intrusionRecords w = 5
      omega

/-! ## The inputs as they are read (R113, R125, R149) -/

/-- The switch and the mirror contacts are read (R113, R125). -/
def State.contactsRead (s : State) : State :=
  { s with
    mainSwitch := bootSwitch s.pair
    groups := Vector.ofFn fun g : GroupId => { state := .isOpen, timer := entryTimer .isOpen s.pins.mirror[g] } }

theorem contactsRead_eq (s : State) :
    s.contactsRead =
      { s with
        mainSwitch :=
          { state := if s.pins.msa = true ∧ s.pins.msb = false then .on else .off
            alike := if s.pins.msa = s.pins.msb then some 0 else none
            latch := false }
        groups := Vector.ofFn fun g : GroupId =>
          { state := .isOpen, timer := if s.pins.mirror[g] = true then some 0 else none } } := by
  have switch : bootSwitch s.pair =
      { state := if s.pins.msa = true ∧ s.pins.msb = false then .on else .off
        alike := if s.pins.msa = s.pins.msb then some 0 else none
        latch := false } := by
    unfold State.pair
    cases s.pins.msa <;> cases s.pins.msb <;> rfl
  unfold State.contactsRead
  rw [switch]
  rfl

theorem bootInputs_eq (s : State) : bootInputs s = bootDoors s.contactsRead := rfl

theorem bootDoors_of_closed {s : State} (closed : ∀ d : DoorId, s.pins.doors[d] = false) : bootDoors s = s := by
  have zones : forEach (allUnits 4) (fun z t => if t.pins.doors[zoneDoor z] then zoneIntrusion z 2 t else t) s = s :=
    forEach_of_fixed (fun z => by rw [closed]; rfl) _
  unfold bootDoors
  dsimp only
  rw [zones, closed]
  rfl

/-- What both resets read the doors in: blocks in their reset state, with one record at most in the queue. -/
theorem booting_of_asReset {s b : State} {time : TimeBase} {counters : Vector Counter 28} {link : Link}
    (same : b = { s.asReset time counters link with events := b.events }) (room : b.events.queue.length < 50)
    (quiet : ∀ e ∈ b.events.queue, e.kind ≠ .intrusion) : b.contactsRead.Booting where
  rest := ⟨by rw [same]; rfl, fun g => by simp [State.contactsRead]⟩
  latches z := by
    rw [same]
    change (Vector.replicate 4 false)[z] = false
    simp
  cabinet := by rw [same]; rfl
  room := room
  quiet := quiet

/-- The record that RESTART enters (R174). -/
def restartedRecord (s : State) : EventRecord :=
  { sequence := 0, seconds := s.time.seconds, ms := s.time.ms, valid := s.time.valid, kind := .restarted, unit := 0
    detail1 := detail s.events.queue.length, detail2 := detail s.events.lost }

/-- The state in which RESTART reads the inputs: its record is the only one in the queue (R174, R185). -/
def State.restarted (s : State) : State :=
  { s.asReset { s.time with staged := none, uptime := 0, ahead := [] } s.counters (Link.reset s.link.fast) with
    events := { queue := [restartedRecord s], nextSequence := 1, lost := 0, account := Account.zero } }

theorem restart_eq (tag : Half) (s : State) : restart tag s = accept kindRestart tag [] (bootDoors s.restarted.contactsRead) := rfl

/-- The state in which power-on reset reads the inputs (R5, R151, R175). -/
def State.poweredOn (s : State) (powerUp baudHigh : Bool) : State :=
  s.asReset { State.reset.time with ms := if powerUp then 0 else s.time.ms } State.reset.counters (Link.reset baudHigh)

theorem powerOnReset_eq (powerUp baudHigh : Bool) (s : State) :
    powerOnReset powerUp baudHigh s = bootDoors (s.poweredOn powerUp baudHigh).contactsRead := rfl

theorem restarted_booting (s : State) : s.restarted.contactsRead.Booting :=
  booting_of_asReset (s := s) rfl (Nat.lt_of_sub_eq_succ rfl) fun e listed => by
    obtain rfl := List.mem_singleton.1 listed
    exact fun impossible => nomatch impossible

theorem poweredOn_booting (s : State) (powerUp baudHigh : Bool) : (s.poweredOn powerUp baudHigh).contactsRead.Booting :=
  booting_of_asReset (s := s) rfl (Nat.zero_lt_succ _) fun _ impossible => nomatch impossible

/-- What O15 states of both resets, of the state that reads the doors. -/
theorem doorsRead_reset {s b t : State} {time : TimeBase} {counters : Vector Counter 28} {link : Link}
    (same : b = { s.asReset time counters link with mainSwitch := b.mainSwitch, groups := b.groups, events := b.events })
    (read : DoorsRead b t) :
    (∀ z : GroupId, t.access.zoneLatch[z] = (s.pins.doors[zoneDoor z] || s.pins.doors[cabinetDoor]))
      ∧ t.access.cabinetLatch = s.pins.doors[cabinetDoor] ∧ t.access.grants = Vector.replicate 8 none
      ∧ t.access.nextNumber = 1
      ∧ t.stops = { State.reset.stops with cabinetIntrusion := s.pins.doors[cabinetDoor] }
      ∧ t.bus = { State.reset.bus with broadcast := s.pins.doors[cabinetDoor] }
      ∧ (∀ e : EventRecord, e ∈ t.events.queue → e.kind = .intrusion → e.detail1 = 2)
      ∧ (t.events.queue.countP fun e => e.kind == .intrusion) =
        (if s.pins.doors[cabinetDoor] = true then 5 else (allUnits 4).countP fun z => s.pins.doors[zoneDoor z])
      ∧ t.pins = s.pins
      ∧ keepsBut [.pins, .mainSwitch, .groups, .access, .stops, .bus, .time, .counters, .events, .link, .pending]
        State.reset t := by
  have pins : b.pins = s.pins := by rw [same]; rfl
  obtain ⟨whole, latches, details, records⟩ := read
  rw [pins] at latches records whole
  refine ⟨latches, ?_, ?_, ?_, ?_, ?_, details, records, ?_, fun part other => ?_⟩
  · rw [whole]
  · rw [whole, same]; rfl
  · rw [whole, same]; rfl
  · rw [whole, same]; rfl
  · rw [whole, same]; rfl
  · rw [whole]
  · rw [whole, same]
    cases part
    case pitch | track | cameras | gates | fill | robots | doses => rfl
    all_goals simp at other

/-- Settles O15: both resets go on from the reset state of the blocks with the contacts read, and then read the doors. -/
theorem resetsReadThePins : Obligations.ResetsReadThePins := by
  refine ⟨fun s closed => ⟨fun powerUp baudHigh => ?_, fun tag idle => ?_⟩, fun s c reset => ?_⟩
  · change Host.Outcome.next (powerOnReset powerUp baudHigh s) = _
    rw [powerOnReset_eq, bootDoors_of_closed (s := (s.poweredOn powerUp baudHigh).contactsRead) closed, contactsRead_eq]
    rfl
  · rw [show exec (.restart tag) s = .next (restart tag s) from hostRequest_of_idle idle (.restart tag) _, restart_eq, bootDoors_of_closed (s := s.restarted.contactsRead) closed,
      contactsRead_eq]
    rfl
  · obtain ⟨powerUp, baudHigh, rfl⟩ | ⟨idle, tag, rfl⟩ := reset
    · exact ⟨_, rfl, doorsRead_reset rfl (bootDoors_read (poweredOn_booting s powerUp baudHigh))⟩
    · refine ⟨restart tag s, hostRequest_of_idle idle (.restart tag) _, ?_⟩
      obtain ⟨latches, cabinet, grants, number, stops, bus, details, records, pins, kept⟩ :=
        doorsRead_reset (s := s) (b := s.restarted.contactsRead)
          (time := { s.time with staged := none, uptime := 0, ahead := [] }) (counters := s.counters)
          (link := Link.reset s.link.fast) rfl (bootDoors_read (restarted_booting s))
      rw [restart_eq]
      generalize bootDoors s.restarted.contactsRead = u at *
      refine ⟨latches, cabinet, grants, number, stops, bus, details, records, pins, fun part other => ?_⟩
      cases part
      case link => simp at other
      all_goals exact kept _ other

end Sys2Proof.Machine
end


section
/-! What the judging of drains, isolation and releases touches: it ends no fill (O12). -/

set_option Elab.async false

namespace Sys2Proof.Machine

/-! ## Frames -/

theorem Part.same_trans {p : Part} {s t u : State} (h : p.same s t) (k : p.same t u) : p.same s u := by
  cases p <;> exact Eq.trans k h

theorem keepsBut_refl (changed : List Part) (s : State) : keepsBut changed s s := fun p _ => by
  cases p <;> rfl

theorem keepsBut_trans {changed : List Part} {s t u : State} (h : keepsBut changed s t) (k : keepsBut changed t u) :
    keepsBut changed s u := fun p other => Part.same_trans (h p other) (k p other)

theorem keepsBut_mono {few many : List Part} {s t : State} (h : keepsBut few s t) (more : few ⊆ many) : keepsBut many s t :=
  fun p other => h p fun listed => other (more listed)

/-! ## The judging -/

/-- From s to t robots, queued commands, groups, grants and events alone have changed, and every robot keeps its job and
its zone. -/
structure Judged (s t : State) : Prop where
  frame : keepsBut [.robots, .bus, .groups, .access, .events] s t
  jobs : ∀ r : RobotId, t.robots[r].job = s.robots[r].job
  zones : ∀ r : RobotId, t.robots[r].zone = s.robots[r].zone

theorem Judged.refl (s : State) : Judged s s := ⟨keepsBut_refl _ s, fun _ => rfl, fun _ => rfl⟩

theorem Judged.trans {s t u : State} (h : Judged s t) (k : Judged t u) : Judged s u :=
  ⟨keepsBut_trans h.frame k.frame, fun r => (k.jobs r).trans (h.jobs r), fun r => (k.zones r).trans (h.zones r)⟩

theorem forEach_judged {α : Type} {us : List α} {act : α → State → State} (each : ∀ u t, Judged t (act u t)) (s : State) :
    Judged s (forEach us act s) :=
  forEach_invariant (Judged s) us act (fun u t h => h.trans (each u t)) s (.refl s)

/-- What leaves every robot's record alone is judged. -/
theorem judged_of_robots {s t : State} (frame : keepsBut [.bus, .groups, .access, .events] s t) (robots : t.robots = s.robots) :
    Judged s t :=
  ⟨keepsBut_mono frame (by simp), fun r => by rw [robots], fun r => by rw [robots]⟩

theorem raiseEvent_judged (kind : EventKind) (unit : Nat) (detail1 detail2 : Half) (s : State) :
    Judged s (raiseEvent kind unit detail1 detail2 s) :=
  judged_of_robots (keepsBut_mono (raiseEvent_keepsBut kind unit detail1 detail2 s) (by simp)) (by simp)

theorem Judged.event {s t : State} (h : Judged s t) (kind : EventKind) (unit : Nat) (detail1 detail2 : Half) :
    Judged s (raiseEvent kind unit detail1 detail2 t) := h.trans (raiseEvent_judged ..)

theorem raiseCommand_keepsBut (r : RobotId) (c : BusCommand) (s : State) : keepsBut [.bus] s (raiseCommand r c s) := by
  intro part other
  cases part
  case bus => simp at other
  all_goals simp only [Part.same, raiseCommand_frame]

theorem raiseCommand_judged (r : RobotId) (c : BusCommand) (s : State) : Judged s (raiseCommand r c s) :=
  judged_of_robots (keepsBut_mono (raiseCommand_keepsBut r c s) (by simp)) (by simp [raiseCommand_frame])

theorem Judged.command {s t : State} (h : Judged s t) (r : RobotId) (c : BusCommand) : Judged s (raiseCommand r c t) :=
  h.trans (raiseCommand_judged r c t)

theorem mapRobot_judged {r : RobotId} {f : Robot → Robot} (job : ∀ rb, (f rb).job = rb.job := by exact fun _ => rfl)
    (zone : ∀ rb, (f rb).zone = rb.zone := by exact fun _ => rfl) (s : State) : Judged s (s.mapRobot r f) where
  frame p other := by
    cases p
    case robots => simp at other
    all_goals rfl
  jobs k := by
    rw [mapRobot_get]
    split
    case isTrue e => rw [job, e]
    case isFalse => rfl
  zones k := by
    rw [mapRobot_get]
    split
    case isTrue e => rw [zone, e]
    case isFalse => rfl

theorem changeRobot_judged {r : RobotId} {f : Robot → Robot} (job : ∀ rb, (f rb).job = rb.job := by exact fun _ => rfl)
    (zone : ∀ rb, (f rb).zone = rb.zone := by exact fun _ => rfl) (s : State) : Judged s (changeRobot r f s) :=
  have changed := mapRobot_judged (r := r) job zone s
  show Judged s (if _ then _ else _) from by
    split
    · exact changed
    · exact changed.event _ _ _ _

theorem enterService_judged (jog : Bool) (r : RobotId) (s : State) : Judged s (enterService jog r s) := by
  unfold enterService
  dsimp only
  split
  · have changed := changeRobot_judged (r := r)
      (f := fun rb => { rb with mode := .service, resume := s.robots[r].mode == .production, armed := false, jog })
      (fun _ => rfl) (fun _ => rfl) s
    split
    · exact (changed.command r .hold).command r .jogOn
    · exact changed.command r .hold
  · exact .refl s

theorem serveRobots_judged (g : Grant) (s : State) : Judged s (serveRobots g s) :=
  forEach_judged (fun r t => by
    split
    · exact enterService_judged _ r t
    · exact .refl t) s

theorem putGrant_judged (i : PlaceId) (g : Option Grant) (s : State) : Judged s (s.putGrant i g) :=
  judged_of_robots (fun p other => by
    cases p
    case access => simp at other
    all_goals rfl) rfl

theorem enterGrant_judged (i : PlaceId) (g : Grant) (st : GrantState) (s : State) : Judged s (enterGrant i g st s) :=
  (putGrant_judged i _ s).trans (raiseEvent_judged _ _ _ _ _)

theorem mapGroup_judged (g : GroupId) (f : Group → Group) (s : State) : Judged s (s.mapGroup g f) :=
  judged_of_robots (fun p other => by
    cases p
    case groups => simp at other
    all_goals rfl) rfl

theorem enterGroup_judged (g : GroupId) (st : GroupState) (s : State) : Judged s (enterGroup g st s) :=
  (mapGroup_judged g _ s).trans (raiseEvent_judged _ _ _ _ _)

theorem dropCoil_judged (g : GroupId) (s : State) : Judged s (dropCoil g s) := by
  unfold dropCoil
  split_ifs
  · exact enterGroup_judged ..
  · exact enterGroup_judged ..
  · exact .refl s

theorem forEach_invariant_of_mem {α : Type} (P : State → Prop) (us : List α) (act : α → State → State)
    (h : ∀ u ∈ us, ∀ t, P t → P (act u t)) {s : State} (hs : P s) : P (forEach us act s) := by
  induction us generalizing s with
  | nil => exact hs
  | cons u us ih =>
    rw [forEach_cons]
    exact ih (fun v listed => h v (List.mem_cons_of_mem u listed)) (h u List.mem_cons_self s hs)

/-- No robot of the zone holds a job. -/
def idleZone (s : State) (z : GroupId) : Prop := ∀ r : RobotId, s.robots[r].zone = z → s.robots[r].job = none

theorem Judged.idleZone {s t : State} (h : Judged s t) {z : GroupId} (idle : idleZone s z) : idleZone t z :=
  fun r zone => (h.jobs r).trans (idle r ((h.zones r).symm.trans zone))

/-- Where no robot of a zone holds a job, its group leaving CLOSED aborts none (R124). -/
theorem leaveClosed_judged {s : State} {z : GroupId} (idle : idleZone s z) : Judged s (leaveClosed [z] s) := by
  refine forEach_invariant (Judged s) (allUnits 8) _ (fun r t h => ?_) s (.refl s)
  split
  case isTrue zone =>
    have none : t.robots[r].job = none := h.idleZone idle r (by simpa using zone)
    rw [abortJob_none none]
    exact h.trans (mapRobot_judged (f := fun rb => { rb with armed := false }) (fun _ => rfl) (fun _ => rfl) t)
  case isFalse => exact h

theorem openGroup_judged {s : State} {z : GroupId} (idle : idleZone s z) : Judged s (openGroup z s) := by
  unfold openGroup
  split
  · exact (dropCoil_judged z s).trans (leaveClosed_judged ((dropCoil_judged z s).idleZone idle))
  · exact dropCoil_judged z s

theorem drained_iff (s : State) (g : Grant) : drained s g = true ↔ ∀ z : GroupId, g.covers z = true → idleZone s z := by
  simp only [drained, List.all_eq_true, Bool.not_eq_true', Bool.and_eq_false_iff]
  constructor
  · intro all z covered r zone
    subst zone
    obtain uncovered | idle := all r (mem_allUnits r)
    · rw [covered] at uncovered; cases uncovered
    · exact Option.isNone_iff_eq_none.1 (by rw [← Option.not_isSome, idle]; rfl)
  · intro all r _
    cases covered : g.covers s.robots[r].zone
    · exact .inl rfl
    · exact .inr (by rw [all _ covered r rfl]; rfl)

theorem endDrain_judged {s : State} {i : PlaceId} {g : Grant} (empty : drained s g = true) : Judged s (endDrain i g s) := by
  unfold endDrain
  dsimp only
  have served := serveRobots_judged g s
  split
  · exact served.trans (enterGrant_judged ..)
  · have start := served.trans (enterGrant_judged i g .isolating _)
    refine forEach_invariant_of_mem (Judged s) (coveredZones g) openGroup (fun z listed t h => ?_) start
    have covered : g.covers z = true := (List.mem_filter.1 listed).2
    exact h.trans (openGroup_judged (h.idleZone ((drained_iff s g).1 empty z covered)))

theorem judgeDrain_judged (i : PlaceId) (s : State) : Judged s (judgeDrain i s) := by
  unfold judgeDrain
  split
  · split
    case isTrue h => exact endDrain_judged h.2
    case isFalse => exact .refl s
  · exact .refl s

theorem judgeIsolation_judged (i : PlaceId) (s : State) : Judged s (judgeIsolation i s) := by
  unfold judgeIsolation
  split
  · split
    · split
      · exact (raiseEvent_judged ..).trans (enterGrant_judged ..)
      · split
        · exact enterGrant_judged ..
        · exact .refl s
    · exact .refl s
  · exact .refl s

theorem judgeGrants_judged (s : State) : Judged s (judgeGrants s) :=
  forEach_judged (fun i t => (judgeDrain_judged i t).trans (judgeIsolation_judged i _)) s

theorem judgeRelease_judged (r : RobotId) (s : State) : Judged s (judgeRelease r s) := by
  unfold judgeRelease
  split
  · exact raiseCommand_judged ..
  · exact .refl s

theorem judgeReleases_judged (s : State) : Judged s (judgeReleases s) := forEach_judged judgeRelease_judged s

theorem settle_judged (s : State) : Judged s (settle s) := (judgeGrants_judged s).trans (judgeReleases_judged _)

/-! ## What the judging finds (R70, R88) -/

theorem lockout_eq_zero_iff (s : State) (z : GroupId) :
    lockout s z = 0 ↔ ∀ (i : PlaceId) (g : Grant), s.access.grants[i] = some g → g.covers z = false := by
  unfold lockout
  rw [List.countP_eq_zero]
  constructor
  · intro none i g held
    have := none i (mem_allUnits i)
    rw [held] at this
    simpa using this
  · intro none i _
    cases held : s.access.grants[i] with
    | none => simp
    | some g => simp [none i g held]

theorem locked_eq_false_iff (s : State) (z : GroupId) :
    locked s z = false ↔ s.access.zoneLatch[z] = false
      ∧ ∀ (i : PlaceId) (g : Grant), s.access.grants[i] = some g → g.covers z = false := by
  rw [← lockout_eq_zero_iff]
  unfold locked
  rw [Bool.or_eq_false_iff, decide_eq_false_iff_not, and_comm, Nat.not_lt, Nat.le_zero]

theorem available_iff (s : State) (r : RobotId) :
    available s r = true ↔
      s.robots[r].mode = .production ∧ s.robots[r].armed = true ∧ s.robots[r].job = none
        ∧ s.groups[s.robots[r].zone].state = .closed ∧ s.mainSwitch.state = .on
        ∧ (s.access.zoneLatch[s.robots[r].zone] = false
          ∧ ∀ (i : PlaceId) (g : Grant), s.access.grants[i] = some g →
            g.zones.getLsbD s.robots[r].zone.val = false)
        ∧ s.counters[cycleCounter r].state ≠ .overrun ∧ s.counters[valveCounter r].state ≠ .overrun
        ∧ s.robots[r].lastStatus = some .retracted := by
  have lock := locked_eq_false_iff s s.robots[r].zone
  unfold Grant.covers at lock
  rw [← lock]
  unfold available robotCounterIs
  simp only [Bool.and_eq_true, beq_iff_eq, Bool.not_eq_true', Bool.or_eq_false_iff, Option.isNone_iff_eq_none,
    beq_eq_false_iff_ne, ne_eq, and_assoc]

/-- A RELEASE is among the entries of the robot, in a place or waiting (R88). -/
theorem releaseQueued_iff (s : State) (r : RobotId) :
    releaseQueued s r = true ↔ ∃ e ∈ s.bus.queues[r].entries, e.command = .release := by
  simp [releaseQueued]

theorem judgeRelease_of_due {s : State} {r : RobotId} (held : s.robots[r].held = true) (free : available s r = true)
    (none : releaseQueued s r = false) : judgeRelease r s = raiseCommand r .release s := by
  unfold judgeRelease
  rw [held, free, none]
  rfl

theorem judgeRelease_of_not_due {s : State} {r : RobotId}
    (not : s.robots[r].held = false ∨ available s r = false ∨ releaseQueued s r = true) : judgeRelease r s = s := by
  unfold judgeRelease
  obtain h | h | h := not <;> rw [h] <;> simp

theorem judgeDrain_of_empty {s : State} {i : PlaceId} (empty : s.access.grants[i] = none) : judgeDrain i s = s := by
  unfold judgeDrain
  rw [empty]

theorem judgeIsolation_of_empty {s : State} {i : PlaceId} (empty : s.access.grants[i] = none) : judgeIsolation i s = s := by
  unfold judgeIsolation
  rw [empty]

theorem judgeGrants_of_empty {s : State} (empty : ∀ i : PlaceId, s.access.grants[i] = none) : judgeGrants s = s :=
  forEach_of_fixed (fun i => by rw [judgeDrain_of_empty (empty i), judgeIsolation_of_empty (empty i)]) _

theorem judgeReleases_of_not_due {s : State} (none : ∀ r : RobotId, s.robots[r].held = true → available s r = false) :
    judgeReleases s = s :=
  forEach_of_fixed (fun r => judgeRelease_of_not_due (by
    cases held : s.robots[r].held
    · exact .inl rfl
    · exact .inr (.inl (none r held)))) _

theorem settle_of_empty {s : State} (empty : ∀ i : PlaceId, s.access.grants[i] = none)
    (none : ∀ r : RobotId, s.robots[r].held = true → available s r = false) : settle s = s := by
  unfold settle
  rw [judgeGrants_of_empty empty, judgeReleases_of_not_due none]

/-- Settles O12: the judging by what each grant and each robot finds, and what it touches by `settle_judged`. -/
theorem settlingEndsNoFill : Obligations.SettlingEndsNoFill := by
  refine ⟨fun s => ⟨rfl, (settle_judged s).frame, (settle_judged s).jobs, settle_of_empty⟩,
    fun r s => ⟨fun held free none => judgeRelease_of_due held free ?_, fun not => judgeRelease_of_not_due ?_, available_iff s r⟩⟩
  · rw [← Bool.not_eq_true, releaseQueued_iff]
    exact fun ⟨e, listed, release⟩ => none e listed release
  · rwa [releaseQueued_iff]

end Sys2Proof.Machine
end


section
/-! The totals of the counters, and the stop causes: the commands that may lower them (O10, and LSTOP in O55). -/

set_option Elab.async false

namespace Sys2Proof.Machine

theorem Kept.totals {s t : State} (kept : Kept s t) (computed : Machine.countersComputed s) (i : CounterId) :
    s.counters[i].total ≤ t.counters[i].total := kept.total_le le_rfl (computed i)

theorem powerOnReset_total (powerUp baudHigh : Bool) (s : State) (i : CounterId) :
    (powerOnReset powerUp baudHigh s).counters[i].total = 0 := by
  have kept : (powerOnReset powerUp baudHigh s).counters = State.reset.counters := by
    rw [powerOnReset_eq, (bootDoors_read (poweredOn_booting s powerUp baudHigh)).same]
    rfl
  rw [kept]
  simp [State.reset, Counter.reset]

theorem refresh_cleared_total (c : Counter) : ({ c with total := 0, remainder := 0 } : Counter).refresh.total = 0 :=
  Counter.refresh_total _

theorem cleared_total (s : State) (i k : CounterId) :
    (s.cleared i).counters[k].total = if k = i then 0 else s.counters[k].total := by
  unfold State.cleared
  dsimp only
  rw [set_get]
  split
  case isTrue e => exact refresh_cleared_total _
  case isFalse => rfl

theorem settle_counters (s : State) : (settle s).counters = s.counters := (settle_judged s).frame .counters (by simp)

theorem storeCounter_counters (i : CounterId) (c : Counter) (s : State) :
    (storeCounter i c s).counters = s.counters.set i c := by
  unfold storeCounter
  dsimp only
  split <;> simp

theorem acceptCounter_counters (kind : Byte) (tag : Half) (i : CounterId) (c : Counter) (s : State) :
    (acceptCounter kind tag i c s).counters = s.counters.set i c := by
  unfold acceptCounter
  rw [show ∀ fields t, (accept kind tag fields t).counters = t.counters from fun _ _ => rfl, settle_counters,
    storeCounter_counters]

/-- COUNTER_RESET leaves the counters as they are, or one of them cleared under a qualifying grant (R164). -/
theorem counterReset_counters (tag : Half) (b : Byte) (s : State) :
    (counterReset tag b s).counters = s.counters
      ∨ ∃ i : CounterId, b.toNat = i.val ∧ (qualifyingPlace s i).isSome = true
        ∧ (counterReset tag b s).counters = (s.cleared i).counters := by
  unfold counterReset
  split
  case h_1 i field =>
    split
    case isTrue qualified => exact .inr ⟨i, unitField_some field, qualified, acceptCounter_counters ..⟩
    case isFalse => exact .inl rfl
  case h_2 => exact .inl rfl

theorem counters_total_congr {s t : State} (same : t.counters = s.counters) (i : CounterId) :
    t.counters[i].total = s.counters[i].total := by rw [same]

/-- Settles O10: of what a command may do, power-on reset and the reset of a counter alone lower a total. -/
theorem totalsFallOnlyByReset : Obligations.TotalsFallOnlyByReset := by
  intro c s t i computed run falls
  have holds (kept : Kept s t) : False := Nat.not_lt.2 (kept.totals computed i) falls
  cases exec_ran run with
  | kept h => exact (holds h).elim
  | ticked h => exact (holds (h ▸ tick_kept computed)).elim
  | reset up baud row h => exact ⟨by rw [h]; exact powerOnReset_total up baud s i, .inl ⟨up, baud, row⟩⟩
  | closed tag b h =>
    obtain ⟨base, kept, -, rfl⟩ := carriedOut_base h
    obtain same | ⟨g, -, -, -, closed⟩ := groupClose_kept tag b base
    · exact (holds (kept.trans same)).elim
    · have later := closed.totals (s := base.energised g) (kept.countersComputed computed) i
      exact absurd falls (Nat.not_lt.2 ((kept.totals computed i).trans later))
  | released tag h =>
    obtain ⟨base, kept, -, rfl⟩ := carriedOut_base h
    have later := (lineRelease_kept tag base).totals (kept.countersComputed computed) i
    exact absurd falls (Nat.not_lt.2 ((kept.totals computed i).trans later))
  | cleared tag b h =>
    obtain ⟨base, kept, same, e⟩ := carriedOut_base h
    have equal : base.counters = s.counters := by rw [same]
    obtain keeps | ⟨k, number, qualified, cleared⟩ := counterReset_counters tag b base
    · rw [← e] at keeps
      rw [counters_total_congr (keeps.trans equal) i] at falls
      exact absurd falls (Nat.lt_irrefl _)
    · rw [← e] at cleared
      have total := (counters_total_congr cleared i).trans (cleared_total base k i)
      rw [counters_total_congr equal i] at total
      split at total
      case isFalse => rw [total] at falls; exact absurd falls (Nat.lt_irrefl _)
      case isTrue named =>
        subst named
        rw [same] at qualified
        refine ⟨total, .inr ⟨qualified, ?_⟩⟩
        obtain ⟨row, -⟩ | ⟨row, idle, rest, waiting, -⟩ := h
        · exact .inl ⟨tag, b, row, number⟩
        · exact .inr ⟨row, idle, _, rest, b, waiting, rfl, rfl, number⟩

end Sys2Proof.Machine
end


section
/-! FAULT_CLEAR of zone, cabinet, robot and group, LINE_RELEASE, and LSTOP (O55). -/

set_option Elab.async false

namespace Sys2Proof.Machine

section
variable {s : State}

theorem clearZoneLatch_of_zone (tag : Half) (z : GroupId) (s : State) :
    clearZoneLatch tag (BitVec.ofNat 8 z.val) s =
      if s.pins.doors[zoneDoor z] then refuse kindFaultClear tag .state s
      else accept kindFaultClear tag [] (settle (setZoneLatch z false s)) := by
  rw [clearZoneLatch, unitField_ofNat (by decide) z]

theorem clearCabinetLatch_of_zero (tag : Half) (s : State) :
    clearCabinetLatch tag 0 s =
      if s.pins.doors[cabinetDoor] then refuse kindFaultClear tag .state s
      else accept kindFaultClear tag [] { s with access := { s.access with cabinetLatch := false } } := by
  rw [clearCabinetLatch, if_neg (not_not.2 rfl)]

theorem reportsFault_iff (s : State) (r : RobotId) :
    reportsFault s r = true ↔ ∃ code : Byte, s.robots[r].lastStatus = some (.fault code) := by
  unfold reportsFault
  constructor
  · intro reports
    split at reports
    case h_1 code e => exact ⟨code, e⟩
    case h_2 => cases reports
  · rintro ⟨code, e⟩
    rw [e]

theorem clearRobotFault_of_robot (tag : Half) (r : RobotId) (s : State) :
    clearRobotFault tag (BitVec.ofNat 8 r.val) s =
      if s.robots[r].mode = .faulted ∧ !reportsFault s r then
        accept kindFaultClear tag [] (settle (changeRobot r (fun rb => { rb with mode := .manual, reason := none }) s))
      else refuse kindFaultClear tag .state s := by
  rw [clearRobotFault, unitField_ofNat (by decide) r]

/-- A FAULTED robot that becomes MANUAL raises ROBOT_MODE from 5 to 1 (R65, R69). -/
theorem changeRobot_of_faulted {r : RobotId} (faulted : s.robots[r].mode = .faulted) :
    changeRobot r (fun rb => { rb with mode := .manual, reason := none }) s =
      raiseEvent .robotMode r.val 1 5
        { s with robots := s.robots.set r { s.robots[r] with mode := .manual, reason := none } } := by
  have old : s.robots[r].modeCode = 5 := by
    unfold Robot.modeCode
    rw [faulted]
    rfl
  have new : ({ s.robots[r] with mode := .manual, reason := none } : Robot).modeCode = 1 := rfl
  unfold changeRobot
  dsimp only
  rw [old, new]
  rfl

theorem clearGroupFault_of_group (tag : Half) (g : GroupId) (s : State) :
    clearGroupFault tag (BitVec.ofNat 8 g.val) s =
      if s.groups[g].state = .faultPullin ∨ (s.groups[g].state = .faultWeld ∧ !s.pins.mirror[g]) then
        accept kindFaultClear tag [] (settle (enterGroup g .isOpen s))
      else refuse kindFaultClear tag .state s := by
  rw [clearGroupFault, unitField_ofNat (by decide) g]

/-- LSTOP is asserted while the set holds a cause (R58). -/
theorem lstop_iff (s : State) :
    lstop s = true ↔
      s.stops.escape = true ∨ s.stops.gateFault = true ∨ s.stops.switchOff = true ∨ s.stops.discrepancy = true
        ∨ s.stops.cabinetIntrusion = true := by
  simp [lstop, StopCauses.flags]

theorem anyGateLatch_eq (s : State) : anyGateLatch s = (s.gates[(0 : GateId)].latch || s.gates[(1 : GateId)].latch) := by
  simp [anyGateLatch, allUnits, List.finRange_succ]

theorem lstop_lineRelease_iff (tag : Half) (s : State) :
    lstop (lineRelease tag s) = true ↔
      (s.stops.gateFault = true ∧ (s.gates[(0 : GateId)].latch = true ∨ s.gates[(1 : GateId)].latch = true))
        ∨ (s.stops.switchOff = true ∧ s.mainSwitch.state ≠ .on)
        ∨ (s.stops.discrepancy = true ∧ s.mainSwitch.latch = true)
        ∨ (s.stops.cabinetIntrusion = true ∧ s.access.cabinetLatch = true) := by
  rw [lstop_iff]
  simp [lineRelease, accept, sendReply, releasedCauses, anyGateLatch_eq]

/-- LSTOP is released by LINE_RELEASE alone, directly or as the oldest frame of the buffer (R59). -/
theorem exec_releases_lstop {c : Instr} {s t : State} (run : exec c s = .next t) (on : lstop s = true) (off : lstop t = false) :
    (∃ tag : Half, c = .lineRelease tag)
      ∨ (c = .requestTaken ∧ s.link.sending = none
        ∧ ∃ (f : Frame) (rest : List Frame), s.link.buffer = f :: rest ∧ f.kind = 0x34 ∧ f.fields = []) := by
  have holds (lowered : Lowered s t) : False := by
    rw [lowered.stops on] at off; cases off
  cases exec_ran run with
  | kept h => exact (holds h.lowered).elim
  | ticked h => exact (holds (h ▸ (tick_steady s).2)).elim
  | reset up baud row h =>
    exact (holds (h ▸ (asReset_steady s _ _ _).2.trans (powerOnReset_kept up baud s).lowered)).elim
  | closed tag b h =>
    obtain ⟨base, kept, -, rfl⟩ := carriedOut_base h
    obtain same | ⟨g, -, -, -, closed⟩ := groupClose_kept tag b base
    · exact (holds (kept.trans same).lowered).elim
    · have stays : lstop (base.energised g) = true := kept.lowered.stops on
      rw [closed.lowered.stops stays] at off; cases off
  | cleared tag b h =>
    obtain ⟨base, kept, -, rfl⟩ := carriedOut_base h
    obtain same | ⟨i, -, -, cleared⟩ := counterReset_kept tag b base
    · exact (holds (kept.trans same).lowered).elim
    · have stays : lstop (base.cleared i) = true := kept.lowered.stops on
      rw [cleared.lowered.stops stays] at off; cases off
  | released tag h =>
    obtain ⟨row, -⟩ | ⟨row, idle, rest, waiting, -⟩ := h
    · exact .inl ⟨tag, row⟩
    · exact .inr ⟨row, idle, _, rest, waiting, rfl, rfl⟩

end

/-- Settles O55: each FAULT_CLEAR by its rule, LINE_RELEASE cause by cause, and the release of LSTOP by what each command
may do to the causes. -/
theorem latchesFaultsAndCausesAreCleared : Obligations.LatchesFaultsAndCausesAreCleared := by
  refine ⟨fun s tag idle => ⟨fun z => ?zone, fun closed => ?cabinetClosed, fun opened => ?cabinetOpen⟩,
    fun s tag idle => ⟨fun r => ?robot, fun g => ?group, ?release⟩, lstop_iff, fun c s t => exec_releases_lstop⟩
  case zone =>
    rw [show exec (.faultClearZone tag (BitVec.ofNat 8 z.val)) s = _ from hostRequest_of_idle idle (.faultClearZone tag _) _,
      clearZoneLatch_of_zone]
    unfold setZoneLatch
    refine ⟨fun closed => ?_, fun opened => ?_⟩
    · rw [if_neg (by rw [closed]; simp)]
    · rw [if_pos opened]
  case cabinetClosed =>
    rw [show exec (.faultClearCabinet tag 0) s = _ from hostRequest_of_idle idle (.faultClearCabinet tag 0) _,
      clearCabinetLatch_of_zero, closed]
    rfl
  case cabinetOpen =>
    rw [show exec (.faultClearCabinet tag 0) s = _ from hostRequest_of_idle idle (.faultClearCabinet tag 0) _,
      clearCabinetLatch_of_zero, opened]
    rfl
  case robot =>
    dsimp only
    rw [show exec (.faultClearRobot tag (BitVec.ofNat 8 r.val)) s = _ from hostRequest_of_idle idle (.faultClearRobot tag _) _,
      clearRobotFault_of_robot, ← reportsFault_iff]
    refine ⟨fun faulted well => ?_, fun not => ?_⟩
    · rw [if_pos ⟨faulted, by simpa using well⟩, changeRobot_of_faulted faulted]
    · rw [if_neg]
      · rintro ⟨faulted, well⟩
        obtain other | faulty := not
        · exact other faulted
        · rw [faulty] at well; cases well
  case group =>
    dsimp only
    rw [show exec (.faultClearGroup tag (BitVec.ofNat 8 g.val)) s = _ from hostRequest_of_idle idle (.faultClearGroup tag _) _,
      clearGroupFault_of_group]
    simp only [Bool.not_eq_true']
    exact ⟨fun clears => by rw [if_pos clears], fun not => by rw [if_neg not]⟩
  case release =>
    refine ⟨lineRelease tag s, _, exec_lineRelease_of_idle idle tag, rfl, rfl, rfl, rfl, ?_, ?_, rfl, rfl,
      lstop_lineRelease_iff tag s, lineRelease_keepsBut tag⟩
    · rw [← anyGateLatch_eq]
      rfl
    · change (s.stops.switchOff && s.mainSwitch.state != .on) = _
      cases s.mainSwitch.state <;> rfl

end Sys2Proof.Machine
end


section
/-! The host link: requests and the frames that spell them (O11, O13, and the frame part of O14). -/

set_option Elab.async false

namespace Sys2Proof.Machine

/-! ## Fields (11.1) -/

theorem ofNat_div_eq_extract {w : Nat} (x : BitVec w) (k : Nat) : BitVec.ofNat 8 (x.toNat / 2 ^ k) = x.extractLsb' k 8 := by
  rw [BitVec.extractLsb', Nat.shiftRight_eq_div_pow]

theorem half_byte2 (x : Half) : half (BitVec.ofNat 8 x.toNat) (BitVec.ofNat 8 (x.toNat / 256)) = x := by
  have low := ofNat_div_eq_extract x 0
  have high := ofNat_div_eq_extract x 8
  simp only [Nat.pow_zero, Nat.div_one, Nat.reducePow] at low high
  rw [half, low, high, BitVec.extractLsb'_append_extractLsb'_eq_extractLsb' (start₁ := 0) (len₁ := 8) rfl]
  exact BitVec.extractLsb'_eq_self

theorem long_byte4 (x : Long) :
    long (BitVec.ofNat 8 x.toNat) (BitVec.ofNat 8 (x.toNat / 256)) (BitVec.ofNat 8 (x.toNat / 65536))
      (BitVec.ofNat 8 (x.toNat / 16777216)) = x := by
  have b0 := ofNat_div_eq_extract x 0
  have b1 := ofNat_div_eq_extract x 8
  have b2 := ofNat_div_eq_extract x 16
  have b3 := ofNat_div_eq_extract x 24
  simp only [Nat.pow_zero, Nat.div_one, Nat.reducePow] at b0 b1 b2 b3
  rw [long, b0, b1, b2, b3,
    BitVec.extractLsb'_append_extractLsb'_eq_extractLsb' (start₁ := 16) (len₁ := 8) rfl,
    BitVec.extractLsb'_append_extractLsb'_eq_extractLsb' (start₁ := 0) (len₁ := 8) rfl,
    BitVec.extractLsb'_append_extractLsb'_eq_extractLsb' (start₁ := 0) (len₁ := 16) rfl]
  exact BitVec.extractLsb'_eq_self

/-- A frame of its kind's size is served by the rule that owns the kind (R181, R187). -/
theorem serve_eq_rule {f : Frame} {size : Nat} {rule : Half → List Byte → State → State}
    (sized : requestSize f.kind = some size) (owned : requestRules.lookup f.kind = some rule) (fits : f.fields.length = size) :
    serve f = rule f.tag f.fields := by
  funext s
  rw [serve_of_size sized owned, if_pos fits]

/-- The frame of a request reaches its rule with every field at its value (R180 to R182, R187). -/
theorem exec_of_frame {c : Instr} {f : Frame} (spelt : requestFrame c = some f) (s : State) :
    exec c s = hostRequest c (serve f) s := by
  have reaches {rule : State → State} (served : serve f = rule) : hostRequest c rule s = hostRequest c (serve f) s := by
    rw [served]
  cases c <;> simp only [requestFrame, Option.some.injEq, reduceCtorEq] at spelt
  all_goals refine reaches ?_
  all_goals subst spelt
  case faultClearGate | faultClearRobot | faultClearSwitch | faultClearGroup | faultClearZone | faultClearCabinet => rfl
  all_goals refine (serve_eq_rule rfl rfl rfl).trans ?_
  all_goals simp [-BitVec.ofNat_toNat, fieldHalf, fieldLong, fieldByte, fieldRecipe, byte2, byte4, half_byte2, long_byte4]

/-! ## Requests and their replies (R180, R181) -/

/-- A request is answered with its KIND and its TAG: it is refused, which changes nothing else, or accepted in some state
(R180, R181). -/
inductive Answered (kind : Byte) (tag : Half) (s : State) : State → Prop where
  | refused (code : ReplyCode) : Answered kind tag s (refuse kind tag code s)
  | accepted (fields : List Byte) (t : State) : Answered kind tag s (accept kind tag fields t)

/-- The rule answers every request. -/
abbrev Answers (kind : Byte) (tag : Half) (rule : State → State) : Prop := ∀ s : State, Answered kind tag s (rule s)

theorem counterLimits_answers (tag : Half) (counter : Byte) (warn due : Long) (margin zone : Byte) :
    Answers kindCounterLimits tag (counterLimits tag counter warn due margin zone) := by
  intro s
  unfold counterLimits
  split
  · split
    · exact .refused _
    · split
      · exact .accepted _ _
      · exact .refused _
  · exact .refused _

theorem eventRead_answers (tag : Half) (count : Byte) : Answers kindEventRead tag (eventRead tag count) := by
  intro s
  unfold eventRead
  dsimp only
  split
  · exact .refused _
  · exact .accepted _ _

theorem clearRules_answer (tag : Half) (number : Byte) :
    Answers kindFaultClear tag (clearGateFault tag number) ∧ Answers kindFaultClear tag (clearRobotFault tag number)
      ∧ Answers kindFaultClear tag (clearSwitchFault tag number) ∧ Answers kindFaultClear tag (clearGroupFault tag number)
      ∧ Answers kindFaultClear tag (clearZoneLatch tag number) ∧ Answers kindFaultClear tag (clearCabinetLatch tag number) := by
  refine ⟨fun s => ?_, fun s => ?_, fun s => ?_, fun s => ?_, fun s => ?_, fun s => ?_⟩
  · grind [clearGateFault, Answered.refused, Answered.accepted]
  · grind [clearRobotFault, Answered.refused, Answered.accepted]
  · grind [clearSwitchFault, Answered.refused, Answered.accepted]
  · grind [clearGroupFault, Answered.refused, Answered.accepted]
  · grind [clearZoneLatch, Answered.refused, Answered.accepted]
  · grind [clearCabinetLatch, Answered.refused, Answered.accepted]

theorem faultClear_answers (tag : Half) (target number : Byte) : Answers kindFaultClear tag (faultClear tag target number) := by
  obtain ⟨gate, robot, switch, group, zone, cabinet⟩ := clearRules_answer tag number
  intro s
  unfold faultClear
  split_ifs
  · exact gate s
  · exact robot s
  · exact switch s
  · exact group s
  · exact zone s
  · exact cabinet s
  · exact .refused _

theorem requestRules_answer : ∀ owned ∈ requestRules, ∀ tag fields, Answers owned.1 tag (owned.2 tag fields) := by
  simp only [requestRules, List.forall_mem_cons]
  refine ⟨?_, ?_, ?_, ?_, ?_, ?_, ?_, ?_, ?_, ?_, ?_, ?_, ?_, ?_, ?_, ?_, ?_, ?_, ?_, ?_, ?_, ?_, ?_, ?_, ?_, ?_, ?_, ?_, ?_, ?_,
    fun _ impossible => absurd impossible List.not_mem_nil⟩ <;> intro tag fields s
  · exact .accepted _ _
  · exact .accepted _ _
  · exact .accepted _ _
  · grind [trackConfig, Answered.refused, Answered.accepted]
  · grind [cameraConfig, configureCamera, Answered.refused, Answered.accepted]
  · grind [gateConfig, configureGate, Answered.refused, Answered.accepted]
  · grind [fillerConfig, Answered.refused, Answered.accepted]
  · grind [trackRead, Answered.refused, Answered.accepted]
  · grind [trackTally, Answered.refused, Answered.accepted]
  · grind [trackFlush, Answered.refused, Answered.accepted]
  · grind [robotConfig, Answered.refused, Answered.accepted]
  · grind [recipeLoad, Answered.refused, Answered.accepted]
  · grind [robotMode, Answered.refused, Answered.accepted]
  · grind [robotRead, Answered.refused, Answered.accepted]
  · grind [groupClose, Answered.refused, Answered.accepted]
  · grind [groupOpen, Answered.refused, Answered.accepted]
  · exact .accepted _ _
  · exact faultClear_answers _ _ _ s
  · exact .accepted _ _
  · grind [grantRequest, Answered.refused, Answered.accepted]
  · grind [grantEnd, Answered.refused, Answered.accepted]
  · grind [grantExtend, Answered.refused, Answered.accepted]
  · grind [grantRead, Answered.refused, Answered.accepted]
  · exact .accepted _ _
  · exact .accepted _ _
  · grind [counterLoad, acceptCounter, Answered.refused, Answered.accepted]
  · exact counterLimits_answers _ _ _ _ _ _ s
  · grind [counterReset, acceptCounter, Answered.refused, Answered.accepted]
  · grind [counterRead, Answered.refused, Answered.accepted]
  · exact eventRead_answers _ _ s

theorem serve_answers (f : Frame) : Answers f.kind f.tag (serve f) := by
  intro s
  unfold serve
  split
  case h_1 size rule sized owned =>
    split
    case isTrue => exact requestRules_answer _ (rule_mem_of_lookup owned) _ _ s
    case isFalse => exact .refused _
  case h_2 => exact .refused _

/-- Settles O11: with the link idle a request is served as its frame, which is refused or accepted; otherwise the frame
goes to the buffer. -/
theorem refusedRequestsChangeNothing : Obligations.RefusedRequestsChangeNothing := by
  intro c f s t spelt run
  rw [exec_of_frame spelt] at run
  refine ⟨fun quiet empty => ?_, fun busy => ?_⟩
  · rw [hostRequest_of_idle ((linkIdle_iff s).2 ⟨quiet, empty⟩)] at run
    rw [next_inj run]
    have answered := serve_answers f s
    generalize serve f s = u at answered
    cases answered with
    | refused code => exact ⟨_, rfl, rfl, rfl, fun _ => ⟨rfl, rfl⟩⟩
    | accepted fields t => exact ⟨_, rfl, rfl, rfl, fun notOk => absurd rfl notOk⟩
  · have waits : s.linkIdle = false := by
      rw [← Bool.not_eq_true, linkIdle_iff]
      exact fun ⟨quiet, empty⟩ => busy.elim (absurd quiet) (absurd empty)
    rw [hostRequest_waits waits spelt] at run
    rw [next_inj run, receive_eq]
    exact ⟨fun room => by rw [if_pos room], fun full => by rw [if_neg (Nat.not_lt.2 full)]⟩

/-! ## The bytes of a frame (R176, R178) -/

/-- Bytes taken one after another move the receiver as its record takes them. -/
theorem runAll_rxd (bytes : List Byte) (s : State) :
    runAll (bytes.map Instr.rxdByteTaken) s = .next { s with link := bytes.foldl Link.takeByte s.link } := by
  induction bytes generalizing s with
  | nil => rfl
  | cons b bytes ih => exact ih (rxdByte b s)

/-- Bytes that do not complete the frame join its body (R176). -/
theorem takeBytes_of_body {l : Link} {len : Byte} (more : List Byte) {body : List Byte} (inBody : l.receiver = .body len body)
    (short : body.length + more.length < len.toNat + 2) (gap : l.gap = some 0) :
    more.foldl Link.takeByte l = { l with receiver := .body len (body ++ more) } := by
  induction more generalizing l body with
  | nil => rw [List.append_nil, ← inBody]; rfl
  | cons b more ih =>
    have joins : l.takeByte b = { l with receiver := .body len (body ++ [b]) } := by
      have fits : (body ++ [b]).length < len.toNat + 2 := by simp at short ⊢; omega
      unfold Link.takeByte
      rw [inBody]
      dsimp only
      rw [if_pos fits, ← gap]
    rw [List.foldl_cons, joins,
      ih (l := { l with receiver := .body len (body ++ [b]) }) rfl (by simp at short ⊢; omega) gap]
    simp

/-- KIND, TAG and the fields of a frame, as its bytes hold them (10.2). -/
def Frame.content (f : Frame) : List Byte := [f.kind] ++ byte2 f.tag.toNat ++ f.fields

/-- The LEN byte of a frame (R187). -/
def Frame.len (f : Frame) : Byte := BitVec.ofNat 8 (3 + f.fields.length)

/-- The check of a frame (R178). -/
def Frame.check (f : Frame) : Half := frameCheck (f.len :: f.content)

theorem Frame.bytes_eq (f : Frame) : f.bytes = 0xB7 :: f.len :: (f.content ++ checkBytes f.check) := by
  simp [Frame.bytes, Frame.content, Frame.len, Frame.check, byte1, byte2]

section
variable {f : Frame} (fits : f.fields.length ≤ 237)
include fits

theorem Frame.len_toNat : f.len.toNat = 3 + f.fields.length := by
  simp only [Frame.len, BitVec.toNat_ofNat]
  omega

theorem Frame.content_length : f.content.length = f.len.toNat := by
  rw [Frame.len_toNat fits]
  simp [Frame.content, byte2]
  omega

theorem Frame.take_body : (f.content ++ checkBytes f.check).take f.len.toNat = f.content := by
  rw [← Frame.content_length fits, List.take_left']
  rfl

/-- The body of a frame holds its check behind its content (R178). -/
theorem Frame.receivedCheck_body : receivedCheck f.len (f.content ++ checkBytes f.check) = f.check := by
  have low : fieldByte (f.content ++ checkBytes f.check) (f.len.toNat + 1) = BitVec.ofNat 8 f.check.toNat := by
    unfold fieldByte
    rw [← Frame.content_length fits, List.getD_append_right _ _ _ _ (Nat.le_succ _)]
    simp [checkBytes]
  have high : fieldByte (f.content ++ checkBytes f.check) f.len.toNat = BitVec.ofNat 8 (f.check.toNat / 256) := by
    unfold fieldByte
    rw [← Frame.content_length fits, List.getD_append_right _ _ _ _ le_rfl]
    simp [checkBytes]
  rw [receivedCheck, low, high, half_byte2]

theorem Frame.frameOf_body : frameOf f.len (f.content ++ checkBytes f.check) = f := by
  unfold frameOf
  rw [Frame.take_body fits]
  simp [-BitVec.ofNat_toNat, Frame.content, byte2, fieldByte, fieldHalf, half_byte2]

/-- The byte that completes the frame hands it to the buffer (R178). -/
theorem Frame.complete_body (l : Link) :
    l.complete f.len (f.content ++ checkBytes f.check) = ({ l with receiver := .hunt, gap := none } : Link).receive f := by
  have matching : frameCheck (checkedPart f.len (f.content ++ checkBytes f.check))
      = receivedCheck f.len (f.content ++ checkBytes f.check) := by
    rw [checkedPart, Frame.take_body fits, Frame.receivedCheck_body fits, Frame.check]
  unfold Link.complete
  rw [if_neg (not_not.2 matching), Frame.frameOf_body fits]

/-- The bytes of a frame, taken in HUNT, hand exactly that frame to the buffer (R176, R178). -/
theorem Frame.takeBytes {l : Link} (hunting : l.receiver = .hunt) (stopped : l.gap = none) :
    f.bytes.foldl Link.takeByte l = l.receive f := by
  have range := Frame.len_toNat fits
  have length := Frame.content_length fits
  have sync : l.takeByte 0xB7 = { l with receiver := .length, gap := some 0 } := by
    unfold Link.takeByte
    rw [hunting]
    rfl
  have opens : Link.takeByte { l with receiver := .length, gap := some 0 } f.len = { l with receiver := .body f.len [], gap := some 0 } := by
    have inRange : lenInRange f.len = true := by simp [lenInRange, range]; omega
    simp [Link.takeByte, inRange]
  obtain ⟨first, last, split⟩ : ∃ first last, checkBytes f.check = [first, last] := ⟨_, _, rfl⟩
  have whole : f.content ++ checkBytes f.check = (f.content ++ [first]) ++ [last] := by rw [split]; simp
  have done := Frame.complete_body fits { l with receiver := .body f.len (f.content ++ [first]), gap := some 0 }
  rw [Frame.bytes_eq, List.foldl_cons, List.foldl_cons, sync, opens, whole, List.foldl_append,
    takeBytes_of_body (len := f.len) (body := []) (f.content ++ [first]) rfl (by simp; omega) rfl]
  have full : ¬ (f.content ++ [first] ++ [last]).length < f.len.toNat + 2 := by simp; omega
  simp only [List.nil_append, List.foldl_cons, List.foldl_nil, Link.takeByte]
  rw [if_neg full, ← whole, done]
  rw [show ({ l with receiver := .hunt, gap := none } : Link) = l by rw [← hunting, ← stopped]]

end

/-- Settles O13. -/
theorem frameBytesReachTheBuffer : Obligations.FrameBytesReachTheBuffer := by
  intro f s fits hunting stopped room
  rw [runAll_rxd, Frame.takeBytes fits hunting stopped, receive_eq, if_pos room]

end Sys2Proof.Machine
end


section
/-! The reading requests (O46), and the fields out of range (O60). -/

set_option Elab.async false

namespace Sys2Proof.Machine

/-! ## The sizes of the records (chapter 11) -/

@[simp] theorem byte1_length (n : Nat) : (byte1 n).length = 1 := rfl

@[simp] theorem byte2_length (n : Nat) : (byte2 n).length = 2 := rfl

@[simp] theorem byte4_length (n : Nat) : (byte4 n).length = 4 := rfl

@[simp] theorem flagByte_length (b : Bool) : (flagByte b).length = 1 := rfl

/-- Records of one size for every unit. -/
theorem perUnit_length {n k : Nat} {f : Fin n → List Byte} (each : ∀ u, (f u).length = k) : (perUnit n f).length = n * k := by
  unfold perUnit allUnits
  rw [List.length_flatMap]
  simp [each]

theorem identRecord_length (s : State) : (identRecord s).length = 14 := rfl

theorem cameraSummary_length (c : Camera) : c.summary.length = 7 := by
  unfold Camera.summary
  split <;> rfl

theorem statusRecord_length (s : State) : (statusRecord s).length = 100 := by
  have groups := perUnit_length (n := 4) (k := 2) (f := fun g => byte1 s.groups[g].state.code ++ flagByte (locked s g)) fun _ => rfl
  have cameras := perUnit_length (n := 6) (k := 7) (f := fun n => s.cameras[n].summary) fun n => cameraSummary_length _
  have gates := perUnit_length (n := 2) (k := 3) (f := fun g => s.gates[g].summary) fun _ => rfl
  have robots := perUnit_length (n := 8) (k := 3) (f := robotSummary s) fun _ => rfl
  simp only [statusRecord, List.length_append, groups, cameras, gates, robots]
  rfl

theorem powerRecord_length (s : State) : (powerRecord s).length = 36 := by
  have groups := perUnit_length (n := 4) (k := 8) (f := groupPower s) fun _ => rfl
  simp only [powerRecord, List.length_append, groups]
  rfl

theorem slotRecord_length (p l : Nat) (sl : Slot) : (slotRecord p l sl).length = 17 + 4 * sl.verdicts.length := by
  have entries : (sl.verdicts.flatMap VerdictEntry.bytes).length = 4 * sl.verdicts.length := by
    rw [List.length_flatMap]
    simp [VerdictEntry.bytes, Nat.mul_comm]
  simp only [slotRecord, List.length_append, entries]
  rfl

theorem jobBytes_length (j : Option Job) (flow : Nat) : (jobBytes j flow).length = 15 := by
  cases j <;> rfl

theorem lastFillBytes_length (f : Option LastFill) : (lastFillBytes f).length = 29 := by
  cases f <;> rfl

theorem doseBytes_length (d : Dose) : (doseBytes d).length = 85 := by
  simp only [doseBytes, List.length_append, lastFillBytes_length]
  rfl

theorem robotRecord_length (s : State) (r : RobotId) : (robotRecord s r).length = 111 := by
  simp only [robotRecord, List.length_append, jobBytes_length, doseBytes_length]
  rfl

theorem grantBytes_length (s : State) (g : Option Grant) : (grantBytes s g).length = 27 := by
  cases g <;> rfl

theorem accessSummary_length (s : State) : (accessSummary s).length = 11 := by
  have zones := perUnit_length (n := 4) (k := 1) (f := fun z => byte1 (lockout s z)) fun _ => rfl
  simp only [accessSummary, List.length_append, zones]
  rfl

theorem grantRecord_length (s : State) (i : PlaceId) : (grantRecord s i).length = 39 := by
  simp only [grantRecord, List.length_append, grantBytes_length, accessSummary_length]
  rfl

theorem counterRecord_length (s : State) (i : CounterId) : (counterRecord s i).length = 25 := rfl

/-! ## Reading -/

theorem trackRead_of_onTrack {s : State} {p : Byte} (onTrack : p.toNat < s.track.length) (tag : Half) :
    trackRead tag p s = accept kindTrackRead tag (slotRecord p.toNat s.track.length (s.slotAt p.toNat)) s := if_pos onTrack

theorem robotRead_of_robot (tag : Half) (r : RobotId) (s : State) :
    robotRead tag (BitVec.ofNat 8 r.val) s = accept kindRobotRead tag (robotRecord s r) s := by
  rw [robotRead, unitField_ofNat (by decide) r]

theorem grantRead_of_place (tag : Half) (i : PlaceId) (s : State) :
    grantRead tag (BitVec.ofNat 8 i.val) s = accept kindGrantRead tag (grantRecord s i) s := by
  rw [grantRead, unitField_ofNat (by decide) i]

theorem counterRead_of_counter (tag : Half) (i : CounterId) (s : State) :
    counterRead tag (BitVec.ofNat 8 i.val) s = accept kindCounterRead tag (counterRecord s i) s := by
  rw [counterRead, unitField_ofNat (by decide) i]

/-- Settles O46: each reading request is answered with its record, of the size that its parts add up to. -/
theorem readsChangeNothing : Obligations.ReadsChangeNothing := by
  intro s tag idle
  have taken (c : Instr) (rule : State → State) : hostRequest c rule s = .next (rule s) := hostRequest_of_idle idle c rule
  refine ⟨⟨taken (.ident tag) _, identRecord_length s⟩, ⟨taken (.status tag) _, statusRecord_length s⟩,
    ⟨taken (.powerRead tag) _, powerRecord_length s⟩, ⟨_, taken (.timeRead tag) _, rfl⟩,
    fun p onTrack => ⟨(taken (.trackRead tag p) _).trans (congrArg _ (trackRead_of_onTrack onTrack tag)), slotRecord_length ..⟩,
    fun r => ⟨(taken (.robotRead tag _) _).trans (congrArg _ (robotRead_of_robot tag r s)), robotRecord_length s r⟩,
    fun i => ⟨(taken (.grantRead tag _) _).trans (congrArg _ (grantRead_of_place tag i s)), grantRecord_length s i⟩,
    fun i => ⟨(taken (.counterRead tag _) _).trans (congrArg _ (counterRead_of_counter tag i s)), counterRecord_length s i⟩⟩

/-! ## Fields out of range (R182, R187) -/

theorem unitField_of_le {n : Nat} {b : Byte} (out : n ≤ b.toNat) : unitField n b = none := dif_neg (Nat.not_lt.2 out)

theorem flagField_of_le {b : Byte} (out : 2 ≤ b.toNat) : flagField b = none := by
  unfold flagField
  rw [if_neg (by rintro rfl; simp at out), if_neg (by rintro rfl; simp at out)]

theorem kindField_of_le {b : Byte} (out : 3 ≤ b.toNat) : kindField b = none := by
  unfold kindField
  rw [if_neg (by rintro rfl; simp at out), if_neg (by rintro rfl; simp at out), if_neg (by rintro rfl; simp at out)]

theorem cameraConfig_of_outOfRange {camera enabled required deadline : Byte} {classMask : Half}
    (out : 6 ≤ camera.toNat ∨ 2 ≤ enabled.toNat ∨ 2 ≤ required.toNat ∨ deadline = 0 ∨ 15 < deadline.toNat ∨ classMask &&& 0xF000 ≠ 0)
    (tag phase : Half) (position : Byte) (s : State) :
    cameraConfig tag camera enabled position phase classMask required deadline s = refuse kindCameraConfig tag .badField s := by
  unfold cameraConfig
  split
  case h_1 n en req unit flag flag' =>
    refine if_pos ?_
    obtain h | h | h | rfl | h | h := out
    · rw [unitField_of_le h] at unit; cases unit
    · rw [flagField_of_le h] at flag; cases flag
    · rw [flagField_of_le h] at flag'; cases flag'
    · exact .inl (by simp)
    · exact .inr (.inl h)
    · exact .inr (.inr h)
  case h_2 => rfl

theorem gateConfig_of_outOfRange {gate enabled width window : Byte}
    (out : 2 ≤ gate.toNat ∨ 2 ≤ enabled.toNat ∨ width = 0 ∨ 250 < width.toNat ∨ window = 0 ∨ 8 < window.toNat)
    (tag phase classMask : Half) (position : Byte) (s : State) :
    gateConfig tag gate enabled position phase width classMask window s = refuse kindGateConfig tag .badField s := by
  unfold gateConfig
  split
  case h_1 g en unit flag =>
    refine if_pos ?_
    obtain h | h | rfl | h | rfl | h := out
    · rw [unitField_of_le h] at unit; cases unit
    · rw [flagField_of_le h] at flag; cases flag
    · exact .inl (by simp)
    · exact .inr (.inl h)
    · exact .inr (.inr (.inl (by simp)))
    · exact .inr (.inr (.inr h))
  case h_2 => rfl

theorem robotConfig_of_outOfRange {robot zone : Byte} (out : 8 ≤ robot.toNat ∨ 4 ≤ zone.toNat) (tag : Half) (address : Byte)
    (s : State) : robotConfig tag robot zone address s = refuse kindRobotConfig tag .badField s := by
  unfold robotConfig
  split
  case h_1 r z unit unit' =>
    obtain h | h := out
    · rw [unitField_of_le h] at unit; cases unit
    · rw [unitField_of_le h] at unit'; cases unit'
  case h_2 => rfl

theorem robotMode_of_outOfRange {robot : Byte} (out : 8 ≤ robot.toNat) (tag : Half) (mode : Byte) (s : State) :
    robotMode tag robot mode s = refuse kindRobotMode tag .badField s := by
  unfold robotMode
  rw [unitField_of_le out]

theorem grantExtend_of_outOfRange {minutes : Half} (out : minutes = 0 ∨ 480 < minutes.toNat) (tag number : Half) (s : State) :
    grantExtend tag number minutes s = refuse kindGrantExtend tag .badField s := by
  refine if_pos ?_
  obtain rfl | h := out
  · exact .inl (by simp)
  · exact .inr h

/-- Settles O60: each field out of range by the check of its rule. -/
theorem fieldsOutOfRangeAreRefused : Obligations.FieldsOutOfRangeAreRefused := by
  intro s tag unit b1 b2 b3 b4 h1 h2 h3 h4 h5 h6 h7 l1 l2 idle
  have taken (c : Instr) {rule : State → State} {t : State} (refused : rule s = t) : hostRequest c rule s = .next t := by
    rw [hostRequest_of_idle idle, refused]
  refine ⟨fun out => taken (.cameraConfig ..) (cameraConfig_of_outOfRange out ..),
    fun out => taken (.gateConfig ..) (gateConfig_of_outOfRange out ..),
    fun out => taken (.trackRead ..) (if_neg (Nat.not_lt.2 out)),
    fun out => taken (.trackTally ..) (by rw [trackTally, flagField_of_le out]),
    fun out => taken (.robotConfig ..) (robotConfig_of_outOfRange out ..),
    fun out => ⟨taken (.recipeLoad ..) (by rw [recipeLoad, unitField_of_le out]),
      taken (.robotMode ..) (robotMode_of_outOfRange out ..), taken (.robotRead ..) (by rw [robotRead, unitField_of_le out]),
      taken (.faultClearRobot ..) (by rw [clearRobotFault, unitField_of_le out]),
      taken (.grantRead ..) (by rw [grantRead, unitField_of_le out])⟩,
    fun out => ⟨taken (.groupClose ..) (by rw [groupClose, unitField_of_le out]),
      taken (.groupOpen ..) (by rw [groupOpen, unitField_of_le out]),
      taken (.faultClearGroup ..) (by rw [clearGroupFault, unitField_of_le out]),
      taken (.faultClearZone ..) (by rw [clearZoneLatch, unitField_of_le out])⟩,
    fun out => taken (.faultClearGate ..) (by rw [clearGateFault, unitField_of_le out]),
    fun out => ⟨taken (.faultClearSwitch ..) (if_pos out), taken (.faultClearCabinet ..) (if_pos out)⟩,
    fun out => taken (.grantRequest ..) (by rw [grantRequest, kindField_of_le out]),
    fun out => taken (.grantExtend ..) (grantExtend_of_outOfRange out ..),
    fun out => ⟨taken (.counterLoad ..) (by rw [counterLoad, unitField_of_le out]),
      taken (.counterLimits ..) (by rw [counterLimits, unitField_of_le out]),
      taken (.counterReset ..) (by rw [counterReset, unitField_of_le out]),
      taken (.counterRead ..) (by rw [counterRead, unitField_of_le out])⟩⟩

end Sys2Proof.Machine
end


section
/-! Machine time over the tick (O16): the tick keeps the time, the rollover turns the second, and TIME_SET stages. -/

set_option Elab.async false

namespace Sys2Proof.Machine

/-! ## The time over a tick (R151 to R155) -/

theorem raiseEvent_time (kind : EventKind) (unit : Nat) (detail1 detail2 : Half) (s : State) :
    (raiseEvent kind unit detail1 detail2 s).time = s.time := by simp

theorem rolloverTime_time (s : State) : (rolloverTime s).time = s.time.rollover := by
  unfold rolloverTime
  dsimp only
  split
  · exact raiseEvent_time _ _ _ _ _
  · rfl

theorem rollover_time (s : State) : (rollover s).time = s.time.rollover := by
  have each : ∀ t : State, t.time = s.time.rollover →
      (forEach (allUnits 8) (fun i t => settle (expireGrant i t.time.uptime t)) t).time = s.time.rollover := fun t at_ =>
    forEach_invariant (fun t => t.time = s.time.rollover) _ _ (fun i t at_ => by
      have kept : (settle (expireGrant i t.time.uptime t)).time = t.time := by
        simp [settle_frame, expireGrant_frame]
      exact kept.trans at_) t at_
  exact each _ (rolloverTime_time s)

theorem tick_eq (s : State) :
    tick s = expireTimers (if 999 ≤ s.time.ms then rollover (advanceTimers s) else advanceTimers s) := by
  have limit : (1000 ≤ (advanceTimers s).time.ms) = (999 ≤ s.time.ms) := by
    have count : (advanceTimers s).time.ms = s.time.ms + 1 := rfl
    rw [count]
    exact propext (by omega)
  unfold tick
  dsimp only
  simp only [limit]

theorem tick_time (s : State) :
    (tick s).time =
      if 999 ≤ s.time.ms then { s.time with ms := s.time.ms + 1, ahead := [] }.rollover
      else { s.time with ms := s.time.ms + 1, ahead := [] } := by
  rw [tick_eq, (expireTimers_frame _).2.2.2.1]
  split_ifs
  · exact rollover_time _
  · rfl

/-! ## The TIME_SET event of the rollover (R155) -/

/-- The record of TIME_SET is the first that a rollover of a staged time enters. -/
theorem rolloverTime_entersTimeSet {s : State} {v : Long} (staged : s.time.staged = some v)
    (room : s.events.queue.length < 64) :
    (rolloverTime s).events.queue = s.events.queue
      ++ [{ s with time := s.time.rollover }.recordOf .timeSet 0 (lowerHalf s.time.seconds.toNat)
            (upperHalf s.time.seconds.toNat)] := by
  have isStaged : s.time.staged.isSome = true := by rw [staged]; rfl
  unfold rolloverTime
  dsimp only
  rw [if_pos isStaged, raiseEvent_events_of_room (s := { s with time := s.time.rollover }) room]

theorem lowerHalf_toNat (v : Long) : lowerHalf v.toNat = v.setWidth 16 := by
  apply BitVec.eq_of_toNat_eq
  simp [lowerHalf]

theorem upperHalf_toNat (v : Long) : upperHalf v.toNat = (v >>> 16).setWidth 16 := by
  apply BitVec.eq_of_toNat_eq
  simp [upperHalf, Nat.shiftRight_eq_div_pow]

/-- The grants that the rollover expires raise their events behind TIME_SET. -/
theorem rollover_keepsTimeSet (s : State) : (rolloverTime s).events.queue <+: (rollover s).events.queue := by
  have each : ∀ i : PlaceId, Appends fun t => settle (expireGrant i t.time.uptime t) := by
    intro i q t h
    have expired := expireGrant_appends i t.time.uptime h
    beta_reduce
    exact settle_appends expired
  unfold rollover
  generalize rolloverTime s = t
  exact forEach_appends (allUnits 8) each (List.prefix_refl t.events.queue)

/-- What a rollover enters stands where the queue ended before the tick. -/
theorem tick_entersTimeSet {s : State} {v : Long} (last : s.time.ms = 999) (staged : s.time.staged = some v)
    (room : s.events.queue.length < 64) :
    (tick s).events.queue[s.events.queue.length]? =
      some
        { sequence := s.events.nextSequence, seconds := v, ms := 0, valid := true, kind := .timeSet, unit := 0
          detail1 := s.time.seconds.setWidth 16, detail2 := (s.time.seconds >>> 16).setWidth 16 } := by
  have turned : tick s = expireTimers (rollover (advanceTimers s)) := by
    rw [tick_eq, if_pos (Nat.le_of_eq last.symm)]
  have sameQueue : (advanceTimers s).events = s.events := by simp [advanceTimers_frame]
  have sameStaged : (advanceTimers s).time.staged = some v := staged
  have entered := rolloverTime_entersTimeSet sameStaged (by rw [sameQueue]; exact room)
  have later : (rolloverTime (advanceTimers s)).events.queue <+: (tick s).events.queue := by
    rw [turned]
    exact expireTimers_appends (rollover_keepsTimeSet _)
  obtain ⟨rest, whole⟩ := later
  rw [← whole, entered]
  simp [advanceTimers, State.recordOf, TimeBase.rollover, staged, lowerHalf_toNat, upperHalf_toNat]

/-! ## TIME_SET (R154) -/

/-- Settles O16: the tick's two branches, and the rollover's event at the place where the queue ended. -/
theorem tickKeepsMachineTime : Obligations.TickKeepsMachineTime := by
  refine ⟨fun s => ⟨fun early => ?_, fun last => ?_, fun other => ?_⟩, fun s tag seconds idle => ?_⟩
  · refine ⟨tick s, rfl, ?_⟩
    rw [tick_time, if_neg (Nat.not_le.mpr early)]
  · refine ⟨tick s, rfl, ?_, ?_, fun v staged room => tick_entersTimeSet last staged room⟩
    · show Host.Outcome.next (secondsRollover s) = _
      unfold secondsRollover
      rw [if_pos last]
    · rw [tick_time, if_pos (Nat.le_of_eq last.symm)]
      rfl
  · show Host.Outcome.next (secondsRollover s) = _
    unfold secondsRollover
    rw [if_neg other]
  · exact hostRequest_of_idle idle (.timeSet tag seconds) _

end Sys2Proof.Machine
end


section
/-! The quiet tick (O17): each expiry leaves the part as it is while its timer is short of its limit. -/

set_option Elab.async false

namespace Sys2Proof.Machine

/-! ## Timers short of their limits -/

theorem discrepancyExpiry_of_early {s : State} (early : ∀ t : Nat, s.mainSwitch.alike = some t → t < 31) :
    discrepancyExpiry s = s := by
  unfold discrepancyExpiry
  split
  case h_1 t at_ => exact if_neg (Nat.not_le.2 (early t at_))
  case h_2 => rfl

/-- A supervision timer short of every limit of its state. -/
theorem supervised_of_early {s : State} {g : GroupId} {limit : Nat}
    (early : ∀ t : Nat, s.groups[g].timer = some t → t < limit) (st : GroupState) : supervised s g st limit = false := by
  unfold supervised
  split
  case h_1 t at_ => rw [decide_eq_false (Nat.not_le.2 (early t at_)), Bool.and_false]
  case h_2 => rw [Bool.and_false]

theorem groupExpiries_of_early {s : State} {g : GroupId} (early : ∀ t : Nat, s.groups[g].timer = some t → t < 31) :
    groupExpiries g s = s := by
  have short (limit : Nat) (above : 31 ≤ limit) (st : GroupState) : supervised s g st limit = false :=
    supervised_of_early (fun t at_ => Nat.lt_of_lt_of_le (early t at_) above) st
  have pullin : pullinExpiry g s = s := by
    unfold pullinExpiry
    rw [short 150 (by decide)]
    rfl
  have fallOut : fallOutExpiry g s = s := by
    unfold fallOutExpiry
    rw [short 31 (by decide)]
    rfl
  have dropout : dropoutExpiry g s = s := by
    unfold dropoutExpiry
    rw [short 100 (by decide)]
    rfl
  have weld : weldExpiry g s = s := by
    unfold weldExpiry
    rw [short 100 (by decide), short 100 (by decide)]
    rfl
  unfold groupExpiries
  rw [pullin, fallOut, dropout, weld]

theorem drainExpiry_of_early {s : State} {i : PlaceId}
    (early : ∀ g : Grant, s.access.grants[i] = some g → g.state = .draining → g.drainTimer < 10000) :
    drainExpiry i s = s := by
  unfold drainExpiry
  split
  case h_1 g held => exact if_neg fun due => Nat.not_le.2 (early g held due.1) due.2.1
  case h_2 => rfl

theorem silenceExpiry_of_early {s : State} {n : CameraId} (early : s.cameras[n].silence < 2000) :
    silenceExpiry n s = s := by
  unfold silenceExpiry
  exact if_neg fun due => Nat.not_le.2 early due.2

theorem pulseExpiry_of_early {s : State} {g : GateId} (early : s.gates[g].output ≠ some 0) : pulseExpiry g s = s := by
  unfold pulseExpiry
  exact if_neg early

theorem checkExpiry_of_early {s : State} {r : RobotId} (early : ∀ t : Nat, s.doses[r].check = some t → t < 50) :
    checkExpiry r s = s := by
  unfold checkExpiry
  split
  case h_1 t at_ => exact if_neg (Nat.not_le.2 (early t at_))
  case h_2 => rfl

theorem stuckValve_of_agreement {s : State} {r : RobotId}
    (agrees : s.doses[r].check = none → s.pins.feedback[r] = s.doses[r].valve) : stuckValve r s = s := by
  unfold stuckValve
  refine if_neg fun due => ?_
  obtain ⟨unchecked, disagrees⟩ := Bool.and_eq_true_iff.1 due
  rw [valveAgrees, agrees (Option.isNone_iff_eq_none.1 unchecked), beq_self_eq_true] at disagrees
  cases disagrees

theorem noFlowExpiry_of_early {s : State} {r : RobotId}
    (early : ∀ j : Job, s.robots[r].job = some j → j.noFlowTimer < 200) : noFlowExpiry r s = s := by
  unfold noFlowExpiry
  split
  case h_1 j held => exact if_neg fun due => Nat.not_le.2 (early j held) due.2
  case h_2 => rfl

theorem settleExpiry_of_early {s : State} {r : RobotId}
    (early : ∀ j : Job, s.robots[r].job = some j → j.settleTimer < j.recipe.settle) : settleExpiry r s = s := by
  unfold settleExpiry
  split
  case h_1 j held => exact if_neg fun due => Nat.not_le.2 (early j held) due.2
  case h_2 => rfl

theorem valveSecond_of_early {s : State} {r : RobotId} (early : s.counters[valveCounter r].remainder < 1000) :
    valveSecond r s = s := by
  unfold valveSecond
  exact if_neg (Nat.not_le.2 early)

theorem pollExpiry_of_early {s : State} {r : RobotId} (early : s.robots[r].pollTimer < 5) : pollExpiry r s = s := by
  unfold pollExpiry
  exact if_neg fun due => Nat.not_le.2 early due.2

theorem gapExpiry_of_early {s : State} (early : ∀ t : Nat, s.link.gap = some t → t < 4) : gapExpiry s = s := by
  unfold gapExpiry
  split
  case h_1 t at_ => exact if_neg (Nat.not_le.2 (early t at_))
  case h_2 => rfl

/-! ## Grants with nothing decided (R133, R135, R136) -/

/-- A DRAINING grant's drain goes on while a robot of a covered zone holds a job. -/
theorem judgeDrain_of_undecided {s : State} {i : PlaceId}
    (undecided : ∀ g : Grant, s.access.grants[i] = some g → g.state = .draining →
      ∃ r : RobotId, g.covers s.robots[r].zone = true ∧ s.robots[r].job ≠ none) : judgeDrain i s = s := by
  unfold judgeDrain
  split
  case h_1 g held =>
    refine if_neg fun due => ?_
    obtain ⟨r, covered, busy⟩ := undecided g held due.1
    exact busy ((drained_iff s g).1 due.2 _ covered r rfl)
  case h_2 => rfl

theorem isolated_eq_false_iff (s : State) (z : GroupId) :
    isolated s z = false ↔
      s.groups[z].state ≠ .isOpen ∧ (s.groups[z].state ≠ .faultPullin ∨ s.pins.mirror[z] = true) := by
  unfold isolated
  cases s.pins.mirror[z] <;> simp

theorem releasing_iff (g : Grant) : g.releasing = true ↔ g.state = .isOpen ∨ g.state = .overdue := by
  simp [Grant.releasing]

/-- A grant with no covered weld, which if it is ISOLATING has a covered group that is not isolated. -/
theorem judgeIsolation_of_undecided {s : State} {i : PlaceId}
    (undecided : ∀ g : Grant, s.access.grants[i] = some g → g.kind ≠ .jog →
      (g.state = .isolating ∨ g.state = .isOpen ∨ g.state = .overdue →
        ∀ z : GroupId, g.covers z = true → s.groups[z].state ≠ .faultWeld)
      ∧ (g.state = .isolating → ∃ z : GroupId, g.covers z = true ∧ isolated s z = false)) :
    judgeIsolation i s = s := by
  unfold judgeIsolation
  split
  case h_2 => rfl
  case h_1 g held =>
    split
    case isFalse => rfl
    case isTrue due =>
      obtain ⟨sound, waits⟩ := undecided g held due.1
      have unwelded : weldedGroup s g = none := by
        refine List.find?_eq_none.2 fun z listed => ?_
        have covered : g.covers z = true := (List.mem_filter.1 listed).2
        simpa using sound (by rw [← releasing_iff]; exact due.2) z covered
      rw [unwelded]
      refine if_neg fun ended => ?_
      obtain ⟨z, covered, live⟩ := waits ended.1
      have gone := List.all_eq_true.1 ended.2 z (List.mem_filter.2 ⟨mem_allUnits z, covered⟩)
      rw [live] at gone
      cases gone

/-- With every drain and isolation undecided, and no held robot available, the judging changes nothing. -/
theorem settle_of_undecided {s : State} (drains : ∀ i : PlaceId, judgeDrain i s = s)
    (isolations : ∀ i : PlaceId, judgeIsolation i s = s)
    (none : ∀ r : RobotId, s.robots[r].held = true → available s r = false) : settle s = s := by
  have grants : judgeGrants s = s := forEach_of_fixed (fun i => by rw [drains i, isolations i]) _
  unfold settle
  rw [grants, judgeReleases_of_not_due none]

/-! ## What every running timer reads after its rise (R151) -/

theorem advanceTimers_camera (s : State) (n : CameraId) :
    (advanceTimers s).cameras[n] = s.cameras[n].tick s.pins.run := Vector.getElem_ofFn _

theorem advanceTimers_gate (s : State) (g : GateId) : (advanceTimers s).gates[g] = s.gates[g].tick :=
  Vector.getElem_ofFn _

theorem advanceTimers_robot (s : State) (r : RobotId) : (advanceTimers s).robots[r] = tickRobot s r :=
  Vector.getElem_ofFn _

theorem advanceTimers_dose (s : State) (r : RobotId) : (advanceTimers s).doses[r] = s.doses[r].tick :=
  Vector.getElem_ofFn _

theorem advanceTimers_group (s : State) (g : GroupId) : (advanceTimers s).groups[g] = s.groups[g].tick :=
  Vector.getElem_ofFn _

theorem advanceTimers_grant (s : State) (i : PlaceId) :
    (advanceTimers s).access.grants[i] = s.access.grants[i].map Grant.tick := Vector.getElem_ofFn _

theorem advanceTimers_counter (s : State) (i : CounterId) : (advanceTimers s).counters[i] = tickCounter s i :=
  Vector.getElem_ofFn _

theorem grant_tick_parts (g : Grant) :
    g.tick.state = g.state ∧ g.tick.kind = g.kind ∧ g.tick.zones = g.zones
      ∧ g.tick.drainTimer = if g.state = .draining then g.drainTimer + 1 else g.drainTimer := by
  unfold Grant.tick
  split_ifs with draining
  · exact ⟨rfl, rfl, rfl, rfl⟩
  · exact ⟨rfl, rfl, rfl, rfl⟩

/-- A grant in its place after the rise is the grant that stood there, with its drain timer risen. -/
theorem advanceTimers_grant_some {s : State} {i : PlaceId} {g : Grant}
    (held : (advanceTimers s).access.grants[i] = some g) : ∃ old : Grant, s.access.grants[i] = some old ∧ g = old.tick := by
  rw [advanceTimers_grant, Option.map_eq_some_iff] at held
  obtain ⟨old, stood, rise⟩ := held
  exact ⟨old, stood, rise.symm⟩

theorem tickJob_parts (rb : Robot) :
    rb.tickJob.zone = rb.zone ∧ rb.tickJob.mode = rb.mode ∧ rb.tickJob.armed = rb.armed ∧ rb.tickJob.held = rb.held
      ∧ rb.tickJob.lastStatus = rb.lastStatus ∧ rb.tickJob.job = rb.job.map Job.tick
      ∧ rb.tickJob.pollTimer = rb.pollTimer := ⟨rfl, rfl, rfl, rfl, rfl, rfl, rfl⟩

theorem tickRobot_parts (s : State) (r : RobotId) :
    (tickRobot s r).zone = s.robots[r].zone ∧ (tickRobot s r).mode = s.robots[r].mode
      ∧ (tickRobot s r).armed = s.robots[r].armed ∧ (tickRobot s r).held = s.robots[r].held
      ∧ (tickRobot s r).lastStatus = s.robots[r].lastStatus ∧ (tickRobot s r).job = s.robots[r].job.map Job.tick
      ∧ (tickRobot s r).pollTimer ≤ s.robots[r].pollTimer + 1 := by
  unfold tickRobot Robot.tickPoll
  split_ifs
  · exact ⟨rfl, rfl, rfl, rfl, rfl, rfl, Nat.le_succ _⟩
  · exact ⟨rfl, rfl, rfl, rfl, rfl, rfl, Nat.le_succ _⟩
  · exact ⟨rfl, rfl, rfl, rfl, rfl, rfl, Nat.le_refl _⟩

theorem job_tick_parts (j : Job) :
    j.tick.recipe = j.recipe ∧ j.tick.noFlowTimer = (if j.state = .filling then j.noFlowTimer + 1 else j.noFlowTimer)
      ∧ j.tick.settleTimer = (if j.state = .settling then j.settleTimer + 1 else j.settleTimer) := by
  unfold Job.tick
  cases h : j.state <;> exact ⟨rfl, rfl, rfl⟩

theorem tickCounter_state (s : State) (i : CounterId) : (tickCounter s i).state = s.counters[i].state := by
  unfold tickCounter
  split
  · split
    · rfl
    · rfl
  · rfl

theorem tickCounter_remainder_le (s : State) (i : CounterId) :
    (tickCounter s i).remainder ≤ s.counters[i].remainder + 1 := by
  unfold tickCounter
  split
  · split
    · exact Nat.le_refl _
    · exact Nat.le_succ _
  · exact Nat.le_succ _

/-- The rise of the timers makes no robot available, and takes none away. -/
theorem available_advanceTimers (s : State) (r : RobotId) : available (advanceTimers s) r = available s r := by
  obtain ⟨zone, mode, armed, -, status, job, -⟩ := tickRobot_parts s r
  have lock (z : GroupId) : locked (advanceTimers s) z = false ↔ locked s z = false := by
    rw [locked_eq_false_iff, locked_eq_false_iff]
    refine and_congr Iff.rfl ⟨fun none i g held => ?_, fun none i g held => ?_⟩
    · have risen : (advanceTimers s).access.grants[i] = some g.tick := by rw [advanceTimers_grant, held]; rfl
      have uncovered := none i _ risen
      unfold Grant.covers at uncovered ⊢
      rwa [(grant_tick_parts g).2.2.1] at uncovered
    · obtain ⟨old, stood, rfl⟩ := advanceTimers_grant_some held
      unfold Grant.covers
      rw [(grant_tick_parts old).2.2.1]
      exact none i old stood
  have sameLock (z : GroupId) : locked (advanceTimers s) z = locked s z :=
    Bool.eq_iff_iff.2 (by rw [← not_iff_not, Bool.not_eq_true, Bool.not_eq_true]; exact lock z)
  unfold available robotCounterIs
  simp only [advanceTimers_robot, advanceTimers_counter, advanceTimers_group, tickCounter_state, zone, mode, armed, status,
    job, sameLock, Option.isNone_map, Group.tick]
  rfl

end Sys2Proof.Machine
end


section
/-! The quiet tick (O17), continued: the record every timer's rise leaves, and the tick assembled from its expiries. -/

set_option Elab.async false

namespace Sys2Proof.Machine

/-! ## The rise as the manual lists it (R151) -/

theorem camera_tick_eq (run : Bool) (c : Camera) :
    c.tick run =
      { c with silence :=
          if run = true ∧ (c.state = .ready ∨ c.state = .notReady) then c.silence + 1 else c.silence } := by
  unfold Camera.tick
  split_ifs with due given given
  · rfl
  · exact absurd (by simpa using due) given
  · exact absurd (by simpa using given) due
  · rfl

theorem job_tick_eq (j : Job) :
    j.tick =
      { j with
        noFlowTimer := if j.state = .filling then j.noFlowTimer + 1 else j.noFlowTimer
        settleTimer := if j.state = .settling then j.settleTimer + 1 else j.settleTimer } := by
  obtain ⟨ticket, state, opened, recipe, close, settleTimer, noFlowTimer⟩ := j
  cases state <;> rfl

theorem grant_tick_eq (g : Grant) :
    g.tick = { g with drainTimer := if g.state = .draining then g.drainTimer + 1 else g.drainTimer } := by
  unfold Grant.tick
  split_ifs <;> rfl

theorem valveRobot_eq_some_iff (i : CounterId) (r : RobotId) : valveRobot i = some r ↔ i = valveCounter r := by
  unfold valveRobot valveCounter
  split
  case isTrue h => simp only [Option.some.injEq, Fin.ext_iff]; omega
  case isFalse h => simp only [reduceCtorEq, false_iff, Fin.ext_iff]; omega

/-- With no share taken ahead, the valve-open time of every energised valve rises. -/
theorem tickCounter_eq {s : State} (whole : s.time.ahead = []) (i : CounterId) :
    tickCounter s i =
      { s.counters[i] with
        remainder :=
          if ∃ r : RobotId, i = valveCounter r ∧ s.doses[r].valve = true then s.counters[i].remainder + 1
          else s.counters[i].remainder } := by
  have untaken (r : RobotId) : s.takenAhead (.valveTime r) = false := by unfold State.takenAhead; rw [whole]; rfl
  unfold tickCounter
  cases robot : valveRobot i with
  | none =>
    have other : ¬∃ r : RobotId, i = valveCounter r ∧ s.doses[r].valve = true := fun ⟨r, is, _⟩ => by
      rw [(valveRobot_eq_some_iff i r).2 is] at robot
      cases robot
    rw [if_neg other]
  | some r =>
    have is := (valveRobot_eq_some_iff i r).1 robot
    have only : (∃ k : RobotId, i = valveCounter k ∧ s.doses[k].valve = true) ↔ s.doses[r].valve = true := by
      refine ⟨fun ⟨k, at_, energised⟩ => ?_, fun energised => ⟨r, is, energised⟩⟩
      have same : some k = some r := by rw [← (valveRobot_eq_some_iff i k).2 at_, robot]
      exact Option.some.inj same ▸ energised
    dsimp only
    rw [untaken r]
    by_cases valve : s.doses[r].valve = true
    · rw [valve, if_pos (only.2 valve)]
      rfl
    · rw [if_neg (mt only.1 valve), Bool.eq_false_iff.2 valve]
      rfl

theorem tickRobot_eq {s : State} (whole : s.time.ahead = []) (r : RobotId) :
    tickRobot s r =
      { s.robots[r] with
        pollTimer := if s.robots[r].mode = .off then s.robots[r].pollTimer else s.robots[r].pollTimer + 1
        job := s.robots[r].job.map fun j =>
          { j with
            noFlowTimer := if j.state = .filling then j.noFlowTimer + 1 else j.noFlowTimer
            settleTimer := if j.state = .settling then j.settleTimer + 1 else j.settleTimer } } := by
  have untaken : s.takenAhead (.poll r) = false := by unfold State.takenAhead; rw [whole]; rfl
  have jobs : (Job.tick : Job → Job) = fun j => _ := funext job_tick_eq
  unfold tickRobot Robot.tickPoll Robot.tickJob
  rw [untaken, if_neg Bool.false_ne_true, jobs]
  by_cases off : s.robots[r].mode = .off
  · rw [if_pos off, if_pos off]
  · rw [if_neg off, if_neg off]

/-! ## The tick with nothing due -/

/-- The expiries of one robot, with its check, valve, no-flow and settle timers short. -/
theorem robotExpiries_of_early {s : State} {r : RobotId} (calm : settle s = s) (check : checkExpiry r s = s)
    (stuck : stuckValve r s = s) (flow : noFlowExpiry r s = s) (settled : settleExpiry r s = s) :
    robotExpiries r s = s := by
  unfold robotExpiries
  rw [check, calm, stuck, calm, flow, calm, settled, calm]

theorem expireTimers_of_early {s : State} (calm : settle s = s) (switch : discrepancyExpiry s = s)
    (groups : ∀ g : GroupId, groupExpiries g s = s) (drains : ∀ i : PlaceId, drainExpiry i s = s)
    (cameras : ∀ n : CameraId, silenceExpiry n s = s) (gates : ∀ g : GateId, pulseExpiry g s = s)
    (robots : ∀ r : RobotId, robotExpiries r s = s) (valves : ∀ r : RobotId, valveSecond r s = s)
    (polls : ∀ r : RobotId, pollExpiry r s = s) (gap : gapExpiry s = s) : expireTimers s = s := by
  have supervised := forEach_of_fixed (act := fun g t => settle (groupExpiries g t)) (fun g => by rw [groups g, calm])
    (allUnits 4)
  have drained := forEach_of_fixed (act := fun i t => settle (drainExpiry i t)) (fun i => by rw [drains i, calm]) (allUnits 8)
  have timed := forEach_of_fixed (act := fun r t => settle (valveSecond r t)) (fun r => by rw [valves r, calm]) (allUnits 8)
  unfold expireTimers
  dsimp only
  rw [switch, calm, supervised, drained, forEach_of_fixed cameras, forEach_of_fixed gates, forEach_of_fixed robots, timed,
    forEach_of_fixed polls, gap]

/-- Settles O17: nothing is due after the rise, so the tick is the rise alone. -/
theorem quietTickAdvancesTimers : Obligations.QuietTickAdvancesTimers := by
  intro s early whole silences outputs jobs polls checks feedback seconds alike supervision grants releases gap
  have calm : settle (advanceTimers s) = advanceTimers s := by
    refine settle_of_undecided (fun i => judgeDrain_of_undecided fun g held draining => ?_)
      (fun i => judgeIsolation_of_undecided fun g held notJog => ?_) fun r held => ?_
    · obtain ⟨old, stood, rfl⟩ := advanceTimers_grant_some held
      obtain ⟨state, -, zones, -⟩ := grant_tick_parts old
      obtain ⟨-, r, covered, busy⟩ := (grants i old stood).1 (state ▸ draining)
      obtain ⟨zone, -, -, -, -, job, -⟩ := tickRobot_parts s r
      refine ⟨r, ?_, ?_⟩
      · rw [advanceTimers_robot, zone]
        unfold Grant.covers at covered ⊢
        rwa [zones]
      · rw [advanceTimers_robot, job]
        exact fun none => busy (Option.map_eq_none_iff.1 none)
    · obtain ⟨old, stood, rfl⟩ := advanceTimers_grant_some held
      obtain ⟨state, kind, zones, -⟩ := grant_tick_parts old
      obtain ⟨sound, waits⟩ := (grants i old stood).2 (kind ▸ notJog)
      have covers (z : GroupId) : old.tick.covers z = old.covers z := by unfold Grant.covers; rw [zones]
      rw [state]
      refine ⟨fun live z covered => ?_, fun isolating => ?_⟩
      · rw [advanceTimers_group]
        exact sound live z (covers z ▸ covered)
      · obtain ⟨z, covered, standing⟩ := waits isolating
        refine ⟨z, (covers z).trans covered, ?_⟩
        rw [isolated_eq_false_iff, advanceTimers_group]
        exact standing
    · rw [advanceTimers_robot, (tickRobot_parts s r).2.2.2.1] at held
      rw [available_advanceTimers]
      exact releases r held
  have quiet : expireTimers (advanceTimers s) = advanceTimers s := by
    refine expireTimers_of_early calm (discrepancyExpiry_of_early fun t at_ => ?_)
      (fun g => groupExpiries_of_early fun t at_ => ?_) (fun i => drainExpiry_of_early fun g held draining => ?_)
      (fun n => silenceExpiry_of_early ?_) (fun g => pulseExpiry_of_early ?_)
      (fun r => robotExpiries_of_early calm (checkExpiry_of_early fun t at_ => ?_) (stuckValve_of_agreement fun none => ?_)
        (noFlowExpiry_of_early fun j held => ?_) (settleExpiry_of_early fun j held => ?_))
      (fun r => valveSecond_of_early ?_) (fun r => pollExpiry_of_early ?_) (gapExpiry_of_early fun t at_ => ?_)
    · obtain ⟨old, stood, rfl⟩ := Option.map_eq_some_iff.1 (show s.mainSwitch.alike.map (· + 1) = some t from at_)
      exact Nat.succ_lt_succ (alike old stood)
    · rw [advanceTimers_group] at at_
      obtain ⟨old, stood, rfl⟩ := Option.map_eq_some_iff.1 at_
      exact Nat.succ_lt_succ (supervision g old stood)
    · obtain ⟨old, stood, rfl⟩ := advanceTimers_grant_some held
      obtain ⟨state, -, -, timer⟩ := grant_tick_parts old
      have stateThen := state ▸ draining
      rw [timer, if_pos stateThen]
      exact Nat.succ_lt_succ ((grants i old stood).1 stateThen).1
    · rw [advanceTimers_camera, camera_tick_eq]
      have short := silences n
      dsimp only
      split_ifs <;> omega
    · rw [advanceTimers_gate]
      intro due
      obtain ⟨left, stood, zero⟩ := Option.map_eq_some_iff.1 due
      have more := outputs g left stood
      omega
    · rw [advanceTimers_dose] at at_
      obtain ⟨old, stood, rfl⟩ := Option.map_eq_some_iff.1 at_
      exact Nat.succ_lt_succ (checks r old stood)
    · rw [advanceTimers_dose] at none ⊢
      exact feedback r (Option.map_eq_none_iff.1 none)
    · rw [advanceTimers_robot, (tickRobot_parts s r).2.2.2.2.2.1] at held
      obtain ⟨old, stood, rfl⟩ := Option.map_eq_some_iff.1 held
      have short := (jobs r old stood).1
      rw [(job_tick_parts old).2.1]
      split_ifs <;> omega
    · rw [advanceTimers_robot, (tickRobot_parts s r).2.2.2.2.2.1] at held
      obtain ⟨old, stood, rfl⟩ := Option.map_eq_some_iff.1 held
      have short := (jobs r old stood).2
      obtain ⟨recipe, -, timer⟩ := job_tick_parts old
      rw [timer, recipe]
      split_ifs <;> omega
    · rw [advanceTimers_counter]
      exact Nat.lt_of_le_of_lt (tickCounter_remainder_le s _) (Nat.succ_lt_succ (seconds r))
    · rw [advanceTimers_robot]
      exact Nat.lt_of_le_of_lt (tickRobot_parts s r).2.2.2.2.2.2 (Nat.succ_lt_succ (polls r))
    · obtain ⟨old, stood, rfl⟩ := Option.map_eq_some_iff.1 (show s.link.gap.map (· + 1) = some t from at_)
      exact Nat.succ_lt_succ (gap old stood)
  show Host.Outcome.next (tick s) = _
  rw [tick_eq, if_neg (Nat.not_le.2 early), quiet]
  have cameras := funext fun n : CameraId => camera_tick_eq s.pins.run s.cameras[n]
  have robots := funext (tickRobot_eq whole)
  have counters := funext (tickCounter_eq whole)
  have grantTicks := funext grant_tick_eq
  unfold advanceTimers
  rw [cameras, robots, counters, grantTicks, ← whole]
  rfl

end Sys2Proof.Machine
end


section
/-! The counted edge, RUN and stray edges (O18), and what the boundary does at each camera and gate (O20). -/

set_option Elab.async false

namespace Sys2Proof.Machine

/-! ## What reaches its phase (R2, R14, R37, R50) -/

theorem sampleInfeed_eq (inf : Bool) (s : State) :
    sampleInfeed inf s =
      { s with pitch :=
          { s.pitch with
            infeed := s.pitch.infeed || (inf && decide (s.pitch.windowStart ≤ s.pitch.counter)
              && decide (s.pitch.counter ≤ s.pitch.windowEnd)) } } := by
  unfold sampleInfeed
  dsimp only
  split
  case isTrue due =>
    obtain ⟨active, after, before⟩ := due
    rw [decide_eq_true after, decide_eq_true before, active, Bool.and_true, Bool.and_true, Bool.or_true]
  case isFalse out =>
    have unsampled : (inf && decide (s.pitch.windowStart ≤ s.pitch.counter)
        && decide (s.pitch.counter ≤ s.pitch.windowEnd)) = false := by
      rw [Bool.eq_false_iff]
      intro sampled
      simp only [Bool.and_eq_true, decide_eq_true_eq, and_assoc] at sampled
      exact out sampled
    rw [unsampled, Bool.or_false]

theorem fireAt_of_other {s : State} {g : GateId}
    (other : s.gates[g].cfg.phase = s.pitch.counter → s.gates[g].pendingFire = none ∨ s.gates[g].cfg.enabled = false) :
    fireAt g s = s := by
  unfold fireAt
  dsimp only
  split
  case h_1 t pending =>
    refine if_neg fun due => ?_
    obtain none | disabled := other due.2.symm
    · rw [none] at pending
      cases pending
    · rw [disabled] at due
      exact Bool.false_ne_true due.1
  case h_2 => rfl

theorem triggerAt_of_other {s : State} {n : CameraId}
    (other : s.cameras[n].cfg.phase = s.pitch.counter →
      (s.slotAt s.cameras[n].cfg.position).awaits n = false ∨ s.cameras[n].cfg.enabled = false) : triggerAt n s = s := by
  unfold triggerAt
  refine if_neg fun due => ?_
  obtain ⟨enabled, reached, -, awaits, -⟩ := due
  obtain unawaited | disabled := other reached.symm
  · rw [unawaited] at awaits
    cases awaits
  · rw [disabled] at enabled
    cases enabled

theorem countedEdge_below {s : State} (inf : Bool) (running : s.pins.run = true)
    (below : s.pitch.counter + 1 < s.pitch.length) :
    countedEdge inf s = reachPhase inf (setPitchCounter (s.pitch.counter + 1) s) := by
  unfold countedEdge
  dsimp only
  rw [if_pos running, if_pos below]

/-- Settles O18: the edge below P−1 by its phase, and RUN and stray edges by what each finds. -/
theorem countedEdgesAdvanceThePitch : Obligations.CountedEdgesAdvanceThePitch := by
  refine ⟨fun s inf running below => ?_, fun s => ⟨rfl, fun stopped inf => ?_, fun running => ⟨?_, ?_⟩⟩,
    fun s stopped => ⟨fun clear => ?_, fun set => ?_, ?_⟩⟩
  · have reached : exec (.encCountedEdge inf) s =
        .next (forEach (allUnits 6) triggerAt
          (forEach (allUnits 2) fireAt (sampleInfeed inf (setPitchCounter (s.pitch.counter + 1) s)))) :=
      congrArg Host.Outcome.next (countedEdge_below inf running below)
    rw [sampleInfeed_eq] at reached
    refine ⟨reached, fun gates cameras => reached.trans (congrArg Host.Outcome.next ?_)⟩
    rw [forEach_of_fixed (fun g => fireAt_of_other (gates g)) (allUnits 2)]
    exact forEach_of_fixed (fun n => triggerAt_of_other (cameras n)) (allUnits 6)
  · show Host.Outcome.next (countedEdge inf s) = _
    unfold countedEdge
    rw [stopped]
    rfl
  · show Host.Outcome.next (runRise s) = _
    unfold runRise
    rw [if_pos running]
  · show Host.Outcome.next (strayEdge s) = _
    unfold strayEdge
    rw [if_pos (.inl running)]
  · show Host.Outcome.next (strayEdge s) = _
    unfold strayEdge
    rw [stopped, clear]
    rfl
  · show Host.Outcome.next (strayEdge s) = _
    unfold strayEdge
    rw [if_pos (.inr set)]
  · show Host.Outcome.next (runRise s) = _
    unfold runRise
    rw [stopped]
    rfl

/-! ## Slots written and read again -/

theorem slotAt_putSlot_same (p : Nat) (sl : Slot) (s : State) : (putSlot p sl s).slotAt p = sl := by
  unfold putSlot State.slotAt
  rw [set_get, if_pos rfl]

theorem putSlot_putSlot (p : Nat) (old new : Slot) (s : State) : putSlot p new (putSlot p old s) = putSlot p new s := by
  unfold putSlot
  simp only [Vector.set_set]

/-- A change that keeps the ticket is the slot written back. -/
theorem editSlotAt_eq {f : Slot → Slot} {p : Nat} {s : State} (ticket : (f (s.slotAt p)).ticket = (s.slotAt p).ticket) :
    editSlotAt p f s = putSlot p (f (s.slotAt p)) s := by
  unfold editSlotAt
  rw [← ticket]

/-! ## The boundary at a camera (R36, R39) -/

theorem Slot.join_eq (sl : Slot) (n : CameraId) :
    sl.join n =
      { sl with verdicts :=
          (sl.verdicts.filter fun e => decide (e.camera ≠ n)) ++ [{ camera := n, verdict := .awaited }] } := by
  have others : (fun e : VerdictEntry => e.camera != n) = fun e => decide (e.camera ≠ n) := by
    funext e
    rw [bne, beq_eq_decide, decide_not]
  unfold Slot.join
  rw [others]

theorem Slot.miss_ticket (sl : Slot) (n : CameraId) (required : Bool) : (sl.miss n required).ticket = sl.ticket := by
  unfold Slot.miss
  split <;> rfl

theorem Slot.awaits_join (sl : Slot) (n : CameraId) : (sl.join n).awaits n = true := by
  unfold Slot.awaits Slot.join
  rw [List.any_append]
  simp

theorem unverified_eq : unverified = 0x8000 := by decide

/-- The entry a slot has just gained, made MISSING at once. -/
theorem Slot.miss_join {sl : Slot} {n : CameraId} (occupied : sl.occupancy = .occupied) (required : Bool) :
    (sl.join n).miss n required =
      { sl with
        verdicts := (sl.verdicts.filter fun e => decide (e.camera ≠ n)) ++ [{ camera := n, verdict := .missing }]
        defects := if required = true then sl.defects ||| 0x8000 else sl.defects } := by
  have marked : ¬((sl.join n).occupancy = .removed ∨ (!(sl.join n).awaits n) = true) := by
    rw [Slot.awaits_join]
    rintro (removed | unawaited)
    · rw [show (sl.join n).occupancy = _ from occupied] at removed
      cases removed
    · cases unawaited
  have kept : ∀ e ∈ sl.verdicts.filter (fun e => decide (e.camera ≠ n)),
      (if e.camera = n ∧ e.verdict = .awaited then { e with verdict := .missing } else e) = e := fun e listed => by
    have other : e.camera ≠ n := by simpa using (List.mem_filter.1 listed).2
    exact if_neg fun own => other own.1
  unfold Slot.miss
  rw [if_neg marked, Slot.join_eq]
  unfold Slot.settleEntry
  dsimp only
  rw [List.map_append, List.map_congr_left kept, List.map_id'', List.map_singleton, if_pos ⟨rfl, rfl⟩,
    unverified_eq]
  exact fun _ => rfl

theorem missAt_eq (n : CameraId) (p : Nat) (s : State) :
    missAt n p s = putSlot p ((s.slotAt p).miss n s.cameras[n].cfg.required) s :=
  editSlotAt_eq (Slot.miss_ticket _ n _)

theorem hasOutstanding_eq_false_iff (c : Camera) (t : Half) :
    c.hasOutstanding t = false ↔ ∀ o ∈ c.outstanding, o.ticket ≠ t := by
  unfold Camera.hasOutstanding
  rw [List.any_eq_false]
  exact forall₂_congr fun o _ => by rw [beq_iff_eq]

theorem arriveAt_of_ready {n : CameraId} {s : State}
    (arrived : s.cameras[n].cfg.enabled = true ∧ s.cameras[n].cfg.position < s.track.length
      ∧ (s.slotAt s.cameras[n].cfg.position).occupancy = .occupied) (ready : s.cameras[n].state = .ready) :
    arriveAt n s = putSlot s.cameras[n].cfg.position ((s.slotAt s.cameras[n].cfg.position).join n) s := by
  unfold arriveAt
  dsimp only
  rw [if_pos arrived, if_pos ready]
  exact editSlotAt_eq rfl

theorem arriveAt_of_notReady {n : CameraId} {s : State}
    (arrived : s.cameras[n].cfg.enabled = true ∧ s.cameras[n].cfg.position < s.track.length
      ∧ (s.slotAt s.cameras[n].cfg.position).occupancy = .occupied) (notReady : s.cameras[n].state ≠ .ready) :
    arriveAt n s =
      putSlot s.cameras[n].cfg.position
        (((s.slotAt s.cameras[n].cfg.position).join n).miss n s.cameras[n].cfg.required) s := by
  have joined : editSlotAt s.cameras[n].cfg.position (fun sl => sl.join n) s =
      putSlot s.cameras[n].cfg.position ((s.slotAt s.cameras[n].cfg.position).join n) s := editSlotAt_eq rfl
  unfold arriveAt
  dsimp only
  rw [if_pos arrived, if_neg notReady, joined, missAt_eq, putSlot_putSlot, slotAt_putSlot_same]
  rfl

/-! ## The boundary at a gate (R48, R49) -/

theorem Slot.rejectable_iff (sl : Slot) (mask : ClassSet) :
    sl.rejectable mask = true ↔ sl.occupancy = .occupied ∧ (sl.defects &&& mask ≠ 0 ∨ sl.decision ≠ none) := by
  unfold Slot.rejectable
  rw [Bool.and_eq_true, beq_iff_eq, Bool.or_eq_true, bne_iff_ne, Option.isSome_iff_ne_none]

theorem dropPending_of_pending {g : GateId} {s : State} {t : Half} (pending : s.gates[g].pendingFire = some t)
    (enabled : s.gates[g].cfg.enabled = true) :
    dropPending g s = unconfirm g .notFired t (s.mapGate g fun gt => { gt with pendingFire := none }) := by
  unfold dropPending
  rw [pending]
  dsimp only
  rw [if_pos enabled]

theorem dropPending_of_idle {g : GateId} {s : State} (idle : s.gates[g].pendingFire = none ∨ s.gates[g].cfg.enabled = false) :
    dropPending g s = s := by
  unfold dropPending
  split
  case h_2 => rfl
  case h_1 t pending =>
    obtain none | disabled := idle
    · rw [none] at pending
      cases pending
    · rw [disabled]
      rfl

/-- Settles O20: each stage of the boundary at a camera and at a gate, by whether it finds its slot. -/
theorem arrivalsAreTakenAtTheBoundary : Obligations.ArrivalsAreTakenAtTheBoundary := by
  refine ⟨fun n s => ⟨fun arrived ready => ?_, fun arrived notReady => ?_, fun other => ?_⟩,
    fun n s => ⟨fun passed => ?_, fun other => ?_⟩, fun g s => ⟨fun t pending enabled => ?_, fun idle => ?_, rfl, fun chosen => ?_,
      fun other => ?_⟩⟩
  · rw [arriveAt_of_ready arrived ready, Slot.join_eq]
  · rw [arriveAt_of_notReady arrived notReady, Slot.miss_join arrived.2.2]
  · unfold arriveAt
    exact if_neg other
  · obtain ⟨enabled, onTrack, untriggered⟩ := passed
    unfold neverTriggered
    dsimp only
    rw [if_pos ⟨enabled, onTrack, by rw [(hasOutstanding_eq_false_iff _ _).2 untriggered]; rfl⟩, missAt_eq]
  · unfold neverTriggered
    refine if_neg fun due => other ⟨due.1, due.2.1, (hasOutstanding_eq_false_iff _ _).1 ?_⟩
    simpa using due.2.2
  · exact dropPending_of_pending pending enabled
  · exact dropPending_of_idle idle
  · unfold judgeSlot
    dsimp only
    rw [if_pos ⟨chosen.1, chosen.2.1, (Slot.rejectable_iff _ _).2 chosen.2.2⟩]
    rfl
  · unfold judgeSlot
    exact if_neg fun due => other ⟨due.1, due.2.1, (Slot.rejectable_iff _ _).1 due.2.2⟩

end Sys2Proof.Machine
end


section
/-! Arming, and the slot at fill entry (O21). -/

set_option Elab.async false

namespace Sys2Proof.Machine

/-! ## Tickets and positions (R12, R15) -/

/-- With consecutive tickets, the ticket of a slot names its position. -/
theorem positionOf_slotAt {s : State} (consecutive : ticketsConsecutive s) {p : Nat} (onTrack : p < s.track.length) :
    s.positionOf (s.slotAt p).ticket = some p := by
  obtain ⟨-, most, tickets⟩ := consecutive
  refine List.find?_eq_some_iff_getElem.2 ⟨beq_self_eq_true _, p, ?_, List.getElem_range _, fun q before => ?_⟩
  · rwa [List.length_range]
  · rw [List.getElem_range, Bool.not_eq_true', beq_eq_false_iff_ne, tickets p onTrack, tickets q (by omega)]
    intro same
    have numbers := congrArg BitVec.toNat ((BitVec.sub_right_inj _).1 same)
    rw [BitVec.toNat_ofNat, BitVec.toNat_ofNat] at numbers
    omega

/-- The first unit of all for which a property holds. -/
theorem find_allUnits_eq_some {n : Nat} {p : Fin n → Bool} {u : Fin n} (holds : p u = true)
    (first : ∀ v : Fin n, v < u → p v = false) : (allUnits n).find? p = some u := by
  refine List.find?_eq_some_iff_getElem.2 ⟨holds, u.val, ?_, ?_, fun j before => ?_⟩
  · rw [allUnits, List.length_finRange]
    exact u.isLt
  · simp [allUnits]
  · rw [Bool.not_eq_true']
    refine first _ (Fin.lt_def.2 ?_)
    simpa [allUnits] using before

theorem find_allUnits_eq_none {n : Nat} {p : Fin n → Bool} (never : ∀ u : Fin n, p u = false) :
    (allUnits n).find? p = none := List.find?_eq_none.2 fun u _ => by rw [never u]; exact Bool.false_ne_true

/-! ## The assignment (R17, R73) -/

/-- An assignment of the slot at a position of the track: the dose, the job, the slot and FILL_START. -/
theorem assign_eq {s : State} {p : Nat} (r : RobotId) (at_ : s.positionOf (s.slotAt p).ticket = some p) :
    assign r (s.slotAt p).ticket s =
      raiseCommand r (.fillStart (s.slotAt p).ticket)
        (putSlot p { s.slotAt p with fill := .pending, robot := some r, volume := none }
          { s with
            doses := s.doses.set r s.doses[r].activateStaged
            robots := s.robots.set r
              { s.robots[r] with
                job := some
                  { ticket := (s.slotAt p).ticket, state := .approach, opened := false
                    recipe := s.doses[r].activateStaged.active.getD Recipe.blank, close := none
                    settleTimer := 0, noFlowTimer := 0 } } }) := by
  have dose : (s.mapDose r Dose.activateStaged).doses[r] = s.doses[r].activateStaged := by
    rw [mapDose_get, if_pos rfl]
  unfold assign
  dsimp only
  rw [dose]
  refine congrArg (raiseCommand r _) ?_
  exact editSlot_of_positionOf _ at_

/-- Settles O21: arming by its condition, and the slot at fill entry by the robots that are available. -/
theorem fillEntryAssignsOrSkips : Obligations.FillEntryAssignsOrSkips := by
  refine ⟨fun r s => ⟨fun mode closed => ?_, fun other => ?_⟩, fun s consecutive onTrack =>
    ⟨fun occupied undecided => ⟨fun r recipe free lower => ?_, fun taken => ?_⟩, fun other => ?_⟩⟩
  · unfold armRobot
    exact if_pos ⟨mode, closed⟩
  · unfold armRobot
    refine if_neg fun due => ?_
    obtain off | unclosed := other
    · exact off due.1
    · exact unclosed due.2
  · have assigned : assignEntry s = assign r (s.slotAt s.fill.entry).ticket s := by
      unfold assignEntry
      dsimp only
      rw [if_pos ⟨occupied, undecided⟩, find_allUnits_eq_some free lower]
    rw [assigned, assign_eq r (positionOf_slotAt consecutive onTrack)]
    refine ⟨fun unstaged active => ?_, fun old staged active => ?_, fun staged inactive => ?_⟩
    · have same : s.doses[r].activateStaged = s.doses[r] := by unfold Dose.activateStaged; rw [unstaged]
      rw [same, active]
      rfl
    · have changed : s.doses[r].activateStaged =
          { s.doses[r] with
            active := some recipe, staged := none
            estimate :=
              if old.target = recipe.target ∧ old.kFactor = recipe.kFactor then
                min s.doses[r].estimate (16 * recipe.afterflowMax)
              else 16 * recipe.initial } := by
        unfold Dose.activateStaged Dose.activate
        rw [staged, active]
        rfl
      rw [changed]
      rfl
    · have changed : s.doses[r].activateStaged =
          { s.doses[r] with active := some recipe, staged := none, estimate := 16 * recipe.initial } := by
        unfold Dose.activateStaged Dose.activate
        rw [staged, inactive]
        rfl
      rw [changed]
      rfl
  · have inRing : s.fill.entry < 128 := Nat.lt_of_lt_of_le onTrack consecutive.2.1
    have skipped : assignEntry s =
        (putSlot s.fill.entry
          { s.slotAt s.fill.entry with
            fill := .skipped, robot := none, volume := none
            defects := (s.slotAt s.fill.entry).defects ||| fillFault } s).mapTallies
          fun t => { t with fillsSkipped := countUpTo maxLong t.fillsSkipped } := by
      unfold assignEntry
      dsimp only
      rw [if_pos ⟨occupied, undecided⟩, find_allUnits_eq_none taken,
        editSlot_of_positionOf _ (positionOf_slotAt consecutive onTrack)]
      rfl
    have slots (q : Nat) (p : Nat) (sl : Slot) (f : Tallies → Tallies) :
        ((putSlot p sl s).mapTallies f).slotAt q = (putSlot p sl s).slotAt q := rfl
    refine ⟨_, skipped, ?_, fun q small other => ?_, rfl, rfl, rfl, rfl, fun part other => ?_⟩
    · rw [slots, slotAt_putSlot_same]
      rfl
    · rw [slots, slotAt_putSlot _ _ _ _ inRing small, if_neg other]
    · cases part
      case track => simp at other
      all_goals rfl
  · unfold assignEntry
    refine if_neg fun due => ?_
    obtain empty | decided := other
    · exact empty due.1
    · exact decided due.2

end Sys2Proof.Machine
end


section
/-! The pitch boundary (O19): what stays of the track and of the settings while cameras, gates and filler act on it. -/

set_option Elab.async false

namespace Sys2Proof.Machine

/-! ## What acting on the arrivals leaves of the track -/

/-- The track without what its slots carry: ticket and occupancy of every slot, and the tallies of created slots and of
confirmed rejects. -/
structure TrackShape where
  head : Fin 128
  nextTicket : Half
  length : Nat
  tickets : Nat → Half
  occupancies : Nat → Occupancy
  created : Nat
  createdOccupied : Nat
  rejectedConfirmed : Nat

def State.shape (s : State) : TrackShape :=
  { head := s.track.head, nextTicket := s.track.nextTicket, length := s.track.length
    tickets := fun q => (s.slotAt q).ticket, occupancies := fun q => (s.slotAt q).occupancy
    created := s.track.tallies.created, createdOccupied := s.track.tallies.createdOccupied
    rejectedConfirmed := s.track.tallies.rejectedConfirmed }

theorem shape_of_track {s t : State} (track : t.track = s.track) : t.shape = s.shape := by
  simp only [State.shape, State.slotAt, track]

@[simp] theorem forEach_shape {α : Type} (us : List α) (act : α → State → State) (s : State)
    (each : ∀ u t, (act u t).shape = t.shape) : (forEach us act s).shape = s.shape := forEach_keeps State.shape us act each s

@[simp] theorem raiseEvent_shape (kind : EventKind) (unit : Nat) (detail1 detail2 : Half) (s : State) :
    (raiseEvent kind unit detail1 detail2 s).shape = s.shape := shape_of_track (by simp)

@[simp] theorem mapCamera_shape (n : CameraId) (f : Camera → Camera) (s : State) : (s.mapCamera n f).shape = s.shape := rfl

@[simp] theorem mapGate_shape (g : GateId) (f : Gate → Gate) (s : State) : (s.mapGate g f).shape = s.shape := rfl

@[simp] theorem mapRobot_shape (r : RobotId) (f : Robot → Robot) (s : State) : (s.mapRobot r f).shape = s.shape := rfl

@[simp] theorem mapDose_shape (r : RobotId) (f : Dose → Dose) (s : State) : (s.mapDose r f).shape = s.shape := rfl

@[simp] theorem countOn_shape (i : CounterId) (s : State) : (countOn i s).shape = s.shape :=
  shape_of_track (by simp [countOn_frame])

@[simp] theorem raiseCommand_shape (r : RobotId) (c : BusCommand) (s : State) : (raiseCommand r c s).shape = s.shape :=
  shape_of_track (by simp [raiseCommand_frame])

theorem putSlot_shape {p : Nat} {sl : Slot} {s : State} (ticket : sl.ticket = (s.slotAt p).ticket)
    (occupancy : sl.occupancy = (s.slotAt p).occupancy) : (putSlot p sl s).shape = s.shape := by
  have occupancies (q : Nat) : ((putSlot p sl s).slotAt q).occupancy = (s.slotAt q).occupancy := by
    unfold putSlot State.slotAt at *
    by_cases same : ringIndex s.track.head q = ringIndex s.track.head p
    · simp only [set_get, same, if_true, occupancy]
    · simp only [set_get, same, if_false]
  unfold State.shape
  simp only [ticket_putSlot p _ sl s ticket, occupancies]
  rfl

theorem editSlotAt_shape {p : Nat} {f : Slot → Slot} {s : State} (occupancy : ∀ sl, (f sl).occupancy = sl.occupancy) :
    (editSlotAt p f s).shape = s.shape := putSlot_shape rfl (occupancy _)

theorem editSlot_shape {k : Half} {f : Slot → Slot} {s : State} (occupancy : ∀ sl, (f sl).occupancy = sl.occupancy) :
    (editSlot k f s).shape = s.shape := by
  unfold editSlot
  split
  · exact editSlotAt_shape occupancy
  · rfl

theorem mapTallies_shape {f : Tallies → Tallies} {s : State}
    (same : ∀ t, (f t).created = t.created ∧ (f t).createdOccupied = t.createdOccupied
      ∧ (f t).rejectedConfirmed = t.rejectedConfirmed) : (s.mapTallies f).shape = s.shape := by
  obtain ⟨created, occupied, confirmed⟩ := same s.track.tallies
  unfold State.shape State.mapTallies
  simp only [created, occupied, confirmed]
  rfl

theorem settle_parts_shape {s t : State} (judged : Judged s t) : t.shape = s.shape :=
  shape_of_track (judged.frame .track (by decide))

@[simp] theorem judgeGrants_shape (s : State) : (judgeGrants s).shape = s.shape := settle_parts_shape (judgeGrants_judged s)

@[simp] theorem judgeReleases_shape (s : State) : (judgeReleases s).shape = s.shape :=
  settle_parts_shape (judgeReleases_judged s)

/-! ### Discharge -/

@[simp] theorem unconfirm_shape (g : GateId) (why : UnconfirmedReason) (k : Half) (s : State) :
    (unconfirm g why k s).shape = s.shape := by
  have edited : (editSlot k (fun sl => { sl with reject := .unconfirmed }) s).shape = s.shape := editSlot_shape fun _ => rfl
  have counted (u : State) : (countUnconfirmed g k u).shape = u.shape := by
    unfold countUnconfirmed
    dsimp only
    split
    · exact raiseEvent_shape _ _ _ _ _
    · rfl
  unfold unconfirm
  dsimp only
  split
  · rw [counted, raiseEvent_shape, edited]
  · rw [raiseEvent_shape, edited]

theorem judgeLeaving_shape (sl : Slot) (s : State) : (judgeLeaving sl s).shape = s.shape := by
  unfold judgeLeaving
  split
  · rw [mapTallies_shape]
    · exact raiseEvent_shape _ _ _ _ s
    · exact fun _ => ⟨rfl, rfl, rfl⟩
  · exact mapTallies_shape fun _ => ⟨rfl, rfl, rfl⟩
  · rfl
  · rfl

@[simp] theorem discharge_shape (p : Nat) (s : State) : (discharge p s).shape = s.shape := by
  have expired (k : Half) (g : GateId) (u : State) : (expireDischarged k g u).shape = u.shape := by
    unfold expireDischarged
    split
    · simp
    · rfl
  unfold discharge
  dsimp only
  rw [judgeLeaving_shape, forEach_shape _ _ _ (expired _)]
  exact forEach_shape _ _ _ fun n u => mapCamera_shape n _ u

/-! ### Cameras and gates -/

theorem Slot.miss_occupancy (sl : Slot) (n : CameraId) (required : Bool) :
    (sl.miss n required).occupancy = sl.occupancy := by
  unfold Slot.miss
  split <;> rfl

@[simp] theorem missAt_shape (n : CameraId) (p : Nat) (s : State) : (missAt n p s).shape = s.shape :=
  editSlotAt_shape fun sl => sl.miss_occupancy n _

@[simp] theorem neverTriggered_shape (n : CameraId) (s : State) : (neverTriggered n s).shape = s.shape := by
  unfold neverTriggered
  dsimp only
  split
  · simp
  · rfl

@[simp] theorem deadlineCheck_shape (n : CameraId) (s : State) : (deadlineCheck n s).shape = s.shape := by
  have each (p : Nat) (u : State) : (deadlineAt n p u).shape = u.shape := by
    unfold deadlineAt
    split
    · simp
    · rfl
  unfold deadlineCheck
  dsimp only
  split
  · exact forEach_shape _ _ _ each
  · rfl

@[simp] theorem arriveAt_shape (n : CameraId) (s : State) : (arriveAt n s).shape = s.shape := by
  have joined (p : Nat) (u : State) : (editSlotAt p (fun sl => sl.join n) u).shape = u.shape := editSlotAt_shape fun _ => rfl
  unfold arriveAt
  dsimp only
  split
  · split
    · exact joined _ s
    · rw [missAt_shape, joined]
  · rfl

@[simp] theorem dropPending_shape (g : GateId) (s : State) : (dropPending g s).shape = s.shape := by
  unfold dropPending
  split
  · split
    · simp
    · rfl
  · rfl

@[simp] theorem expireConfirm_shape (g : GateId) (s : State) : (expireConfirm g s).shape = s.shape := by
  unfold expireConfirm
  simp

@[simp] theorem judgeSlot_shape (g : GateId) (s : State) : (judgeSlot g s).shape = s.shape := by
  unfold judgeSlot
  dsimp only
  split
  · rw [mapGate_shape]
    exact editSlotAt_shape fun _ => rfl
  · rfl

@[simp] theorem fireAt_shape (g : GateId) (s : State) : (fireAt g s).shape = s.shape := by
  unfold fireAt
  dsimp only
  split
  · split
    · rw [countOn_shape, mapGate_shape]
      exact editSlot_shape fun _ => rfl
    · rfl
  · rfl

@[simp] theorem triggerAt_shape (n : CameraId) (s : State) : (triggerAt n s).shape = s.shape := by
  unfold triggerAt pulseTrigger
  dsimp only
  split_ifs <;> simp

/-! ### The filler -/

theorem failJob_shape (r : RobotId) (outcome : FillOutcome) (ending : Ending) (s : State) :
    (failJob r outcome ending s).shape = s.shape := by
  have written (k : Half) (v : Option Nat) (u : State) : (editSlot k (writeFailure outcome v) u).shape = u.shape :=
    editSlot_shape fun _ => rfl
  unfold failJob dropJob recordFill
  split
  · rfl
  · dsimp only
    split_ifs <;> simp [written]

theorem reportJob_shape (r : RobotId) (cut : Bool) (s : State) : (reportJob r cut s).shape = s.shape := by
  have written (k : Half) (c : FillClass) (v : Nat) (u : State) : (editSlot k (writeReport c v cut) u).shape = u.shape :=
    editSlot_shape fun _ => rfl
  have learned (recipe : Recipe) (a : Nat) (u : State) : (learn r recipe a u).shape = u.shape := by
    unfold learn
    dsimp only
    split
    · simp
    · rfl
  unfold reportJob dropJob recordFill
  split
  · rfl
  · dsimp only
    split_ifs <;> simp [written, learned]

@[simp] theorem exitLimit_shape (r : RobotId) (s : State) : (exitLimit r s).shape = s.shape := by
  unfold exitLimit
  split
  · split
    · split
      · exact reportJob_shape r true s
      · exact failJob_shape r _ _ s
    · rfl
  · rfl

@[simp] theorem approachLimit_shape (r : RobotId) (s : State) : (approachLimit r s).shape = s.shape := by
  unfold approachLimit
  split
  · split
    · exact failJob_shape r _ _ s
    · rfl
  · rfl

@[simp] theorem armRobot_shape (r : RobotId) (s : State) : (armRobot r s).shape = s.shape :=
  shape_of_track (by simp [armRobot_frame])

@[simp] theorem assignEntry_shape (s : State) : (assignEntry s).shape = s.shape := by
  unfold assignEntry assign
  dsimp only
  split
  · split
    · rw [raiseCommand_shape]
      exact editSlot_shape fun _ => rfl
    · rw [mapTallies_shape]
      · exact editSlot_shape fun _ => rfl
      · exact fun _ => ⟨rfl, rfl, rfl⟩
  · rfl

/-! ## What acting on the arrivals leaves of the settings -/

/-- The active and staged settings of every camera and gate. -/
structure Settings where
  cameras : CameraId → CameraSettings × CameraStaged
  gates : GateId → GateSettings × GateStaged

def State.settings (s : State) : Settings :=
  { cameras := fun n => (s.cameras[n].cfg, s.cameras[n].staged), gates := fun g => (s.gates[g].cfg, s.gates[g].staged) }

theorem settings_of_units {s t : State} (cameras : t.cameras = s.cameras) (gates : t.gates = s.gates) :
    t.settings = s.settings := by
  unfold State.settings
  rw [cameras, gates]

@[simp] theorem forEach_settings {α : Type} (us : List α) (act : α → State → State) (s : State)
    (each : ∀ u t, (act u t).settings = t.settings) : (forEach us act s).settings = s.settings :=
  forEach_keeps State.settings us act each s

theorem mapCamera_settings {n : CameraId} {f : Camera → Camera} (s : State) (cfg : ∀ c, (f c).cfg = c.cfg)
    (staged : ∀ c, (f c).staged = c.staged) : (s.mapCamera n f).settings = s.settings := by
  have each (k : CameraId) : ((s.mapCamera n f).cameras[k].cfg, (s.mapCamera n f).cameras[k].staged)
      = (s.cameras[k].cfg, s.cameras[k].staged) := by
    rw [mapCamera_get]
    split
    case isTrue same => rw [cfg, staged, same]
    case isFalse => rfl
  unfold State.settings
  simp only [each]
  rfl

theorem mapGate_settings {g : GateId} {f : Gate → Gate} (s : State) (cfg : ∀ c, (f c).cfg = c.cfg)
    (staged : ∀ c, (f c).staged = c.staged) : (s.mapGate g f).settings = s.settings := by
  have each (k : GateId) : ((s.mapGate g f).gates[k].cfg, (s.mapGate g f).gates[k].staged)
      = (s.gates[k].cfg, s.gates[k].staged) := by
    rw [mapGate_get]
    split
    case isTrue same => rw [cfg, staged, same]
    case isFalse => rfl
  unfold State.settings
  simp only [each]
  rfl

theorem countOn_settings (i : CounterId) (s : State) : (countOn i s).settings = s.settings :=
  settings_of_units (by simp [countOn_frame]) (by simp [countOn_frame])

theorem unconfirm_settings (g : GateId) (why : UnconfirmedReason) (k : Half) (s : State) :
    (unconfirm g why k s).settings = s.settings := by
  have marked (u : State) : (raiseEvent .rejectUnconfirmed g.val k (detail why.code)
      (editSlot k (fun sl => { sl with reject := .unconfirmed }) u)).settings = u.settings :=
    settings_of_units (by simp [editSlot_frame]) (by simp [editSlot_frame])
  have counted (u : State) : (countUnconfirmed g k u).settings = u.settings := by
    unfold countUnconfirmed
    dsimp only
    have one := mapGate_settings (g := g) (f := fun gt => { gt with unconfirmed := countUpTo 255 u.gates[g].unconfirmed }) u
      (fun _ => rfl) (fun _ => rfl)
    split
    · refine Eq.trans ?_ one
      refine Eq.trans (settings_of_units (by simp) (by simp)) (mapGate_settings (g := g) (f := fun gt => { gt with latch := true })
        _ (fun _ => rfl) (fun _ => rfl))
    · exact one
  unfold unconfirm
  dsimp only
  split
  · exact (counted _).trans (marked s)
  · exact marked s

theorem discharge_settings (p : Nat) (s : State) : (discharge p s).settings = s.settings := by
  have retired (k : Half) (u : State) : (retireAll k u).settings = u.settings :=
    forEach_settings _ _ _ fun n v => mapCamera_settings v (fun _ => rfl) (fun _ => rfl)
  have expired (k : Half) (g : GateId) (u : State) : (expireDischarged k g u).settings = u.settings := by
    unfold expireDischarged
    split
    · exact (unconfirm_settings ..).trans (mapGate_settings u (fun _ => rfl) (fun _ => rfl))
    · rfl
  have judged (sl : Slot) (u : State) : (judgeLeaving sl u).settings = u.settings :=
    settings_of_units (judgeLeaving_frame sl u).2.2.1 (judgeLeaving_frame sl u).2.2.2.1
  unfold discharge
  dsimp only
  rw [judged, forEach_settings _ _ _ (expired _), retired]

theorem camerasAtBoundary_settings (s : State) : (camerasAtBoundary s).settings = s.settings := by
  have missed (n : CameraId) (p : Nat) (u : State) : (missAt n p u).settings = u.settings :=
    settings_of_units (by simp [missAt_frame]) (by simp [missAt_frame])
  have passed (n : CameraId) (u : State) : (neverTriggered n u).settings = u.settings :=
    settings_of_units (by simp [neverTriggered_frame]) (by simp [neverTriggered_frame])
  have arrived (n : CameraId) (u : State) : (arriveAt n u).settings = u.settings :=
    settings_of_units (by simp [arriveAt_frame]) (by simp [arriveAt_frame])
  have due (n : CameraId) (p : Nat) (u : State) : (deadlineAt n p u).settings = u.settings := by
    unfold deadlineAt
    split
    · rw [mapCamera_settings]
      · exact missed n p u
      · exact fun _ => rfl
      · exact fun _ => rfl
    · rfl
  have checked (n : CameraId) (u : State) : (deadlineCheck n u).settings = u.settings := by
    unfold deadlineCheck
    dsimp only
    split
    · exact forEach_settings _ _ _ (due n)
    · rfl
  unfold camerasAtBoundary
  rw [forEach_settings _ _ _ arrived, forEach_settings _ _ _ checked, forEach_settings _ _ _ passed]

theorem gatesAtBoundary_settings (s : State) : (gatesAtBoundary s).settings = s.settings := by
  have dropped (g : GateId) (u : State) : (dropPending g u).settings = u.settings := by
    unfold dropPending
    split
    · split
      · exact (unconfirm_settings ..).trans (mapGate_settings u (fun _ => rfl) (fun _ => rfl))
      · rfl
    · rfl
  have aged (g : GateId) (u : State) : (ageConfirm g u).settings = u.settings := by
    unfold ageConfirm
    rw [mapGate_settings]
    · exact fun _ => rfl
    · exact fun _ => rfl
  have expired (g : GateId) (u : State) : (expireConfirm g u).settings = u.settings := by
    unfold expireConfirm
    dsimp only
    refine (forEach_settings _ (fun (e : ConfirmEntry) v => unconfirm g .window e.ticket v) _
      fun e v => unconfirm_settings g .window e.ticket v).trans ?_
    rw [mapGate_settings]
    · exact fun _ => rfl
    · exact fun _ => rfl
  have judged (g : GateId) (u : State) : (judgeSlot g u).settings = u.settings := by
    unfold judgeSlot
    dsimp only
    split
    · rw [mapGate_settings]
      · exact settings_of_units rfl rfl
      · exact fun _ => rfl
      · exact fun _ => rfl
    · rfl
  unfold gatesAtBoundary
  dsimp only
  rw [forEach_settings _ _ _ judged, forEach_settings _ _ _ expired, forEach_settings _ _ _ aged,
    forEach_settings _ _ _ dropped]

theorem reachPhase_settings (inf : Bool) (s : State) : (reachPhase inf s).settings = s.settings := by
  have fired (g : GateId) (u : State) : (fireAt g u).settings = u.settings := by
    unfold fireAt
    dsimp only
    split
    · split
      · rw [countOn_settings, mapGate_settings]
        · exact settings_of_units (by simp [editSlot_frame]) (by simp [editSlot_frame])
        · exact fun _ => rfl
        · exact fun _ => rfl
      · rfl
    · rfl
  have missed (n : CameraId) (p : Nat) (u : State) : (missAt n p u).settings = u.settings :=
    settings_of_units (by simp [missAt_frame]) (by simp [missAt_frame])
  have pulsed (n : CameraId) (k : Half) (u : State) : (pulseTrigger n k u).settings = u.settings := by
    unfold pulseTrigger
    rw [countOn_settings, mapCamera_settings]
    · exact fun _ => rfl
    · exact fun _ => rfl
  have told (n : CameraId) (unit : Nat) (detail1 detail2 : Half) (u : State) :
      (raiseEvent .triggerOverrun unit detail1 detail2 u).settings = u.settings := settings_of_units (by simp) (by simp)
  have triggered (n : CameraId) (u : State) : (triggerAt n u).settings = u.settings := by
    unfold triggerAt
    dsimp only
    split_ifs
    · exact missed n _ u
    · rfl
    · exact pulsed n _ u
    · exact (told n _ _ _ _).trans (missed n _ u)
    · rfl
  unfold reachPhase
  rw [forEach_settings _ _ _ triggered, forEach_settings _ _ _ fired]
  exact settings_of_units (by simp [sampleInfeed_frame]) (by simp [sampleInfeed_frame])

end Sys2Proof.Machine
end


section
/-! The pitch boundary (O19), continued: the staged values, the advance, and the edge that makes the boundary. -/

set_option Elab.async false

namespace Sys2Proof.Machine

/-! ## Acting on every unit in turn -/

/-- What a unit's record becomes when every unit of a list is acted on once, each act changing its own unit's record alone:
the listed units' records are changed, the others kept. -/
theorem forEach_own {n : Nat} {β : Type} (P : State → Prop) (π : State → Fin n → β) {act : Fin n → State → State}
    {f : Fin n → β → β} (keeps : ∀ u s, P s → P (act u s)) (own : ∀ u s, P s → π (act u s) u = f u (π s u))
    (others : ∀ u v s, P s → v ≠ u → π (act u s) v = π s v) {us : List (Fin n)} (once : us.Nodup) {s : State} (start : P s)
    (v : Fin n) : π (forEach us act s) v = if v ∈ us then f v (π s v) else π s v := by
  induction us generalizing s with
  | nil => rfl
  | cons u us ih =>
    obtain ⟨fresh, rest⟩ := List.nodup_cons.1 once
    rw [forEach_cons, ih rest (keeps u s start)]
    by_cases same : v = u
    · rw [same, if_neg fresh, own u s start, if_pos List.mem_cons_self]
    · rw [others u v s start same]
      simp only [List.mem_cons, same, false_or]

theorem allUnits_nodup (n : Nat) : (allUnits n).Nodup := List.nodup_finRange n

theorem forEach_mapCamera (f : Camera → Camera) (s : State) (n : CameraId) :
    (forEach (allUnits 6) (fun n t => t.mapCamera n f) s).cameras[n] = f s.cameras[n] := by
  have each := forEach_own (fun _ => True) (fun t (n : CameraId) => t.cameras[n]) (act := fun n t => t.mapCamera n f)
    (f := fun _ => f) (fun _ _ _ => trivial) (fun u t _ => by rw [mapCamera_get, if_pos rfl])
    (fun u v t _ other => by rw [mapCamera_get, if_neg other]) (allUnits_nodup 6) (s := s) trivial n
  rwa [if_pos (mem_allUnits n)] at each

theorem forEach_mapGate (f : Gate → Gate) (s : State) (g : GateId) :
    (forEach (allUnits 2) (fun g t => t.mapGate g f) s).gates[g] = f s.gates[g] := by
  have each := forEach_own (fun _ => True) (fun t (g : GateId) => t.gates[g]) (act := fun g t => t.mapGate g f)
    (f := fun _ => f) (fun _ _ _ => trivial) (fun u t _ => by rw [mapGate_get, if_pos rfl])
    (fun u v t _ other => by rw [mapGate_get, if_neg other]) (allUnits_nodup 2) (s := s) trivial g
  rwa [if_pos (mem_allUnits g)] at each

/-! ## The staged values (R7) -/

theorem activateStaged_camera (s : State) (n : CameraId) :
    (activateStaged s).cameras[n] = s.cameras[n].activateStaged := by
  have gates : (activateStaged s).cameras =
      (forEach (allUnits 6) (fun n t => t.mapCamera n Camera.activateStaged) s).cameras :=
    forEach_cameras _ _ _ fun g t => rfl
  rw [gates, forEach_mapCamera]

theorem activateStaged_gate (s : State) (g : GateId) : (activateStaged s).gates[g] = s.gates[g].activateStaged := by
  have cameras : (forEach (allUnits 6) (fun n t => t.mapCamera n Camera.activateStaged) s).gates = s.gates :=
    forEach_gates _ _ _ fun n t => rfl
  unfold activateStaged
  rw [forEach_mapGate, cameras]

/-! ## The edge that completes a pitch (R1, R13) -/

theorem countedEdge_last {s : State} (inf : Bool) (running : s.pins.run = true)
    (last : s.pitch.counter + 1 = s.pitch.length) :
    countedEdge inf s = reachPhase inf (boundary (setPitchCounter 0 s)) := by
  unfold countedEdge
  dsimp only
  rw [if_pos running, if_neg (Nat.not_lt.2 (Nat.le_of_eq last.symm))]

theorem advance_pitch (s : State) : (advance s).pitch = { s.pitch with infeed := false } := by
  have kept : (discharge (s.track.length - 1) s).pitch = s.pitch := by simp [discharge_frame]
  unfold advance createSlot
  dsimp only
  rw [kept]

theorem boundary_pitch (s : State) : (boundary s).pitch = { s.pitch with infeed := false } := by
  have active : (activateStaged s).pitch = s.pitch := by simp [activateStaged_frame]
  have kept : (boundary s).pitch = (advance (activateStaged s)).pitch := by
    unfold boundary
    simp [fillerAtBoundary_frame, gatesAtBoundary_frame, camerasAtBoundary_frame]
  rw [kept, advance_pitch, active]

theorem boundary_shape (s : State) : (boundary s).shape = (advance (activateStaged s)).shape := by
  unfold boundary fillerAtBoundary gatesAtBoundary camerasAtBoundary
  have aged (g : GateId) (u : State) : (ageConfirm g u).shape = u.shape := rfl
  simp [aged]

theorem boundary_settings (s : State) : (boundary s).settings = (activateStaged s).settings := by
  have filled (u : State) : (fillerAtBoundary u).settings = u.settings :=
    settings_of_units (by simp [fillerAtBoundary_frame]) (by simp [fillerAtBoundary_frame])
  have created (u : State) : (createSlot u).settings = u.settings := rfl
  unfold boundary advance
  rw [filled, gatesAtBoundary_settings, camerasAtBoundary_settings, created, discharge_settings]

theorem reachPhase_shape (inf : Bool) (s : State) : (reachPhase inf s).shape = s.shape := by
  have sampled : (sampleInfeed inf s).shape = s.shape := shape_of_track (by simp [sampleInfeed_frame])
  unfold reachPhase
  simp [sampled]

theorem reachPhase_pitch (inf : Bool) (s : State) : (reachPhase inf s).pitch = (sampleInfeed inf s).pitch := by
  unfold reachPhase
  simp [triggerAt_frame, fireAt_frame]

/-- At the boundary the flag starts the new pitch from the sample at phase 0 (R14). -/
theorem sampleInfeed_at_zero {inf : Bool} {s : State} (counter : s.pitch.counter = 0) (cleared : s.pitch.infeed = false) :
    sampleInfeed inf s = { s with pitch := { s.pitch with infeed := inf && decide (s.pitch.windowStart = 0) } } := by
  have opens : decide (s.pitch.windowStart ≤ 0) = decide (s.pitch.windowStart = 0) := by simp only [Nat.le_zero]
  rw [sampleInfeed_eq, counter, cleared, opens, decide_eq_true (Nat.zero_le _), Bool.and_true, Bool.false_or]

/-- The slot at position 0 after the advance, and the tallies of what was made (R13, R16). -/
theorem createSlot_shape (s : State) :
    (createSlot s).shape.nextTicket = s.shape.nextTicket + 1 ∧ (createSlot s).shape.length = s.shape.length
      ∧ (createSlot s).shape.tickets 0 = s.shape.nextTicket
      ∧ (createSlot s).shape.occupancies 0 = (if s.pitch.infeed = true then .occupied else .empty)
      ∧ (createSlot s).shape.created = min (s.shape.created + 1) maxLong
      ∧ (createSlot s).shape.createdOccupied =
        (if s.pitch.infeed = true then min (s.shape.createdOccupied + 1) maxLong else s.shape.createdOccupied)
      ∧ (createSlot s).shape.rejectedConfirmed = s.shape.rejectedConfirmed := by
  refine ⟨rfl, rfl, ?_, ?_, rfl, rfl, rfl⟩
  · exact congrArg Slot.ticket (createSlot_slotAt_zero s)
  · exact congrArg Slot.occupancy (createSlot_slotAt_zero s)

/-- Settles O19: the boundary by its stages, the track and the settings by what the later stages leave of them. -/
theorem boundaryAdvancesTheTrack : Obligations.BoundaryAdvancesTheTrack := by
  intro s inf running last onRing advanced seen judged left late served
  have stages : boundary (setPitchCounter 0 s) = served := rfl
  have edge : exec (.encCountedEdge inf) s = .next (reachPhase inf (boundary (setPitchCounter 0 s))) :=
    congrArg Host.Outcome.next (countedEdge_last inf running last)
  refine ⟨_, edge, ?stages, ?_⟩
  case stages =>
    have pitch := boundary_pitch (setPitchCounter 0 s)
    have counter : (boundary (setPitchCounter 0 s)).pitch.counter = 0 := by rw [pitch]; rfl
    have cleared : (boundary (setPitchCounter 0 s)).pitch.infeed = false := by rw [pitch]
    have window : (boundary (setPitchCounter 0 s)).pitch.windowStart = s.pitch.windowStart := by rw [pitch]; rfl
    unfold reachPhase
    rw [sampleInfeed_at_zero counter cleared, window, stages]
  clear stages
  have pitch : (reachPhase inf (boundary (setPitchCounter 0 s))).pitch =
      { s.pitch with counter := 0, infeed := inf && decide (s.pitch.windowStart = 0) } := by
    have before := boundary_pitch (setPitchCounter 0 s)
    rw [reachPhase_pitch, sampleInfeed_at_zero (by rw [before]; rfl) (by rw [before]), before]
    rfl
  have frame : keepsBut [.pitch, .track, .cameras, .gates, .stops, .robots, .doses, .bus, .groups, .access, .counters, .events]
      s (reachPhase inf (boundary (setPitchCounter 0 s))) := by
    have kept := countedEdge_frame inf s
    rw [countedEdge_last inf running last] at kept
    intro part other
    cases part <;> simp [Part.same, kept] at other ⊢
  have shape : (reachPhase inf (boundary (setPitchCounter 0 s))).shape =
      (createSlot (discharge (s.track.length - 1) (activateStaged (setPitchCounter 0 s)))).shape := by
    have length : (activateStaged (setPitchCounter 0 s)).track = s.track := by simp [activateStaged_frame]
    rw [reachPhase_shape, boundary_shape]
    unfold advance
    rw [length]
  have before : (discharge (s.track.length - 1) (activateStaged (setPitchCounter 0 s))).shape = s.shape := by
    rw [discharge_shape]
    exact shape_of_track (by simp [activateStaged_frame])
  have flag : (discharge (s.track.length - 1) (activateStaged (setPitchCounter 0 s))).pitch.infeed = s.pitch.infeed := by
    simp [discharge_frame, activateStaged_frame, setPitchCounter]
  have settings : (reachPhase inf (boundary (setPitchCounter 0 s))).settings = (activateStaged (setPitchCounter 0 s)).settings :=
    (reachPhase_settings inf _).trans (boundary_settings _)
  generalize reachPhase inf (boundary (setPitchCounter 0 s)) = t at *
  generalize discharge (s.track.length - 1) (activateStaged (setPitchCounter 0 s)) = d at *
  have made := createSlot_shape d
  rw [← shape, before, flag] at made
  obtain ⟨next, length, ticket, occupancy, created, createdOccupied, confirmed⟩ := made
  refine ⟨pitch, next, length, ticket, occupancy, fun p onTrack => ?_, created, createdOccupied, confirmed, fun n => ?_,
    fun g => ?_, frame⟩
  · have moved := createSlot_slotAt_succ (Nat.lt_of_lt_of_le onTrack onRing) d
    have tickets := congrFun (congrArg TrackShape.tickets shape) (p + 1)
    have occupancies := congrFun (congrArg TrackShape.occupancies shape) (p + 1)
    have ticketBefore := congrFun (congrArg TrackShape.tickets before) p
    have occupancyBefore := congrFun (congrArg TrackShape.occupancies before) p
    exact ⟨tickets.trans ((congrArg Slot.ticket moved).trans ticketBefore),
      occupancies.trans ((congrArg Slot.occupancy moved).trans occupancyBefore)⟩
  · have unit : (t.cameras[n].cfg, t.cameras[n].staged) =
        (s.cameras[n].activateStaged.cfg, s.cameras[n].activateStaged.staged) := by
      have both := congrFun (congrArg Settings.cameras settings) n
      have active := activateStaged_camera (setPitchCounter 0 s) n
      exact both.trans (by simp only [State.settings, active]; rfl)
    exact ⟨congrArg Prod.snd unit, congrArg Prod.fst unit⟩
  · have unit : (t.gates[g].cfg, t.gates[g].staged) =
        (s.gates[g].activateStaged.cfg, s.gates[g].activateStaged.staged) := by
      have both := congrFun (congrArg Settings.gates settings) g
      have active := activateStaged_gate (setPitchCounter 0 s) g
      exact both.trans (by simp only [State.settings, active]; rfl)
    exact ⟨congrArg Prod.snd unit, congrArg Prod.fst unit⟩

end Sys2Proof.Machine
end


section
/-! Discharge, and the change of the track's length (O22). -/

set_option Elab.async false

namespace Sys2Proof.Machine

/-! ## The discharge by its steps (R18, R43, R55) -/

theorem bne_eq_decide_ne {α : Type} [DecidableEq α] (a b : α) : (a != b) = decide (a ≠ b) := by
  rw [bne, beq_eq_decide, decide_not]

theorem forEach_mapCamera_eq (f : Camera → Camera) (s : State) :
    forEach (allUnits 6) (fun n t => t.mapCamera n f) s =
      { s with cameras := Vector.ofFn fun n : CameraId => f s.cameras[n] } := by
  have only (us : List CameraId) (t : State) :
      forEach us (fun n t => t.mapCamera n f) t =
        { t with cameras := (forEach us (fun n t => t.mapCamera n f) t).cameras } := by
    induction us generalizing t with
    | nil => rfl
    | cons u us ih => rw [forEach_cons, ih]; rfl
  rw [only]
  congr 1
  refine Vector.ext fun k bound => ?_
  rw [Vector.getElem_ofFn]
  exact forEach_mapCamera f s ⟨k, bound⟩

theorem Camera.retire_eq (c : Camera) (k : Half) :
    c.retire k =
      { c with
        outstanding := c.outstanding.filter fun o => decide (o.ticket ≠ k)
        late := ((c.outstanding.filter fun o => decide (o.ticket = k)).map Outstanding.number).foldl addLate c.late } := by
  have others : (fun o : Outstanding => o.ticket != k) = fun o => decide (o.ticket ≠ k) :=
    funext fun o => bne_eq_decide_ne _ _
  have own : (fun o : Outstanding => o.ticket == k) = fun o => decide (o.ticket = k) := funext fun o => beq_eq_decide _ _
  unfold Camera.retire
  rw [others, own, List.foldl_map]

theorem retireAll_eq (k : Half) (s : State) :
    retireAll k s =
      { s with cameras := Vector.ofFn fun n : CameraId =>
          { s.cameras[n] with
            outstanding := s.cameras[n].outstanding.filter fun o => decide (o.ticket ≠ k)
            late :=
              ((s.cameras[n].outstanding.filter fun o => decide (o.ticket = k)).map Outstanding.number).foldl addLate
                s.cameras[n].late } } := by
  have each : (fun n : CameraId => s.cameras[n].retire k) = fun n => _ := funext fun n => Camera.retire_eq s.cameras[n] k
  unfold retireAll
  rw [forEach_mapCamera_eq, each]

theorem expireDischarged_eq (k : Half) (g : GateId) (s : State) :
    expireDischarged k g s =
      if (s.gates[g].confirm.any fun e => e.ticket == k) = true then
        unconfirm g .discharged k
          { s with
            gates := s.gates.set g
              { s.gates[g] with confirm := s.gates[g].confirm.filter fun e => decide (e.ticket ≠ k) } }
      else s := by
  have others : (fun e : ConfirmEntry => e.ticket != k) = fun e => decide (e.ticket ≠ k) :=
    funext fun e => bne_eq_decide_ne _ _
  unfold expireDischarged
  rw [others]
  rfl

theorem discharge_eq (p : Nat) (s : State) :
    discharge p s =
      judgeLeaving
        ((expireDischarged (s.slotAt p).ticket 1
          (expireDischarged (s.slotAt p).ticket 0 (retireAll (s.slotAt p).ticket s))).slotAt p)
        (expireDischarged (s.slotAt p).ticket 1
          (expireDischarged (s.slotAt p).ticket 0 (retireAll (s.slotAt p).ticket s))) := rfl

/-! ## The track's length, set apart from what a discharge does -/

/-- The part with another track length. -/
def State.withLength (k : Nat) (s : State) : State := { s with track := { s.track with length := k } }

/-- The first slot with the ticket lies below both lengths. -/
def State.namesWithin (s : State) (ticket : Half) (k : Nat) : Prop :=
  ∃ q : Nat, q < k ∧ q < s.track.length ∧ (s.slotAt q).ticket = ticket

theorem namesWithin_of_shape {s t : State} {ticket : Half} {k : Nat} (shape : t.shape = s.shape)
    (named : s.namesWithin ticket k) : t.namesWithin ticket k := by
  obtain ⟨q, below, onTrack, carries⟩ := named
  have length : t.track.length = s.track.length := congrArg TrackShape.length shape
  have tickets : (t.slotAt q).ticket = (s.slotAt q).ticket := congrFun (congrArg TrackShape.tickets shape) q
  exact ⟨q, below, length ▸ onTrack, tickets.trans carries⟩

/-- Of the positions below a bound the first with a property is the first below any bound above one that has it. -/
theorem find_range_of_le {p : Nat → Bool} {k l q : Nat} (below : q < k) (le : k ≤ l) (holds : p q = true) :
    (List.range l).find? p = (List.range k).find? p := by
  obtain ⟨d, rfl⟩ := Nat.exists_eq_add_of_le le
  have found : ((List.range k).find? p).isSome = true :=
    List.find?_isSome.2 ⟨q, List.mem_range.2 below, holds⟩
  obtain ⟨first, at_⟩ := Option.isSome_iff_exists.1 found
  rw [List.range_add, List.find?_append, at_]
  rfl

theorem positionOf_withLength {s : State} {ticket : Half} {k : Nat} (named : s.namesWithin ticket k) :
    (s.withLength k).positionOf ticket = s.positionOf ticket := by
  obtain ⟨q, below, onTrack, carries⟩ := named
  have holds : ((s.slotAt q).ticket == ticket) = true := beq_iff_eq.2 carries
  have both : (s.withLength k).positionOf ticket = (List.range k).find? fun p => (s.slotAt p).ticket == ticket := rfl
  rw [both]
  unfold State.positionOf
  rcases Nat.le_total k s.track.length with le | ge
  · exact (find_range_of_le below le holds).symm
  · exact find_range_of_le onTrack ge holds

theorem editSlot_withLength {s : State} {ticket : Half} {k : Nat} (named : s.namesWithin ticket k) (f : Slot → Slot) :
    editSlot ticket f (s.withLength k) = (editSlot ticket f s).withLength k := by
  unfold editSlot
  rw [positionOf_withLength named]
  cases s.positionOf ticket <;> rfl

theorem raiseEvent_withLength (kind : EventKind) (unit : Nat) (detail1 detail2 : Half) (k : Nat) (s : State) :
    raiseEvent kind unit detail1 detail2 (s.withLength k) = (raiseEvent kind unit detail1 detail2 s).withLength k := by
  unfold raiseEvent
  have queue : (s.withLength k).events = s.events := rfl
  dsimp only
  rw [queue]
  split_ifs <;> rfl

theorem countUnconfirmed_withLength (g : GateId) (ticket : Half) (k : Nat) (s : State) :
    countUnconfirmed g ticket (s.withLength k) = (countUnconfirmed g ticket s).withLength k := by
  have gates : (s.withLength k).gates = s.gates := rfl
  have told (kind : EventKind) (unit : Nat) (detail1 detail2 : Half) (f h : Gate → Gate) :
      addGateFault (raiseEvent kind unit detail1 detail2 (((s.withLength k).mapGate g f).mapGate g h)) =
        (addGateFault (raiseEvent kind unit detail1 detail2 ((s.mapGate g f).mapGate g h))).withLength k :=
    congrArg addGateFault (raiseEvent_withLength kind unit detail1 detail2 k ((s.mapGate g f).mapGate g h))
  unfold countUnconfirmed
  dsimp only
  rw [gates, told]
  split_ifs <;> rfl

theorem unconfirm_withLength {s : State} {ticket : Half} {k : Nat} (named : s.namesWithin ticket k) (g : GateId)
    (why : UnconfirmedReason) : unconfirm g why ticket (s.withLength k) = (unconfirm g why ticket s).withLength k := by
  unfold unconfirm
  dsimp only
  rw [editSlot_withLength named, raiseEvent_withLength, countUnconfirmed_withLength]
  split <;> rfl

theorem expireDischarged_withLength {s : State} {ticket : Half} {k : Nat} (named : s.namesWithin ticket k) (g : GateId) :
    expireDischarged ticket g (s.withLength k) = (expireDischarged ticket g s).withLength k := by
  have gates : (s.withLength k).gates = s.gates := rfl
  unfold expireDischarged
  rw [gates]
  split
  · exact unconfirm_withLength (s := s.mapGate g fun gt => { gt with confirm := gt.confirm.filter fun e => e.ticket != ticket })
      named g .discharged
  · rfl

theorem judgeLeaving_withLength (sl : Slot) (k : Nat) (s : State) :
    judgeLeaving sl (s.withLength k) = (judgeLeaving sl s).withLength k := by
  unfold judgeLeaving
  split
  · rw [raiseEvent_withLength]
    rfl
  · rfl
  · rfl
  · rfl

theorem expireDischarged_shape (ticket : Half) (g : GateId) (s : State) : (expireDischarged ticket g s).shape = s.shape := by
  unfold expireDischarged
  split
  · rw [unconfirm_shape]
    rfl
  · rfl

/-- A discharge does not look at the length beyond the slot that leaves. -/
theorem discharge_withLength {s : State} {p k : Nat} (below : p < k) (onTrack : p < s.track.length) :
    discharge p (s.withLength k) = (discharge p s).withLength k := by
  have named : s.namesWithin (s.slotAt p).ticket k := ⟨p, below, onTrack, rfl⟩
  have same : ((s.withLength k).slotAt p).ticket = (s.slotAt p).ticket := rfl
  have retired : retireAll (s.slotAt p).ticket (s.withLength k) = (retireAll (s.slotAt p).ticket s).withLength k := by
    rw [retireAll_eq, retireAll_eq]
    rfl
  have namedNow : (retireAll (s.slotAt p).ticket s).namesWithin (s.slotAt p).ticket k :=
    namesWithin_of_shape (shape_of_track (by simp [retireAll_frame])) named
  have namedLater : (expireDischarged (s.slotAt p).ticket 0 (retireAll (s.slotAt p).ticket s)).namesWithin
      (s.slotAt p).ticket k := namesWithin_of_shape (expireDischarged_shape ..) namedNow
  rw [discharge_eq, discharge_eq, same, retired, expireDischarged_withLength namedNow, expireDischarged_withLength namedLater,
    judgeLeaving_withLength]
  rfl

/-! ## The change of length (R11) -/

/-- The positions that a shorter track gives up, from the highest down. -/
def surplus (l n : Nat) : List Nat := ((List.range n).filter fun p => decide (l ≤ p)).reverse

theorem surplus_succ {l n : Nat} (le : l ≤ n) : surplus l (n + 1) = n :: surplus l n := by
  unfold surplus
  rw [List.range_succ, List.filter_append, List.reverse_append, List.filter_singleton, decide_eq_true le]
  rfl

theorem surplus_self (l : Nat) : surplus l l = [] := by
  unfold surplus
  rw [List.reverse_eq_nil_iff, List.filter_eq_nil_iff]
  intro p listed
  have := List.mem_range.1 listed
  simp only [decide_eq_true_eq]
  omega

theorem mem_surplus {l n p : Nat} : p ∈ surplus l n ↔ l ≤ p ∧ p < n := by
  unfold surplus
  simp only [List.mem_reverse, List.mem_filter, List.mem_range, decide_eq_true_eq]
  exact and_comm

theorem changeLength_of_le {l : Nat} {s : State} (le : l ≤ s.track.length) :
    changeLength l s = (forEach (surplus l s.track.length) discharge s).withLength l := by
  unfold changeLength
  dsimp only
  rw [if_neg (Nat.not_lt.2 le)]
  rfl

theorem forEach_discharge_withLength {l k : Nat} (n : Nat) {s : State} (below : n ≤ k) (onTrack : n ≤ s.track.length) :
    forEach (surplus l n) discharge (s.withLength k) = (forEach (surplus l n) discharge s).withLength k := by
  induction n generalizing s with
  | zero => rfl
  | succ n ih =>
    rcases Nat.lt_or_ge n l with short | long
    · have none : surplus l (n + 1) = [] := List.eq_nil_iff_forall_not_mem.2 fun p listed => by
        have := mem_surplus.1 listed
        omega
      rw [none]
      rfl
    · rw [surplus_succ long, forEach_cons, forEach_cons, discharge_withLength below onTrack]
      exact ih (by omega) (by rw [discharge_length]; omega)

/-- A track that loses several slots loses the last one first (R11). -/
theorem changeLength_of_shorter {l : Nat} {s : State} (shorter : l + 1 < s.track.length) :
    changeLength l s = changeLength l (changeLength (s.track.length - 1) s) := by
  obtain ⟨n, length⟩ : ∃ n, s.track.length = n + 1 := ⟨s.track.length - 1, by omega⟩
  have first : changeLength n s = (discharge n s).withLength n := by
    rw [changeLength_of_le (by omega), length, surplus_succ (Nat.le_refl n), surplus_self]
    rfl
  have newLength : ((discharge n s).withLength n).track.length = n := rfl
  have kept : n ≤ (discharge n s).track.length := by rw [discharge_length]; omega
  have last : s.track.length - 1 = n := by omega
  rw [last, first, changeLength_of_le (by omega), changeLength_of_le (s := (discharge n s).withLength n) (by rw [newLength]; omega),
    newLength, length, surplus_succ (by omega), forEach_cons, forEach_discharge_withLength n (Nat.le_refl n) kept]
  rfl

theorem slotAt_of_track {u v : State} (track : u.track = v.track) (p : Nat) : u.slotAt p = v.slotAt p := by
  unfold State.slotAt
  simp only [track]

/-- A discharge changes no slot but the one that leaves. -/
theorem discharge_slotAt {s : State} (consecutive : ticketsConsecutive s) {p q : Nat} (onTrack : q < s.track.length)
    (onRing : p < 128) (other : p ≠ q) : (discharge q s).slotAt p = s.slotAt p := by
  have inRing : q < 128 := Nat.lt_of_lt_of_le onTrack consecutive.2.1
  have marks (g : GateId) (u : State) (there : u.positionOf (s.slotAt q).ticket = some q)
      (same : u.slotAt p = s.slotAt p) : (expireDischarged (s.slotAt q).ticket g u).slotAt p = s.slotAt p := by
    unfold expireDischarged
    split
    · have thereStill (f : Gate → Gate) : (u.mapGate g f).positionOf (s.slotAt q).ticket = some q := there
      rw [slotAt_of_track (unconfirm_track g .discharged _ _) p, editSlot_of_positionOf _ (thereStill _),
        slotAt_editSlotAt q p _ _ inRing onRing, if_neg other]
      exact same
    · exact same
  have retired : (retireAll (s.slotAt q).ticket s).track = s.track := by simp [retireAll_frame]
  have position (u : State) (shape : u.shape = s.shape) : u.positionOf (s.slotAt q).ticket = some q := by
    rw [positionOf_congr (congrArg TrackShape.length shape) (fun r => congrFun (congrArg TrackShape.tickets shape) r)]
    exact positionOf_slotAt consecutive onTrack
  have shape₀ : (retireAll (s.slotAt q).ticket s).shape = s.shape := shape_of_track retired
  have first := marks 0 _ (position _ shape₀) (slotAt_of_track retired p)
  have second := marks 1 _ (position _ ((expireDischarged_shape _ 0 _).trans shape₀)) first
  have judged (sl : Slot) (u : State) : (judgeLeaving sl u).slotAt p = u.slotAt p := by
    unfold judgeLeaving State.slotAt
    split <;> simp
  rw [discharge_eq, judged]
  exact second

theorem discharge_tickets {s : State} (consecutive : ticketsConsecutive s) (p : Nat) : ticketsConsecutive (discharge p s) :=
  (discharge_kept p (.refl s)).steady.tickets consecutive

/-- What the discharges of the surplus leave of the slots that stay. -/
theorem forEach_discharge_slotAt {l : Nat} {s : State} (consecutive : ticketsConsecutive s) {p : Nat} (stays : p < l)
    (onRing : p < 128) : (forEach (surplus l s.track.length) discharge s).slotAt p = s.slotAt p := by
  have all := forEach_invariant_of_mem
    (fun t => ticketsConsecutive t ∧ t.track.length = s.track.length ∧ t.slotAt p = s.slotAt p)
    (surplus l s.track.length) discharge (fun q listed t ⟨tickets, length, slot⟩ => by
      obtain ⟨above, onTrack⟩ := mem_surplus.1 listed
      exact ⟨discharge_tickets tickets q, (discharge_length q t).trans length,
        (discharge_slotAt tickets (length ▸ onTrack) onRing (by omega)).trans slot⟩)
    ⟨consecutive, rfl, rfl⟩
  exact all.2.2

/-- The positions that a longer track gains. -/
def gained (n l : Nat) : List Nat := (List.range l).filter fun p => decide (n ≤ p)

theorem mem_gained {n l p : Nat} : p ∈ gained n l ↔ n ≤ p ∧ p < l := by
  unfold gained
  simp only [List.mem_filter, List.mem_range, decide_eq_true_eq]
  exact and_comm

theorem changeLength_of_lt {l : Nat} {s : State} (longer : s.track.length < l) :
    changeLength l s = (forEach (gained s.track.length l) addSlot s).withLength l := by
  unfold changeLength
  dsimp only
  rw [if_pos longer]
  rfl

theorem changeLength_self (s : State) : changeLength s.track.length s = s := by
  rw [changeLength_of_le (Nat.le_refl _), surplus_self]
  rfl

theorem addSlots_shape (ps : List Nat) (s : State) :
    (forEach ps addSlot s).track.head = s.track.head ∧ (forEach ps addSlot s).track.nextTicket = s.track.nextTicket := by
  have heads := forEach_keeps (fun t : State => (t.track.head, t.track.nextTicket)) ps addSlot (fun _ _ => rfl) s
  exact ⟨congrArg Prod.fst heads, congrArg Prod.snd heads⟩

/-- Slots added from the end of a track up keep every slot on it. -/
theorem addSlots_slotAt_below {n : Nat} {ps : List Nat} (above : ∀ p ∈ ps, n ≤ p ∧ p < 128) (s : State) {q : Nat} (below : q < n)
    (onRing : q < 128) : (forEach ps addSlot s).slotAt q = s.slotAt q :=
  forEach_invariant_of_mem (fun t => t.slotAt q = s.slotAt q) ps addSlot
    (fun p listed t same => by
      obtain ⟨high, inRing⟩ := above p listed
      refine (slotAt_putSlot p q _ t inRing onRing).trans ?_
      rw [if_neg (by omega), same]) rfl

/-- Settles O22: the judging by occupancy and decision, the discharge by its steps, and the length by its three cases. -/
theorem dischargeAndLengthChange : Obligations.DischargeAndLengthChange := by
  refine ⟨fun s sl => ⟨fun g occupied decided => ?_, fun occupied undecided => ?_, fun other => ?_⟩, fun s p => ?_,
    fun late number => ?_, fun s l fits onRing => ?length⟩
  · unfold judgeLeaving
    rw [occupied, decided]
    have stops : (raiseEvent .escape g.val sl.ticket sl.defects s).stops = s.stops := by simp
    have track : (raiseEvent .escape g.val sl.ticket sl.defects s).track = s.track := by simp
    dsimp only
    rw [← stops, ← track]
    rfl
  · unfold judgeLeaving
    rw [occupied, undecided]
    rfl
  · unfold judgeLeaving
    obtain removed | empty := other
    · rw [removed]
    · rw [empty]
  · dsimp only
    rw [discharge_eq]
    simp only [expireDischarged_eq, retireAll_eq]
  · unfold addLate Config.listCapacity
    rcases Nat.lt_or_ge late.length 16 with room | full
    · rw [if_pos room, if_neg (Nat.not_le.2 room)]
    · rw [if_neg (Nat.not_lt.2 full), if_pos full]
  case length =>
    have frame : keepsBut [.track, .cameras, .gates, .stops, .events] s (changeLength l s) := by
      intro part other
      cases part <;> simp [Part.same, changeLength_frame] at other ⊢
    rcases Nat.lt_or_ge s.track.length l with longer | le
    · have above : ∀ p ∈ gained s.track.length l, s.track.length ≤ p ∧ p < 128 := fun p listed =>
        ⟨(mem_gained.1 listed).1, Nat.lt_of_lt_of_le (mem_gained.1 listed).2 fits⟩
      have stays (p : Nat) (onTrack : p < s.track.length) : (changeLength l s).slotAt p = s.slotAt p := by
        rw [changeLength_of_lt longer]
        exact addSlots_slotAt_below above s onTrack (Nat.lt_of_lt_of_le onTrack onRing)
      obtain ⟨head, next⟩ := addSlots_shape (gained s.track.length l) s
      refine ⟨rfl, ?_, ?_, fun _ p _ => stays p, fun same => absurd same (by omega), frame, fun short => absurd short (by omega),
        fun _ => ⟨stays, fun positive p new onTrack => ?_, ?_⟩, fun short => absurd short (by omega)⟩
      · rw [changeLength_of_lt longer]
        exact head
      · rw [changeLength_of_lt longer]
        exact next
      · have added := (addSlots (gained s.track.length l) s fun q listed =>
          ⟨Nat.lt_of_lt_of_le positive (above q listed).1, (above q listed).2⟩).2.2.2.2 p (Nat.lt_of_lt_of_le onTrack fits)
        rw [if_pos (mem_gained.2 ⟨new, onTrack⟩)] at added
        rw [changeLength_of_lt longer]
        exact added
      · rw [changeLength_of_lt longer, addSlot_eq]
        intro part other
        cases part
        case track => simp at other
        all_goals rfl
    · have shape : (forEach (surplus l s.track.length) discharge s).shape = s.shape := forEach_shape _ _ _ discharge_shape
      refine ⟨rfl, ?_, ?_, fun consecutive p stays onTrack => ?_, ?_, frame, changeLength_of_shorter, fun ge => ?_, fun short => ?_⟩
      · rw [changeLength_of_le le]
        exact congrArg TrackShape.head shape
      · rw [changeLength_of_le le]
        exact congrArg TrackShape.nextTicket shape
      · rw [changeLength_of_le le]
        exact forEach_discharge_slotAt consecutive stays (Nat.lt_of_lt_of_le stays fits)
      · rintro rfl
        exact changeLength_self s
      · obtain rfl := Nat.le_antisymm le ge
        rw [changeLength_self]
        exact ⟨fun _ _ => rfl, fun _ p new onTrack => absurd onTrack (by omega), keepsBut_refl _ s⟩
      · rw [changeLength_of_le le, ← short, surplus_succ (Nat.le_refl l), surplus_self]
        rfl

end Sys2Proof.Machine
end


section
/-! MISSING and the verdict deadline (O24). -/

set_option Elab.async false

namespace Sys2Proof.Machine

/-! ## MISSING (R35) -/

theorem Slot.awaits_iff (sl : Slot) (n : CameraId) :
    sl.awaits n = true ↔ ∃ e ∈ sl.verdicts, e.camera = n ∧ e.verdict = .awaited := by
  unfold Slot.awaits
  simp only [List.any_eq_true, Bool.and_eq_true, beq_iff_eq]

theorem Slot.miss_of_removed {sl : Slot} (removed : sl.occupancy = .removed) (n : CameraId) (required : Bool) :
    sl.miss n required = sl := by
  unfold Slot.miss
  exact if_pos (.inl removed)

theorem Slot.miss_of_not_awaiting {sl : Slot} {n : CameraId} (none : sl.awaits n = false) (required : Bool) :
    sl.miss n required = sl := by
  unfold Slot.miss
  rw [none]
  exact if_pos (.inr rfl)

theorem Slot.miss_of_awaiting {sl : Slot} {n : CameraId} (stays : sl.occupancy ≠ .removed) (awaits : sl.awaits n = true)
    (required : Bool) :
    sl.miss n required =
      { sl with
        verdicts := sl.verdicts.map fun e =>
          if e.camera = n ∧ e.verdict = .awaited then { camera := n, verdict := .missing } else e
        defects := if required = true then sl.defects ||| 0x8000 else sl.defects } := by
  have entries : (fun e : VerdictEntry => if e.camera = n ∧ e.verdict = .awaited then { e with verdict := .missing } else e) =
      fun e => if e.camera = n ∧ e.verdict = .awaited then { camera := n, verdict := .missing } else e := by
    funext e
    by_cases own : e.camera = n ∧ e.verdict = .awaited
    · rw [if_pos own, if_pos own, own.1]
    · rw [if_neg own, if_neg own]
  have marked : ¬(sl.occupancy = .removed ∨ (!sl.awaits n) = true) := by
    rw [awaits]
    rintro (removed | unawaited)
    · exact stays removed
    · cases unawaited
  unfold Slot.miss Slot.settleEntry
  rw [if_neg marked, entries, ← unverified_eq]

/-! ## Entries retired in turn (R41) -/

/-- The entries of the tickets a list names, in its order. -/
def entriesOf (out : List Outstanding) (tickets : List Half) : List Outstanding :=
  tickets.flatMap fun k => out.filter fun o => decide (o.ticket = k)

theorem mem_entriesOf {out : List Outstanding} {tickets : List Half} {o : Outstanding} :
    o ∈ entriesOf out tickets ↔ o ∈ out ∧ o.ticket ∈ tickets := by
  unfold entriesOf
  simp only [List.mem_flatMap, List.mem_filter, decide_eq_true_eq]
  constructor
  · rintro ⟨k, listed, inList, carries⟩
    exact ⟨inList, carries ▸ listed⟩
  · rintro ⟨inList, listed⟩
    exact ⟨o.ticket, listed, inList, rfl⟩

/-- The entries of one ticket taken out, those of another stay. -/
theorem entriesOf_filter {out : List Outstanding} {k : Half} {tickets : List Half} (fresh : k ∉ tickets) :
    entriesOf (out.filter fun o => decide (o.ticket ≠ k)) tickets = entriesOf out tickets := by
  unfold entriesOf
  refine List.flatMap_congr fun k' listed => ?_
  rw [List.filter_filter]
  refine List.filter_congr fun o _ => ?_
  have other : k' ≠ k := fun same => fresh (same ▸ listed)
  by_cases own : o.ticket = k'
  · simp [own, other]
  · simp [own]

/-- Distinct tickets name each entry at most once. -/
theorem entriesOf_length_le {out : List Outstanding} {tickets : List Half} (distinct : tickets.Nodup) :
    (entriesOf out tickets).length ≤ out.length := by
  induction tickets generalizing out with
  | nil => exact Nat.zero_le _
  | cons k tickets ih =>
    obtain ⟨fresh, rest⟩ := List.nodup_cons.1 distinct
    have others := ih (out := out.filter fun o => decide (o.ticket ≠ k)) rest
    rw [entriesOf_filter fresh] at others
    have split : entriesOf out (k :: tickets) = (out.filter fun o => decide (o.ticket = k)) ++ entriesOf out tickets := rfl
    have whole := List.length_eq_length_filter_add (l := out) fun o => decide (o.ticket = k)
    have complement : (out.filter fun o => !decide (o.ticket = k)) = out.filter fun o => decide (o.ticket ≠ k) :=
      List.filter_congr fun o _ => by rw [decide_not]
    rw [complement] at whole
    rw [split, List.length_append]
    omega

/-- A camera that retires the entries of several slots in turn. -/
theorem foldl_retire {tickets : List Half} (distinct : tickets.Nodup) (c : Camera) :
    tickets.foldl Camera.retire c =
      { c with
        outstanding := c.outstanding.filter fun o => decide (o ∉ entriesOf c.outstanding tickets)
        late := ((entriesOf c.outstanding tickets).map Outstanding.number).foldl addLate c.late } := by
  induction tickets generalizing c with
  | nil => simp [entriesOf]
  | cons k tickets ih =>
    obtain ⟨fresh, rest⟩ := List.nodup_cons.1 distinct
    have split : entriesOf c.outstanding (k :: tickets) =
        (c.outstanding.filter fun o => decide (o.ticket = k)) ++ entriesOf c.outstanding tickets := rfl
    have left : ((c.outstanding.filter fun o => decide (o.ticket ≠ k)).filter fun o =>
        decide (o ∉ entriesOf c.outstanding tickets)) =
          c.outstanding.filter fun o => decide (o ∉ entriesOf c.outstanding (k :: tickets)) := by
      rw [List.filter_filter]
      refine List.filter_congr fun o inList => ?_
      simp only [mem_entriesOf, inList, true_and, List.mem_cons, not_or, Bool.decide_and, ne_eq]
      rw [Bool.and_comm]
    rw [List.foldl_cons, ih rest, Camera.retire_eq]
    dsimp only
    rw [entriesOf_filter fresh, left, split, List.map_append, List.foldl_append]

/-- Up to 16 numbers added to the late list stand at its end, behind those it keeps (R41). -/
theorem suffix_foldl_addLate {kept late numbers : List Byte} (stands : kept <:+ late) (few : kept.length + numbers.length ≤ 16) :
    kept ++ numbers <:+ numbers.foldl addLate late := by
  induction numbers generalizing kept late with
  | nil => simpa using stands
  | cons number numbers ih =>
    have one : kept ++ [number] <:+ addLate late number := by
      unfold addLate Config.listCapacity
      split
      case isTrue full =>
        obtain ⟨front, rfl⟩ := stands
        rw [List.length_append] at full
        rw [List.length_cons] at few
        cases front with
        | nil => rw [List.length_nil] at full; omega
        | cons _ front => exact ⟨front, by simp⟩
      case isFalse =>
        obtain ⟨front, rfl⟩ := stands
        exact ⟨front, by simp⟩
    have rest := ih one (by rw [List.length_append, List.length_singleton]; rw [List.length_cons] at few; omega)
    rwa [List.append_assoc, List.singleton_append] at rest

theorem mem_foldl_addLate {late numbers : List Byte} (few : numbers.length ≤ 16) {number : Byte} (listed : number ∈ numbers) :
    number ∈ numbers.foldl addLate late :=
  (suffix_foldl_addLate (kept := []) (List.nil_suffix) (by rwa [List.length_nil, Nat.zero_add])).subset listed

/-! ## The deadline, slot by slot (R42) -/

/-- The tickets of the slots at some positions that still await a camera. -/
def waitingTickets (s : State) (n : CameraId) (ps : List Nat) : List Half :=
  (ps.filter fun p => (s.slotAt p).awaits n).map fun p => (s.slotAt p).ticket

theorem set_camera (s : State) (n : CameraId) (f : Camera → Camera) :
    (s.mapCamera n f).cameras = s.cameras.set n (f s.cameras[n]) := rfl

theorem deadlineAt_camera (n : CameraId) (p : Nat) (s : State) :
    (deadlineAt n p s).cameras = s.cameras.set n
      (if (s.slotAt p).awaits n then s.cameras[n].retire (s.slotAt p).ticket else s.cameras[n]) := by
  unfold deadlineAt
  split
  · rw [set_camera]
    rfl
  · exact (Vector.set_getElem_self ..).symm

theorem deadlineAt_slotAt {p q : Nat} (onRing : p < 128) (inRing : q < 128) (n : CameraId) (s : State) :
    (deadlineAt n p s).slotAt q =
      if q = p then (s.slotAt p).miss n s.cameras[n].cfg.required else s.slotAt q := by
  unfold deadlineAt
  split
  case isTrue =>
    have missed : ((missAt n p s).mapCamera n fun c => c.retire (s.slotAt p).ticket).slotAt q = (missAt n p s).slotAt q := rfl
    rw [missed, missAt_eq, slotAt_putSlot p q _ s onRing inRing]
  case isFalse unawaited =>
    rw [Slot.miss_of_not_awaiting (Bool.not_eq_true _ ▸ unawaited)]
    split
    case isTrue same => rw [same]
    case isFalse => rfl

theorem forEach_deadlineAt {n : CameraId} {ps : List Nat} (once : ps.Nodup) (onRing : ∀ p ∈ ps, p < 128) (s : State) :
    (forEach ps (deadlineAt n) s).cameras = s.cameras.set n ((waitingTickets s n ps).foldl Camera.retire s.cameras[n])
      ∧ ∀ q : Nat, q < 128 → (forEach ps (deadlineAt n) s).slotAt q =
        if q ∈ ps then (s.slotAt q).miss n s.cameras[n].cfg.required else s.slotAt q := by
  induction ps generalizing s with
  | nil => exact ⟨(Vector.set_getElem_self ..).symm, fun q _ => by simp⟩
  | cons p ps ih =>
    obtain ⟨fresh, rest⟩ := List.nodup_cons.1 once
    have inRing := onRing p List.mem_cons_self
    obtain ⟨cameras, slots⟩ := ih rest (fun q listed => onRing q (List.mem_cons_of_mem p listed)) (deadlineAt n p s)
    have camera : (deadlineAt n p s).cameras[n] =
        if (s.slotAt p).awaits n then s.cameras[n].retire (s.slotAt p).ticket else s.cameras[n] := by
      rw [deadlineAt_camera, set_get, if_pos rfl]
    have required : (deadlineAt n p s).cameras[n].cfg.required = s.cameras[n].cfg.required := by
      rw [camera]
      split <;> rfl
    have others : ∀ q ∈ ps, (deadlineAt n p s).slotAt q = s.slotAt q := fun q listed => by
      rw [deadlineAt_slotAt inRing (onRing q (List.mem_cons_of_mem p listed)), if_neg]
      rintro rfl
      exact fresh listed
    have waiting : waitingTickets (deadlineAt n p s) n ps = waitingTickets s n ps := by
      unfold waitingTickets
      rw [List.filter_congr fun q listed => by rw [others q listed]]
      exact List.map_congr_left fun q listed => by rw [others q (List.mem_of_mem_filter listed)]
    refine ⟨?_, fun q small => ?_⟩
    · rw [forEach_cons, cameras, waiting, camera, deadlineAt_camera, Vector.set_set]
      by_cases awaits : (s.slotAt p).awaits n = true
      · have first : waitingTickets s n (p :: ps) = (s.slotAt p).ticket :: waitingTickets s n ps := by
          unfold waitingTickets
          rw [List.filter_cons_of_pos (p := fun q => (s.slotAt q).awaits n) awaits, List.map_cons]
        rw [if_pos awaits, first, List.foldl_cons]
      · have first : waitingTickets s n (p :: ps) = waitingTickets s n ps := by
          unfold waitingTickets
          rw [List.filter_cons_of_neg (p := fun q => (s.slotAt q).awaits n) awaits]
        rw [if_neg awaits, first]
    · rw [forEach_cons, slots q small, required, deadlineAt_slotAt inRing small]
      by_cases same : q = p
      · rw [if_pos same, if_neg (same ▸ fresh), if_pos (same ▸ List.mem_cons_self), same]
      · simp only [List.mem_cons, same, false_or, if_false]

/-! ## The deadline as it stands in the statement -/

theorem surplus_nodup (l n : Nat) : (surplus l n).Nodup := List.nodup_reverse.2 (List.nodup_range.filter _)

/-- Slots on a track with consecutive tickets carry distinct ones. -/
theorem ticket_inj {s : State} (consecutive : ticketsConsecutive s) {p q : Nat} (onTrack : p < s.track.length)
    (inTrack : q < s.track.length) (same : (s.slotAt p).ticket = (s.slotAt q).ticket) : p = q := by
  have first := positionOf_slotAt consecutive onTrack
  rw [same, positionOf_slotAt consecutive inTrack] at first
  exact (Option.some.inj first).symm

theorem waitingTickets_nodup {s : State} (consecutive : ticketsConsecutive s) (n : CameraId) {ps : List Nat} (once : ps.Nodup)
    (onTrack : ∀ p ∈ ps, p < s.track.length) : (waitingTickets s n ps).Nodup := by
  unfold waitingTickets
  refine List.Nodup.map_on (fun p listed q listed' same => ?_) (once.filter _)
  exact ticket_inj consecutive (onTrack p (List.mem_of_mem_filter listed)) (onTrack q (List.mem_of_mem_filter listed')) same

theorem waitingTickets_surplus (s : State) (n : CameraId) (l : Nat) :
    waitingTickets s n (surplus l s.track.length) =
      ((List.range s.track.length).reverse.filter fun p => decide (l ≤ p) && (s.slotAt p).awaits n).map
        fun p => (s.slotAt p).ticket := by
  unfold waitingTickets surplus
  rw [← List.filter_reverse, List.filter_filter]
  simp only [Bool.and_comm]

theorem deadlineCheck_of_enabled {n : CameraId} {s : State} (enabled : s.cameras[n].cfg.enabled = true) :
    deadlineCheck n s =
      forEach (surplus (s.cameras[n].cfg.position + s.cameras[n].cfg.deadline) s.track.length) (deadlineAt n) s := by
  unfold deadlineCheck
  exact if_pos enabled

theorem deadlineCheck_of_disabled {n : CameraId} {s : State} (disabled : s.cameras[n].cfg.enabled = false) :
    deadlineCheck n s = s := by
  unfold deadlineCheck
  dsimp only
  rw [disabled]
  rfl

/-- Settles O24: the three cases of MISSING, and the deadline by its slots and by the tickets that it retires. -/
theorem missingAndDeadline : Obligations.MissingAndDeadline := by
  refine ⟨fun sl n required => ⟨fun removed => Slot.miss_of_removed removed n required, fun none => ?_, fun stays awaiting =>
    Slot.miss_of_awaiting stays ((Slot.awaits_iff sl n).2 awaiting) required⟩,
    fun n s consecutive => ⟨fun disabled => ?_, fun enabled => ?_⟩⟩
  · refine Slot.miss_of_not_awaiting (Bool.eq_false_iff.2 fun awaits => ?_) required
    obtain ⟨e, listed, own, awaited⟩ := (Slot.awaits_iff sl n).1 awaits
    exact none e listed own awaited
  · exact congrArg Host.Outcome.next (deadlineCheck_of_disabled disabled)
  · have onTrack : ∀ p ∈ surplus (s.cameras[n].cfg.position + s.cameras[n].cfg.deadline) s.track.length, p < s.track.length :=
      fun p listed => (mem_surplus.1 listed).2
    have once := surplus_nodup (s.cameras[n].cfg.position + s.cameras[n].cfg.deadline) s.track.length
    obtain ⟨cameras, slots⟩ := forEach_deadlineAt (n := n) once
      (fun p listed => Nat.lt_of_lt_of_le (onTrack p listed) consecutive.2.1) s
    have distinct := waitingTickets_nodup consecutive n once onTrack
    rw [← deadlineCheck_of_enabled enabled] at cameras slots
    rw [foldl_retire distinct] at cameras
    have tallies : (deadlineCheck n s).track.tallies = s.track.tallies := by
      rw [deadlineCheck_of_enabled enabled]
      refine forEach_keeps (fun t : State => t.track.tallies) _ (deadlineAt n) (fun p t => ?_) s
      unfold deadlineAt
      split <;> rfl
    have shape := deadlineCheck_shape n s
    refine ⟨deadlineCheck n s, rfl, fun p stands => ?_, ?_, fun o listed gone => ?_, congrArg TrackShape.head shape,
      congrArg TrackShape.nextTicket shape, congrArg TrackShape.length shape, tallies, ?_⟩
    · rw [slots p (Nat.lt_of_lt_of_le stands consecutive.2.1)]
      simp only [mem_surplus, stands, and_true]
    · rw [cameras, waitingTickets_surplus]
      unfold entriesOf
      simp only [List.flatMap_map]
    · rw [cameras, set_get, if_pos rfl] at gone ⊢
      dsimp only at gone ⊢
      have retired : o ∈ entriesOf s.cameras[n].outstanding
          (waitingTickets s n (surplus (s.cameras[n].cfg.position + s.cameras[n].cfg.deadline) s.track.length)) := by
        by_contra stays
        exact gone (List.mem_filter.2 ⟨listed, decide_eq_true stays⟩)
      have length := entriesOf_length_le (out := s.cameras[n].outstanding) distinct
      rcases Nat.lt_or_ge 16 s.cameras[n].outstanding.length with many | few
      · exact .inr many
      · exact .inl (mem_foldl_addLate (by rw [List.length_map]; omega) (List.mem_map_of_mem retired))
    · intro part other
      cases part <;> simp [Part.same, deadlineCheck_frame] at other ⊢

end Sys2Proof.Machine
end


section
/-! The camera ports: verdicts (O25), status records (O26), and the bytes that make them (O27). -/

set_option Elab.async false

namespace Sys2Proof.Machine

/-! ## The port of one camera -/

/-- The camera has its port selected, and its record is replaced. -/
def State.onPort (n : CameraId) (c : Camera) (s : State) : State :=
  { s with pins := { s.pins with deselected := s.pins.deselected.set n false }, cameras := s.cameras.set n c }

theorem onPort_onPort (n : CameraId) (c d : Camera) (s : State) : (s.onPort n d).onPort n c = s.onPort n c := by
  unfold State.onPort
  simp only [Vector.set_set]

theorem onPort_camera (n : CameraId) (c : Camera) (s : State) : (s.onPort n c).cameras[n] = c := by
  unfold State.onPort
  rw [set_get, if_pos rfl]

theorem mapCamera_onPort (n : CameraId) (f : Camera → Camera) (c : Camera) (s : State) :
    (s.onPort n c).mapCamera n f = s.onPort n (f c) := by
  have camera : (s.onPort n c).cameras.set n (f (s.onPort n c).cameras[n]) = s.cameras.set n (f c) := by
    rw [onPort_camera]
    exact Vector.set_set ..
  exact congrArg (fun cameras => { s.onPort n c with cameras := cameras }) camera

theorem raiseEvent_mapCamera (kind : EventKind) (unit : Nat) (detail1 detail2 : Half) (n : CameraId) (f : Camera → Camera)
    (s : State) :
    (raiseEvent kind unit detail1 detail2 s).mapCamera n f = raiseEvent kind unit detail1 detail2 (s.mapCamera n f) := by
  have events : (s.mapCamera n f).events = s.events := rfl
  unfold raiseEvent
  dsimp only
  rw [events]
  split_ifs <;> rfl

/-- A byte on an enabled port is handed to the record assembly with the bits dropped (R27). -/
theorem takeByte_of_enabled {n : CameraId} {s : State} (enabled : s.cameras[n].cfg.enabled = true) (kindByte : Bool)
    (b : Byte) :
    takeByte n kindByte b s =
      if kindByte then takeKind n b (s.onPort n { s.cameras[n] with bits := [] })
      else takeParameter n b (s.onPort n { s.cameras[n] with bits := [] }) := by
  unfold takeByte
  dsimp only
  rw [if_pos enabled]
  rfl

theorem takeByte_of_disabled {n : CameraId} {s : State} (disabled : s.cameras[n].cfg.enabled = false) (kindByte : Bool)
    (b : Byte) : takeByte n kindByte b s = selectPort n s := by
  unfold takeByte
  dsimp only
  rw [disabled]
  rfl

/-- On a port that already has a record of its own, a byte finds that record. -/
theorem takeByte_onPort {n : CameraId} {c : Camera} (enabled : c.cfg.enabled = true) (kindByte : Bool) (b : Byte) (s : State) :
    takeByte n kindByte b (s.onPort n c) =
      if kindByte then takeKind n b (s.onPort n { c with bits := [] })
      else takeParameter n b (s.onPort n { c with bits := [] }) := by
  rw [takeByte_of_enabled (by rw [onPort_camera]; exact enabled), onPort_camera, onPort_onPort]

/-! ## Kind bytes and parameter bytes (R29, R30) -/

theorem takeKind_onPort {n : CameraId} {c : Camera} (between : ∀ k ps, c.receiver ≠ .collecting k ps) (b : Byte) (s : State) :
    takeKind n b (s.onPort n c) =
      match recordOfKind b with
      | some kind => s.onPort n { c with receiver := .collecting kind [] }
      | none => raiseEvent .unknownRecord n.val (b.setWidth 16) 0 (s.onPort n { c with receiver := .discarding }) := by
  unfold takeKind setReceiver
  rw [onPort_camera]
  cases receiver : c.receiver with
  | collecting k ps => exact absurd receiver (between k ps)
  | idle => cases recordOfKind b <;> dsimp only <;> rw [mapCamera_onPort]
  | discarding => cases recordOfKind b <;> dsimp only <;> rw [mapCamera_onPort]

theorem takeKind_onPort_collecting {n : CameraId} {c : Camera} {k : RecordKind} {ps : List Byte}
    (receiver : c.receiver = .collecting k ps) (b : Byte) (s : State) :
    takeKind n b (s.onPort n c) =
      match recordOfKind b with
      | some kind =>
        raiseEvent .brokenRecord n.val (k.code.setWidth 16) (detail ps.length)
          (s.onPort n { c with receiver := .collecting kind [] })
      | none =>
        raiseEvent .unknownRecord n.val (b.setWidth 16) 0
          (raiseEvent .brokenRecord n.val (k.code.setWidth 16) (detail ps.length)
            (s.onPort n { c with receiver := .discarding })) := by
  unfold takeKind setReceiver
  rw [onPort_camera, receiver]
  cases recordOfKind b <;> dsimp only <;> rw [raiseEvent_mapCamera, mapCamera_onPort]

theorem takeParameter_onPort_idle {n : CameraId} {c : Camera} (receiver : c.receiver = .idle) (b : Byte) (s : State) :
    takeParameter n b (s.onPort n c) = s.onPort n { c with strayCount := countUpTo maxHalf c.strayCount } := by
  unfold takeParameter
  rw [onPort_camera, receiver]
  dsimp only
  rw [mapCamera_onPort, receiver]

theorem takeParameter_onPort_discarding {n : CameraId} {c : Camera} (receiver : c.receiver = .discarding) (b : Byte)
    (s : State) : takeParameter n b (s.onPort n c) = s.onPort n c := by
  unfold takeParameter
  rw [onPort_camera, receiver]

theorem takeParameter_onPort_more {n : CameraId} {c : Camera} {kind : RecordKind} {ps : List Byte}
    (receiver : c.receiver = .collecting kind ps) {b : Byte} (more : ps.length + 1 < kind.params) (s : State) :
    takeParameter n b (s.onPort n c) = s.onPort n { c with receiver := .collecting kind (ps ++ [b]) } := by
  unfold takeParameter setReceiver
  rw [onPort_camera, receiver]
  dsimp only
  rw [List.length_append, List.length_singleton, if_pos more, mapCamera_onPort]

theorem takeParameter_onPort_last {n : CameraId} {c : Camera} {kind : RecordKind} {ps : List Byte}
    (receiver : c.receiver = .collecting kind ps) {b : Byte} (last : kind.params ≤ ps.length + 1) (s : State) :
    takeParameter n b (s.onPort n c) =
      takeRecord n kind (ps ++ [b]) (s.onPort n { c with receiver := .idle, silence := 0 }) := by
  unfold takeParameter setReceiver
  rw [onPort_camera, receiver]
  dsimp only
  rw [List.length_append, List.length_singleton, if_neg (Nat.not_lt.2 last), mapCamera_onPort]

/-! ## Whole records between records (R29) -/

/-- The port after a record that came whole: no bits, the receiver in IDLE, the silence ended. -/
def State.afterRecord (n : CameraId) (s : State) : State :=
  s.onPort n { s.cameras[n] with bits := [], receiver := .idle, silence := 0 }

section
variable {n : CameraId} {s : State} (enabled : s.cameras[n].cfg.enabled = true) (idle : s.cameras[n].receiver = .idle)
include enabled idle

theorem sendRecord_kind {kind : RecordKind} (known : recordOfKind kind.code = some kind) (params : List Byte) :
    sendRecord n kind params s =
      forEach (params.map fun b => (false, b)) (fun b t => takeByte n b.1 b.2 t)
        (s.onPort n { s.cameras[n] with bits := [], receiver := .collecting kind [] }) := by
  unfold sendRecord missingBytes
  rw [idle]
  dsimp only
  rw [forEach_cons, takeByte_of_enabled enabled, if_pos rfl, takeKind_onPort fun k ps held => by
    rw [show _ = PortReceiver.idle from idle] at held
    cases held]
  rw [known]

theorem sendRecord_status (v : Byte) : sendRecord n .status [v] s = takeRecord n .status [v] (s.afterRecord n) := by
  rw [sendRecord_kind enabled idle rfl]
  have one := takeByte_onPort (c := { s.cameras[n] with bits := [], receiver := .collecting .status [] }) enabled false v s (n := n)
  have last := takeParameter_onPort_last (n := n) (c := { s.cameras[n] with bits := [], receiver := .collecting .status [] })
    (kind := .status) (ps := []) rfl (b := v) (Nat.le_refl 1) s
  exact one.trans last

theorem sendRecord_verdict (b₀ b₁ b₂ : Byte) :
    sendRecord n .verdict [b₀, b₁, b₂] s = takeRecord n .verdict [b₀, b₁, b₂] (s.afterRecord n) := by
  have byte (ps : List Byte) (b : Byte) :
      takeByte n false b (s.onPort n { s.cameras[n] with bits := [], receiver := .collecting .verdict ps }) =
        takeParameter n b (s.onPort n { s.cameras[n] with bits := [], receiver := .collecting .verdict ps }) :=
    takeByte_onPort (c := { s.cameras[n] with bits := [], receiver := .collecting .verdict ps }) enabled false b s
  have more (ps : List Byte) (b : Byte) (short : ps.length + 1 < 3) :
      takeByte n false b (s.onPort n { s.cameras[n] with bits := [], receiver := .collecting .verdict ps }) =
        s.onPort n { s.cameras[n] with bits := [], receiver := .collecting .verdict (ps ++ [b]) } :=
    (byte ps b).trans (takeParameter_onPort_more
      (c := { s.cameras[n] with bits := [], receiver := .collecting .verdict ps }) (kind := .verdict) rfl short s)
  have last : takeByte n false b₂ (s.onPort n { s.cameras[n] with bits := [], receiver := .collecting .verdict [b₀, b₁] }) =
      takeRecord n .verdict [b₀, b₁, b₂] (s.afterRecord n) :=
    (byte [b₀, b₁] b₂).trans (takeParameter_onPort_last
      (c := { s.cameras[n] with bits := [], receiver := .collecting .verdict [b₀, b₁] }) (kind := .verdict) rfl
        (Nat.le_refl 3) s)
  rw [sendRecord_kind enabled idle rfl]
  simp only [List.map_cons, List.map_nil, forEach_cons, forEach_nil]
  rw [more [] b₀ (by decide), List.nil_append, more [b₀] b₁ (Nat.lt_succ_self 2)]
  exact last

end

/-! ## Verdicts (R40, R41) -/

theorem Slot.merge_ticket (sl : Slot) (n : CameraId) (mask classes : ClassSet) : (sl.merge n mask classes).ticket = sl.ticket := by
  unfold Slot.merge
  split <;> rfl

theorem Slot.merge_eq (sl : Slot) (n : CameraId) (mask classes : ClassSet) :
    sl.merge n mask classes =
      if sl.occupancy = .removed then sl
      else
        { sl with
          defects := sl.defects ||| (classes &&& 0x0FFF &&& mask)
          verdicts := sl.verdicts.map fun e =>
            if e.camera = n ∧ e.verdict = .awaited then
              { camera := n
                verdict := if classes &&& 0x0FFF &&& mask = 0 then .pass (classes &&& 0x0FFF)
                  else .defect (classes &&& 0x0FFF) }
            else e } := by
  have entries (v : Verdict) :
      (fun e : VerdictEntry => if e.camera = n ∧ e.verdict = .awaited then { e with verdict := v } else e) =
        fun e => if e.camera = n ∧ e.verdict = .awaited then { camera := n, verdict := v } else e := by
    funext e
    by_cases own : e.camera = n ∧ e.verdict = .awaited
    · rw [if_pos own, if_pos own, own.1]
    · rw [if_neg own, if_neg own]
  unfold Slot.merge Slot.settleEntry
  dsimp only
  rw [entries]

theorem takeRecord_verdict (n : CameraId) (trigger : Byte) (classes : ClassSet) (s : State) :
    takeRecord n .verdict [trigger, BitVec.ofNat 8 (classes.toNat / 256), BitVec.ofNat 8 classes.toNat] s =
      takeVerdict n trigger classes s :=
  congrArg (fun c => takeVerdict n trigger c s) (half_byte2 classes)

theorem exec_verdict {n : CameraId} {s : State} (enabled : s.cameras[n].cfg.enabled = true)
    (idle : s.cameras[n].receiver = .idle) (trigger : Byte) (classes : ClassSet) :
    exec (.verdict n trigger classes) s = .next (takeVerdict n trigger classes (s.afterRecord n)) :=
  congrArg Host.Outcome.next ((sendRecord_verdict enabled idle _ _ _).trans (takeRecord_verdict n trigger classes _))

/-- Settles O25: the number is looked up in the list, and its slot by its ticket. -/
theorem verdictIsMatchedByNumber : Obligations.VerdictIsMatchedByNumber := by
  intro n trigger classes s enabled idle taken
  have camera : taken.cameras[n] = { s.cameras[n] with bits := [], receiver := .idle, silence := 0 } := onPort_camera n _ s
  have reaches : exec (.verdict n trigger classes) s = .next (takeVerdict n trigger classes taken) :=
    exec_verdict enabled idle trigger classes
  refine ⟨fun o p found place => ?_, fun unmatched => ?_⟩
  · rw [reaches]
    unfold takeVerdict
    rw [camera]
    dsimp only
    rw [found]
    dsimp only
    have there (f : Camera → Camera) : (taken.mapCamera n f).positionOf o.ticket = some p := place
    rw [editSlot_of_positionOf _ (there _), editSlotAt_eq (Slot.merge_ticket _ n _ _), Slot.merge_eq]
    rfl
  · rw [reaches]
    unfold takeVerdict
    rw [camera]
    dsimp only
    rw [unmatched]
    dsimp only
    congr 2
    by_cases late : trigger ∈ s.cameras[n].late
    · rw [if_pos late, List.contains_iff_mem.2 late]
      rfl
    · rw [if_neg late, Bool.eq_false_iff.2 (mt List.contains_iff_mem.1 late)]
      rfl

end Sys2Proof.Machine
end


section
/-! The camera ports, continued: status records and silence (O26), and the bytes that make a record (O27). -/

set_option Elab.async false

namespace Sys2Proof.Machine

/-! ## STATUS READY (R32) -/

/-- MISSING twice is MISSING once: the first leaves no AWAITED entry. -/
theorem Slot.miss_miss (sl : Slot) (n : CameraId) (required : Bool) :
    (sl.miss n required).miss n required = sl.miss n required := by
  by_cases removed : sl.occupancy = .removed
  · rw [Slot.miss_of_removed removed, Slot.miss_of_removed removed]
  cases awaits : sl.awaits n
  · rw [Slot.miss_of_not_awaiting awaits, Slot.miss_of_not_awaiting awaits]
  · refine Slot.miss_of_not_awaiting (Bool.eq_false_iff.2 fun again => ?_) required
    rw [Slot.miss_of_awaiting removed awaits, Slot.awaits_iff] at again
    obtain ⟨e, listed, own, awaited⟩ := again
    obtain ⟨old, -, rfl⟩ := List.mem_map.1 listed
    by_cases settled : old.camera = n ∧ old.verdict = .awaited
    · rw [if_pos settled] at awaited
      cases awaited
    · rw [if_neg settled] at own awaited
      exact settled ⟨own, awaited⟩

/-- The entries of a list of tickets made MISSING: each slot that carries one of them, and no other. -/
theorem forEach_missOf {s : State} (consecutive : ticketsConsecutive s) (n : CameraId) (required : Bool)
    (out : List Outstanding) :
    let t := forEach out (fun o => editSlot o.ticket fun sl => sl.miss n required) s
    t.shape = s.shape ∧ ∀ p : Nat, p < s.track.length →
      t.slotAt p = if (s.slotAt p).ticket ∈ out.map Outstanding.ticket then (s.slotAt p).miss n required else s.slotAt p := by
  induction out generalizing s with
  | nil => exact ⟨rfl, fun p _ => by simp⟩
  | cons o out ih =>
    dsimp only
    rw [forEach_cons]
    have shape : (editSlot o.ticket (fun sl => sl.miss n required) s).shape = s.shape :=
      editSlot_shape fun sl => sl.miss_occupancy n required
    have tickets (p : Nat) : ((editSlot o.ticket (fun sl => sl.miss n required) s).slotAt p).ticket = (s.slotAt p).ticket :=
      congrFun (congrArg TrackShape.tickets shape) p
    have length : (editSlot o.ticket (fun sl => sl.miss n required) s).track.length = s.track.length :=
      congrArg TrackShape.length shape
    have still : ticketsConsecutive (editSlot o.ticket (fun sl => sl.miss n required) s) :=
      (editSlot_kept o.ticket _ (.refl s)).steady.tickets consecutive
    have one (p : Nat) (onTrack : p < s.track.length) : (editSlot o.ticket (fun sl => sl.miss n required) s).slotAt p =
        if (s.slotAt p).ticket = o.ticket then (s.slotAt p).miss n required else s.slotAt p := by
      have inRing := Nat.lt_of_lt_of_le onTrack consecutive.2.1
      cases place : s.positionOf o.ticket with
      | none =>
        have unmarked : editSlot o.ticket (fun sl => sl.miss n required) s = s := by unfold editSlot; rw [place]
        rw [unmarked, if_neg]
        intro carries
        rw [← carries, positionOf_slotAt consecutive onTrack] at place
        cases place
      | some q =>
        have at_q := positionOf_ticket place
        rw [editSlot_of_positionOf _ place, editSlotAt_eq (Slot.miss_ticket _ n required),
          slotAt_putSlot q p _ s (positionOf_lt place) inRing]
        by_cases same : p = q
        · rw [if_pos same, same, at_q, if_pos rfl]
        · rw [if_neg same, if_neg]
          intro carries
          rw [← carries, positionOf_slotAt consecutive onTrack] at place
          exact same (Option.some.inj place)
    obtain ⟨shapes, slots⟩ := ih still
    refine ⟨shapes.trans shape, fun p onTrack => ?_⟩
    rw [slots p (length ▸ onTrack), tickets p, one p onTrack, List.map_cons]
    by_cases first : (s.slotAt p).ticket = o.ticket
    · rw [if_pos first, Slot.miss_miss, ite_self, if_pos (by rw [first]; exact List.mem_cons_self)]
    · rw [if_neg first]
      simp only [List.mem_cons, first, false_or]

section
variable {n : CameraId} {s : State} (enabled : s.cameras[n].cfg.enabled = true) (idle : s.cameras[n].receiver = .idle)
include enabled idle

theorem exec_statusReady : exec (.statusReady n) s = .next (statusReady n (s.afterRecord n)) :=
  congrArg Host.Outcome.next (sendRecord_status enabled idle 1)

theorem exec_statusNotReady : exec (.statusNotReady n) s = .next (statusNotReady n (s.afterRecord n)) :=
  congrArg Host.Outcome.next (sendRecord_status enabled idle 2)

theorem exec_statusUnknownValue {value : Byte} (notReady : value ≠ 1) (notNotReady : value ≠ 2) :
    exec (.statusUnknownValue n value) s =
      .next (raiseEvent .unknownRecord n.val 0x3C (value.setWidth 16) (s.afterRecord n)) := by
  have record : takeRecord n .status [value] (s.afterRecord n) =
      raiseEvent .unknownRecord n.val 0x3C (value.setWidth 16) (s.afterRecord n) := by
    unfold takeRecord
    dsimp only
    rw [if_neg notReady, if_neg notNotReady]
    rfl
  show Host.Outcome.next (if value = 1 ∨ value = 2 then s else sendRecord n .status [value] s) = _
  rw [if_neg fun known => known.elim notReady notNotReady, sendRecord_status enabled idle, record]

end

/-! ## Silence (R34) -/

theorem shareOfTick_of_due {due : State → Bool} {advanceOne act : State → State} {s : State} (reached : due (advanceOne s) = true) :
    shareOfTick due advanceOne act s = settle (act (advanceOne s)) := by
  unfold shareOfTick
  dsimp only
  rw [if_pos reached]

theorem shareOfTick_of_early {due : State → Bool} {advanceOne act : State → State} {s : State}
    (early : due (advanceOne s) = false) : shareOfTick due advanceOne act s = s := by
  unfold shareOfTick
  dsimp only
  rw [early]
  rfl

theorem silenceExpiry_of_due {s : State} {n : CameraId} (heard : s.cameras[n].state = .ready ∨ s.cameras[n].state = .notReady)
    (due : 2000 ≤ s.cameras[n].silence) :
    silenceExpiry n s =
      raiseEvent .cameraLost n.val (detail s.cameras[n].state.code) (detail s.cameras[n].outstanding.length)
        (s.mapCamera n fun c => { c with state := .lost }) := by
  unfold silenceExpiry
  exact if_pos ⟨heard, due⟩

theorem shareSilence_of_due {s : State} {n : CameraId} (run : s.pins.run = true)
    (heard : s.cameras[n].state = .ready ∨ s.cameras[n].state = .notReady) (last : s.cameras[n].silence = 1999) :
    shareSilence n s =
      settle
        (raiseEvent .cameraLost n.val (detail s.cameras[n].state.code) (detail s.cameras[n].outstanding.length)
          { s with cameras := s.cameras.set n { s.cameras[n] with silence := 2000, state := .lost } }) := by
  have risen : s.cameras[n].tick s.pins.run = { s.cameras[n] with silence := 2000 } := by
    rw [camera_tick_eq, if_pos ⟨run, heard⟩, last]
  have advanced : s.mapCamera n (Camera.tick s.pins.run) =
      { s with cameras := s.cameras.set n { s.cameras[n] with silence := 2000 } } := by
    rw [← risen]
    rfl
  have camera : ({ s with cameras := s.cameras.set n { s.cameras[n] with silence := 2000 } } : State).cameras[n] =
      { s.cameras[n] with silence := 2000 } := by
    rw [set_get, if_pos rfl]
  have lost : ({ s with cameras := s.cameras.set n { s.cameras[n] with silence := 2000 } } : State).mapCamera n
      (fun c => { c with state := .lost }) =
        { s with cameras := s.cameras.set n { s.cameras[n] with silence := 2000, state := .lost } } := by
    unfold State.mapCamera updateAt
    rw [camera]
    simp only [Vector.set_set]
  unfold shareSilence
  rw [shareOfTick_of_due]
  · rw [advanced, silenceExpiry_of_due (by rw [camera]; exact heard) (by rw [camera]), camera, lost]
  · rw [advanced, camera]
    obtain ready | notReady := heard
    · rw [ready, run]
      rfl
    · rw [notReady, run]
      rfl

/-- Settles O26: each status record as the port's record completes, and the silence at its last tick. -/
theorem statusRecordsSetTheCamera : Obligations.StatusRecordsSetTheCamera := by
  refine ⟨fun n value s enabled idle => ?_, fun n s => ⟨fun run heard last => ?_, rfl⟩⟩
  · intro old c pins taken
    have camera : (s.afterRecord n).cameras[n] = c := onPort_camera n _ s
    refine ⟨fun consecutive => ?_, fun ready => ?_, fun notReady => ?_, fun other other' =>
      exec_statusUnknownValue enabled idle other other'⟩
    · have stillConsecutive : ticketsConsecutive (s.afterRecord n) := consecutive
      obtain ⟨shape, slots⟩ := forEach_missOf stillConsecutive n old.cfg.required old.outstanding
      have cameras : (forEach old.outstanding (fun o => editSlot o.ticket fun sl => sl.miss n old.cfg.required)
          (s.afterRecord n)).cameras = (s.afterRecord n).cameras :=
        forEach_cameras _ _ _ fun o t => (editSlot_frame o.ticket _ t).2.2.1
      have frame : keepsBut [.track] (s.afterRecord n) (forEach old.outstanding
          (fun o => editSlot o.ticket fun sl => sl.miss n old.cfg.required) (s.afterRecord n)) := by
        intro part other
        cases part <;> simp [Part.same, editSlot_frame] at other ⊢
      have tallies := forEach_keeps (fun t : State => t.track.tallies) old.outstanding
        (fun o => editSlot o.ticket fun sl => sl.miss n old.cfg.required) (fun o t => by
          unfold editSlot
          split <;> rfl) (s.afterRecord n)
      have rule : statusReady n (s.afterRecord n) =
          (if old.state = .ready ∧ old.outstanding = [] then
            (forEach old.outstanding (fun o => editSlot o.ticket fun sl => sl.miss n old.cfg.required)
              (s.afterRecord n)).mapCamera n fun c => { c.emptyLists with trigger := 0, state := .ready, silence := 0 }
          else raiseEvent .cameraReady n.val (detail old.state.code) (detail old.outstanding.length)
            ((forEach old.outstanding (fun o => editSlot o.ticket fun sl => sl.miss n old.cfg.required)
              (s.afterRecord n)).mapCamera n fun c => { c.emptyLists with trigger := 0, state := .ready, silence := 0 })) := by
        unfold statusReady
        rw [camera]
      generalize forEach old.outstanding (fun o => editSlot o.ticket fun sl => sl.miss n old.cfg.required) (s.afterRecord n) = t at *
      refine ⟨t.mapCamera n fun c => { c.emptyLists with trigger := 0, state := .ready, silence := 0 }, ?_,
        frame .pins (by decide), ?_, slots, congrArg TrackShape.head shape, congrArg TrackShape.nextTicket shape,
        congrArg TrackShape.length shape, tallies, fun part other => ?_⟩
      · rw [exec_statusReady enabled idle, rule]
      · have set (d : Camera) : (s.afterRecord n).cameras.set n d = s.cameras.set n d := Vector.set_set ..
        rw [set_camera, cameras, set, camera]
        rfl
      · have kept := frame part fun listed => other (by rw [List.mem_singleton.1 listed]; decide)
        cases part
        case pins => simp at other
        case track => simp at other
        case cameras => simp at other
        all_goals exact kept
    · rw [exec_statusNotReady enabled idle]
      unfold statusNotReady
      rw [camera]
      dsimp only
      rw [if_pos ready]
      exact congrArg (fun t => Host.Outcome.next (raiseEvent .cameraNotReady n.val 2 (detail old.outstanding.length) t))
        (mapCamera_onPort n _ c s)
    · rw [exec_statusNotReady enabled idle]
      unfold statusNotReady
      rw [camera]
      dsimp only
      rw [if_neg notReady]
      rfl
  · exact congrArg Host.Outcome.next (shareSilence_of_due run heard last)

/-! ## Bytes (R27 to R30) -/

/-- What stood in the bits of an enabled port does not matter to a whole byte. -/
theorem takeByte_onPort_bits {n : CameraId} {s : State} (enabled : s.cameras[n].cfg.enabled = true) (bits : List Bool)
    (kindByte : Bool) (b : Byte) :
    takeByte n kindByte b (s.onPort n { s.cameras[n] with bits := bits }) = takeByte n kindByte b s := by
  rw [takeByte_onPort (c := { s.cameras[n] with bits := bits }) enabled, takeByte_of_enabled enabled]

theorem clockBit_of_short {n : CameraId} {s : State} (enabled : s.cameras[n].cfg.enabled = true)
    (short : s.cameras[n].bits.length < 7) (data kindHigh : Bool) :
    clockBit n data kindHigh s = s.onPort n { s.cameras[n] with bits := s.cameras[n].bits ++ [data] } := by
  unfold clockBit
  dsimp only
  rw [if_pos enabled, List.length_append, List.length_singleton, if_pos (Nat.succ_lt_succ short)]
  rfl

/-- With bits standing in the port, a further edge adds one. -/
theorem clockBit_onPort_of_short {n : CameraId} {s : State} (enabled : s.cameras[n].cfg.enabled = true) {bits : List Bool}
    (short : bits.length < 7) (data kindHigh : Bool) :
    clockBit n data kindHigh (s.onPort n { s.cameras[n] with bits := bits }) =
      s.onPort n { s.cameras[n] with bits := bits ++ [data] } := by
  have camera := onPort_camera n { s.cameras[n] with bits := bits } s
  rw [clockBit_of_short (by rw [camera]; exact enabled) (by rw [camera]; exact short), camera, onPort_onPort]

theorem clockBit_onPort_of_last {n : CameraId} {s : State} (enabled : s.cameras[n].cfg.enabled = true) {bits : List Bool}
    (seven : bits.length = 7) (data kindHigh : Bool) :
    clockBit n data kindHigh (s.onPort n { s.cameras[n] with bits := bits }) =
      takeByte n (!kindHigh) (BitVec.ofNat 8 (setNumber (bits ++ [data]).reverse)) s := by
  have camera := onPort_camera n { s.cameras[n] with bits := bits } s
  unfold clockBit
  dsimp only
  rw [camera]
  dsimp only
  rw [if_pos enabled, List.length_append, List.length_singleton, seven, if_neg (Nat.lt_irrefl 8),
    takeByte_onPort_bits enabled]

/-- The eight bits of a byte, the most significant first, make that byte (R27). -/
theorem byte_of_bits (b : Byte) :
    BitVec.ofNat 8 (setNumber [b.getLsbD 0, b.getLsbD 1, b.getLsbD 2, b.getLsbD 3, b.getLsbD 4, b.getLsbD 5, b.getLsbD 6,
      b.getLsbD 7]) = b := by
  have bit (i : Nat) : (b.getLsbD i).toNat = b.toNat / 2 ^ i % 2 := by
    rw [BitVec.getLsbD, Nat.testBit_eq_decide_div_mod_eq]
    rcases Nat.mod_two_eq_zero_or_one (b.toNat / 2 ^ i) with zero | one
    · rw [zero]; rfl
    · rw [one]; rfl
  have small := b.isLt
  apply BitVec.eq_of_toNat_eq
  rw [BitVec.toNat_ofNat]
  simp only [setNumber, bit]
  omega

/-- Eight edges on a port with no bits standing are one byte, of the kind that the last edge shows. -/
theorem runAll_clockEdges {n : CameraId} {s : State} (enabled : s.cameras[n].cfg.enabled = true)
    (empty : s.cameras[n].bits = []) (d₀ d₁ d₂ d₃ d₄ d₅ d₆ d₇ k₀ k₁ k₂ k₃ k₄ k₅ k₆ kind : Bool) :
    runAll
        [.cameraClockEdge n d₀ k₀, .cameraClockEdge n d₁ k₁, .cameraClockEdge n d₂ k₂, .cameraClockEdge n d₃ k₃,
          .cameraClockEdge n d₄ k₄, .cameraClockEdge n d₅ k₅, .cameraClockEdge n d₆ k₆, .cameraClockEdge n d₇ kind] s =
      .next (takeByte n (!kind) (BitVec.ofNat 8 (setNumber [d₇, d₆, d₅, d₄, d₃, d₂, d₁, d₀])) s) := by
  have first : clockBit n d₀ k₀ s = s.onPort n { s.cameras[n] with bits := [d₀] } := by
    rw [clockBit_of_short enabled (by rw [empty]; decide), empty]
    rfl
  have edge (bits : List Bool) (d k : Bool) (short : bits.length < 7) :
      exec (.cameraClockEdge n d k) (s.onPort n { s.cameras[n] with bits := bits }) =
        .next (s.onPort n { s.cameras[n] with bits := bits ++ [d] }) :=
    congrArg Host.Outcome.next (clockBit_onPort_of_short enabled short d k)
  have start : exec (.cameraClockEdge n d₀ k₀) s = .next (s.onPort n { s.cameras[n] with bits := [d₀] }) :=
    congrArg Host.Outcome.next first
  have last : exec (.cameraClockEdge n d₇ kind) (s.onPort n { s.cameras[n] with bits := [d₀, d₁, d₂, d₃, d₄, d₅, d₆] }) =
      .next (takeByte n (!kind) (BitVec.ofNat 8 (setNumber [d₇, d₆, d₅, d₄, d₃, d₂, d₁, d₀])) s) :=
    congrArg Host.Outcome.next (clockBit_onPort_of_last enabled rfl d₇ kind)
  simp only [runAll, start, edge _ _ _ (show [d₀].length < 7 from Nat.lt_of_sub_eq_succ rfl), List.cons_append, List.nil_append,
    edge _ _ _ (show [d₀, d₁].length < 7 from Nat.lt_of_sub_eq_succ rfl),
    edge _ _ _ (show [d₀, d₁, d₂].length < 7 from Nat.lt_of_sub_eq_succ rfl),
    edge _ _ _ (show [d₀, d₁, d₂, d₃].length < 7 from Nat.lt_of_sub_eq_succ rfl),
    edge _ _ _ (show [d₀, d₁, d₂, d₃, d₄].length < 7 from Nat.lt_of_sub_eq_succ rfl),
    edge _ _ _ (show [d₀, d₁, d₂, d₃, d₄, d₅].length < 7 from Nat.lt_of_sub_eq_succ rfl), last]

end Sys2Proof.Machine
end


section
/-! The bytes that make a camera's record (O27). -/

set_option Elab.async false

namespace Sys2Proof.Machine

/-- The part as it stands with the port between records. -/
def State.between (n : CameraId) (s : State) : State :=
  { s with cameras := s.cameras.set n { s.cameras[n] with receiver := .idle } }

theorem between_camera (n : CameraId) (s : State) :
    (s.between n).cameras[n] = { s.cameras[n] with receiver := .idle } := by
  unfold State.between
  rw [set_get, if_pos rfl]

theorem between_afterRecord (n : CameraId) (s : State) : (s.between n).afterRecord n = s.afterRecord n := by
  unfold State.afterRecord
  rw [between_camera]
  unfold State.onPort State.between
  simp only [Vector.set_set]

theorem takeByte_parameter {n : CameraId} {s : State} (enabled : s.cameras[n].cfg.enabled = true) (b : Byte) :
    takeByte n false b s = takeParameter n b (s.onPort n { s.cameras[n] with bits := [] }) :=
  takeByte_of_enabled enabled false b

theorem takeByte_kind {n : CameraId} {s : State} (enabled : s.cameras[n].cfg.enabled = true) (b : Byte) :
    takeByte n true b s = takeKind n b (s.onPort n { s.cameras[n] with bits := [] }) :=
  takeByte_of_enabled enabled true b

/-- The parameter byte that completes a record does what the whole record does on the port. -/
theorem takeByte_last {n : CameraId} {s : State} (enabled : s.cameras[n].cfg.enabled = true) {kind : RecordKind} {ps : List Byte}
    (receiver : s.cameras[n].receiver = .collecting kind ps) (last : kind.params ≤ ps.length + 1) (b : Byte) :
    takeByte n false b s = takeRecord n kind (ps ++ [b]) (s.afterRecord n) :=
  (takeByte_parameter enabled b).trans
    (takeParameter_onPort_last (c := { s.cameras[n] with bits := [] }) receiver last s)

/-- The two class bytes of a VERDICT, high byte first, make its class set (11.4). -/
theorem takeRecord_verdict_bytes (n : CameraId) (trigger high low : Byte) (s : State) :
    takeRecord n .verdict [trigger, high, low] s = takeVerdict n trigger (high ++ low) s := rfl

/-- Settles O27: each byte by what the receiver is in, eight edges as one byte, and the disabled port. -/
theorem portBytesAssembleRecords : Obligations.PortBytesAssembleRecords := by
  refine ⟨fun n value s enabled => ?_, fun n value k₀ k₁ k₂ k₃ k₄ k₅ k₆ kind s enabled empty => ?_,
    fun n s enabled => ⟨?_, fun data kindHigh short => congrArg Host.Outcome.next (clockBit_of_short enabled short data kindHigh)⟩,
    fun n value data kindHigh s disabled => ⟨?_, ?_, ?_, ?_⟩⟩
  · intro taken c
    have kindByte : exec (.cameraKindByte n value) s = .next (takeKind n value (s.onPort n c)) :=
      congrArg Host.Outcome.next (takeByte_kind enabled value)
    have parameter : exec (.cameraParameterByte n value) s = .next (takeParameter n value (s.onPort n c)) :=
      congrArg Host.Outcome.next (takeByte_parameter enabled value)
    have receiver : c.receiver = s.cameras[n].receiver := rfl
    refine ⟨fun kind known => ?_, fun unknown free => ?_, fun kind ps unknown held => ?_, fun idle => ⟨?_, ?_⟩, fun discarding => ?_,
      fun kind ps held more => ?_, fun trigger high held => ?_, fun held => ?_⟩
    · rw [kindByte]
      cases held : s.cameras[n].receiver with
      | collecting k ps =>
        rw [takeKind_onPort_collecting (receiver.trans held), known]
        rfl
      | idle =>
        rw [takeKind_onPort (fun k ps other => by rw [receiver, held] at other; cases other), known]
        rfl
      | discarding =>
        rw [takeKind_onPort (fun k ps other => by rw [receiver, held] at other; cases other), known]
        rfl
    · rw [kindByte, takeKind_onPort (c := c) free, unknown]
      rfl
    · rw [kindByte, takeKind_onPort_collecting (c := c) held, unknown]
      rfl
    · show Host.Outcome.next (if s.cameras[n].receiver = .idle then takeByte n false value s else s) = _
      rw [if_pos idle, takeByte_parameter enabled, takeParameter_onPort_idle (c := c) idle]
      rfl
    · show Host.Outcome.next (takeByte n false value s) =
        Host.Outcome.next (if s.cameras[n].receiver = .idle then takeByte n false value s else s)
      rw [if_pos idle]
    · rw [parameter, takeParameter_onPort_discarding (c := c) discarding]
      rfl
    · rw [parameter, takeParameter_onPort_more (c := c) held more]
      rfl
    · have betweenCamera := between_camera n s
      have whole := exec_verdict (s := s.between n) (by rw [betweenCamera]; exact enabled) (by rw [betweenCamera])
        trigger (high ++ value)
      refine Eq.trans ?_ whole.symm
      rw [between_afterRecord, ← takeRecord_verdict_bytes]
      exact congrArg Host.Outcome.next (takeByte_last enabled held (Nat.le_refl 3) value)
    · have betweenCamera := between_camera n s
      have on : (s.between n).cameras[n].cfg.enabled = true := by rw [betweenCamera]; exact enabled
      have idle : (s.between n).cameras[n].receiver = .idle := by rw [betweenCamera]
      have completes : exec (.cameraParameterByte n value) s = .next (takeRecord n .status [value] (s.afterRecord n)) :=
        congrArg Host.Outcome.next (takeByte_last enabled held (Nat.le_refl 1) value)
      rw [completes]
      split_ifs with isReady isNotReady
      · rw [isReady]
        exact (between_afterRecord n s ▸ exec_statusReady on idle).symm
      · rw [isNotReady]
        exact (between_afterRecord n s ▸ exec_statusNotReady on idle).symm
      · have unknown := exec_statusUnknownValue on idle isReady isNotReady
        rw [between_afterRecord] at unknown
        refine Eq.trans ?_ unknown.symm
        unfold takeRecord
        dsimp only
        rw [if_neg isReady, if_neg isNotReady]
        rfl
  · rw [runAll_clockEdges enabled empty, byte_of_bits]
    cases kind <;> rfl
  · show Host.Outcome.next (selectRise n s) = _
    unfold selectRise
    dsimp only
    rw [if_pos enabled]
    rfl
  · exact congrArg Host.Outcome.next (takeByte_of_disabled disabled true value)
  · exact congrArg Host.Outcome.next (takeByte_of_disabled disabled false value)
  · show Host.Outcome.next (clockBit n data kindHigh s) = _
    unfold clockBit
    dsimp only
    rw [disabled]
    rfl
  · show Host.Outcome.next (selectRise n s) = _
    unfold selectRise
    dsimp only
    rw [disabled]
    rfl

end Sys2Proof.Machine
end


section
/-! Confirmation, expiry and the rejects that are not confirmed (O28). -/

set_option Elab.async false

namespace Sys2Proof.Machine

/-! ## Confirmation edges and expiries (R51 to R55) -/

theorem confirmEdge_of_disabled {s : State} {g : GateId} (disabled : s.gates[g].cfg.enabled = false) : confirmEdge g s = s := by
  unfold confirmEdge
  dsimp only
  rw [disabled]
  rfl

theorem confirmEdge_of_entry {s : State} {g : GateId} {e : ConfirmEntry} {rest : List ConfirmEntry} {p : Nat}
    (enabled : s.gates[g].cfg.enabled = true) (oldest : s.gates[g].confirm = e :: rest) (place : s.positionOf e.ticket = some p) :
    confirmEdge g s =
      ((editSlotAt p (fun sl => { sl with reject := .confirmed, occupancy := .removed })
        { s with gates := s.gates.set g { s.gates[g] with confirm := rest, unconfirmed := 0 } }).mapTallies
          fun tl => { tl with rejectedConfirmed := countUpTo maxLong tl.rejectedConfirmed }) := by
  unfold confirmEdge
  dsimp only
  rw [if_pos enabled, oldest]
  dsimp only
  rw [editSlot_of_positionOf _ place]
  rfl

theorem confirmEdge_of_empty {s : State} {g : GateId} (enabled : s.gates[g].cfg.enabled = true) (empty : s.gates[g].confirm = []) :
    confirmEdge g s =
      raiseEvent .unexpectedReject g.val (s.slotAt s.gates[g].cfg.position).ticket (detail s.pitch.counter) s := by
  unfold confirmEdge
  dsimp only
  rw [if_pos enabled, empty]

/-- A confirm list sorted by age splits into the entries that have reached the window and the younger ones. -/
theorem expireConfirm_of_split {s : State} {g : GateId} {expired younger : List ConfirmEntry}
    (split : s.gates[g].confirm = expired ++ younger) (old : ∀ e ∈ expired, s.gates[g].cfg.window ≤ e.age)
    (young : ∀ e ∈ younger, e.age < s.gates[g].cfg.window) :
    expireConfirm g s =
      forEach expired (fun e t => unconfirm g .window e.ticket t)
        { s with gates := s.gates.set g { s.gates[g] with confirm := younger } } := by
  have leaves : s.gates[g].confirm.filter (fun e => decide (s.gates[g].cfg.window ≤ e.age)) = expired := by
    rw [split, List.filter_append, List.filter_eq_self.2 fun e listed => decide_eq_true (old e listed),
      List.filter_eq_nil_iff.2 fun e listed => by rw [decide_eq_false (Nat.not_le.2 (young e listed))]; exact Bool.false_ne_true,
      List.append_nil]
  have stays : s.gates[g].confirm.filter (fun e => !decide (s.gates[g].cfg.window ≤ e.age)) = younger := by
    rw [split, List.filter_append, List.filter_eq_nil_iff.2 fun e listed => by
        rw [decide_eq_true (old e listed)]
        exact Bool.false_ne_true,
      List.filter_eq_self.2 fun e listed => by rw [decide_eq_false (Nat.not_le.2 (young e listed))]; rfl, List.nil_append]
  have left : (s.mapGate g fun gt => { gt with confirm := gt.confirm.filter fun e => !decide (s.gates[g].cfg.window ≤ e.age) }) =
      { s with gates := s.gates.set g { s.gates[g] with confirm := younger } } := by
    rw [← stays]
    rfl
  unfold expireConfirm
  dsimp only
  rw [leaves]
  exact congrArg (forEach expired fun e t => unconfirm g .window e.ticket t) left

theorem expireConfirm_of_young {s : State} {g : GateId} (young : ∀ e ∈ s.gates[g].confirm, e.age < s.gates[g].cfg.window) :
    expireConfirm g s = s := by
  rw [expireConfirm_of_split (expired := []) (younger := s.gates[g].confirm) rfl (fun _ none => absurd none List.not_mem_nil) young]
  have same : s.gates.set g s.gates[g] = s.gates := Vector.set_getElem_self ..
  exact congrArg (fun gates => { s with gates := gates }) same

theorem sharePulse_of_last {s : State} {g : GateId} (last : s.gates[g].output = some 1) :
    sharePulse g s = settle { s with gates := s.gates.set g { s.gates[g] with output := none } } := by
  have risen : (s.mapGate g Gate.tick).gates[g] = { s.gates[g] with output := some 0 } := by
    rw [mapGate_get, if_pos rfl, Gate.tick, last]
    rfl
  have ended : pulseExpiry g (s.mapGate g Gate.tick) = { s with gates := s.gates.set g { s.gates[g] with output := none } } := by
    unfold pulseExpiry
    rw [risen, if_pos rfl]
    unfold State.mapGate updateAt at risen ⊢
    dsimp only at risen ⊢
    rw [risen, Vector.set_set]
  unfold sharePulse
  rw [shareOfTick_of_due (by rw [risen]; rfl), ended]

theorem sharePulse_of_early {s : State} {g : GateId} {left : Nat} (more : s.gates[g].output = some (left + 2)) :
    sharePulse g s = s := by
  have risen : (s.mapGate g Gate.tick).gates[g].output = some (left + 1) := by
    rw [mapGate_get, if_pos rfl, Gate.tick, more]
    rfl
  unfold sharePulse
  rw [shareOfTick_of_early]
  rw [risen]
  rfl

/-! ## Rejects that are not confirmed (R55) -/

/-- The slot at its position UNCONFIRMED and REJECT_UNCONFIRMED raised. -/
def markUnconfirmed (g : GateId) (k : Half) (p : Nat) (why : Half) (s : State) : State :=
  raiseEvent .rejectUnconfirmed g.val k why (editSlotAt p (fun sl => { sl with reject := .unconfirmed }) s)

theorem unconfirm_eq {s : State} {k : Half} {p : Nat} (place : s.positionOf k = some p) (g : GateId) (why : UnconfirmedReason) :
    unconfirm g why k s =
      if why.counts then countUnconfirmed g k (markUnconfirmed g k p (detail why.code) s)
      else markUnconfirmed g k p (detail why.code) s := by
  unfold unconfirm
  rw [editSlot_of_positionOf _ place]
  rfl

theorem markUnconfirmed_gate (g h : GateId) (k : Half) (p : Nat) (why : Half) (s : State) :
    (markUnconfirmed g k p why s).gates[h] = s.gates[h] := by
  unfold markUnconfirmed
  rw [show (raiseEvent .rejectUnconfirmed g.val k why (editSlotAt p (fun sl => { sl with reject := .unconfirmed }) s)).gates =
    s.gates by simp]

theorem mapGate_mapGate (g : GateId) (f h : Gate → Gate) (s : State) :
    (s.mapGate g f).mapGate g h = s.mapGate g fun gt => h (f gt) := by
  have gate : (s.mapGate g f).gates[g] = f s.gates[g] := by rw [mapGate_get, if_pos rfl]
  unfold State.mapGate updateAt at *
  dsimp only at *
  rw [gate, Vector.set_set]

theorem mapGate_const (g : GateId) (f : Gate → Gate) (s : State) : s.mapGate g f = s.mapGate g fun _ => f s.gates[g] := rfl

theorem countUnconfirmed_of_below {s : State} {g : GateId} {k : Half}
    (below : s.gates[g].unconfirmed = 0 ∨ s.gates[g].latch = true) :
    countUnconfirmed g k s =
      s.mapGate g fun _ => { s.gates[g] with unconfirmed := min (s.gates[g].unconfirmed + 1) 255 } := by
  unfold countUnconfirmed
  dsimp only
  rw [if_neg]
  · rfl
  · rintro ⟨reached, clear⟩
    obtain none | latched := below
    · rw [none] at reached
      exact absurd reached (by decide)
    · rw [latched] at clear
      cases clear

theorem countUnconfirmed_of_reached {s : State} {g : GateId} {k : Half} (one : 1 ≤ s.gates[g].unconfirmed)
    (clear : s.gates[g].latch = false) :
    countUnconfirmed g k s =
      addGateFault (raiseEvent .gateFault g.val k (detail (min (s.gates[g].unconfirmed + 1) 255))
        (s.mapGate g fun _ => { s.gates[g] with unconfirmed := min (s.gates[g].unconfirmed + 1) 255, latch := true })) := by
  unfold countUnconfirmed countUpTo
  dsimp only
  rw [if_pos ⟨by omega, by rw [clear]; rfl⟩, mapGate_mapGate, mapGate_const]

/-- Settles O28: each edge and expiry by the gate's list, and the count by whether it latches. -/
theorem rejectsAreConfirmedOrNot : Obligations.RejectsAreConfirmedOrNot := by
  refine ⟨fun g s => ⟨fun e rest p enabled oldest place => ?_, fun enabled empty => ?_, fun disabled => ?_⟩,
    fun g s => ⟨fun expired younger split old young => ?_, fun young => ?_, fun last => ?_, fun left more => ?_⟩,
    fun g k p s place => ?_⟩
  · exact congrArg Host.Outcome.next (confirmEdge_of_entry enabled oldest place)
  · exact congrArg Host.Outcome.next (confirmEdge_of_empty enabled empty)
  · exact congrArg Host.Outcome.next (confirmEdge_of_disabled disabled)
  · exact congrArg Host.Outcome.next (expireConfirm_of_split split old young)
  · exact congrArg Host.Outcome.next (expireConfirm_of_young young)
  · exact congrArg Host.Outcome.next (sharePulse_of_last last)
  · exact congrArg Host.Outcome.next (sharePulse_of_early more)
  · intro marked counted
    have counts (why : UnconfirmedReason) (yes : why.counts = true) :
        unconfirm g why k s = countUnconfirmed g k (markUnconfirmed g k p (detail why.code) s) := by
      rw [unconfirm_eq place, yes]
      rfl
    refine ⟨unconfirm_eq place g .notFired, unconfirm_eq place g .reconfigured, fun below => ⟨?_, ?_⟩, fun one clear => ⟨?_, ?_⟩⟩
    · rw [counts .window rfl, countUnconfirmed_of_below (by rw [markUnconfirmed_gate]; exact below), markUnconfirmed_gate]
      rfl
    · rw [counts .discharged rfl, countUnconfirmed_of_below (by rw [markUnconfirmed_gate]; exact below), markUnconfirmed_gate]
      rfl
    · rw [counts .window rfl, countUnconfirmed_of_reached (by rw [markUnconfirmed_gate]; exact one)
        (by rw [markUnconfirmed_gate]; exact clear), markUnconfirmed_gate]
      rfl
    · rw [counts .discharged rfl, countUnconfirmed_of_reached (by rw [markUnconfirmed_gate]; exact one)
        (by rw [markUnconfirmed_gate]; exact clear), markUnconfirmed_gate]
      rfl

end Sys2Proof.Machine
end


section
/-! The robot bus: the order in which it serves (O29), and the queues of its commands (O30). -/

set_option Elab.async false

namespace Sys2Proof.Machine

/-! ## Robots acted on in turn -/

theorem forEach_mapRobot (f : Robot → Robot) (s : State) (r : RobotId) :
    (forEach (allUnits 8) (fun r t => t.mapRobot r f) s).robots[r] = f s.robots[r] := by
  have each := forEach_own (fun _ => True) (fun t (r : RobotId) => t.robots[r]) (act := fun r t => t.mapRobot r f)
    (f := fun _ => f) (fun _ _ _ => trivial) (fun u t _ => by rw [mapRobot_get, if_pos rfl])
    (fun u v t _ other => by rw [mapRobot_get, if_neg other]) (allUnits_nodup 8) (s := s) trivial r
  rwa [if_pos (mem_allUnits r)] at each

theorem forEach_mapRobot_eq (f : Robot → Robot) (s : State) :
    forEach (allUnits 8) (fun r t => t.mapRobot r f) s =
      { s with robots := Vector.ofFn fun r : RobotId => f s.robots[r] } := by
  have only (us : List RobotId) (t : State) :
      forEach us (fun r t => t.mapRobot r f) t =
        { t with robots := (forEach us (fun r t => t.mapRobot r f) t).robots } := by
    induction us generalizing t with
    | nil => rfl
    | cons u us ih => rw [forEach_cons, ih]; rfl
  rw [only]
  congr 1
  refine Vector.ext fun k bound => ?_
  rw [Vector.getElem_ofFn]
  exact forEach_mapRobot f s ⟨k, bound⟩

/-! ## The choice of the next transaction (R84) -/

/-- The candidate's turn comes after a given one. -/
def laterThan (turn : Nat) (candidate : Option (RobotId × BusEntry)) : Prop :=
  ∀ x : RobotId × BusEntry, candidate = some x → turn < x.2.turn

theorem earlier_of_later {best : Option (RobotId × BusEntry)} {x : RobotId × BusEntry} (later : laterThan x.2.turn best) :
    earlier best (some x) = some x := by
  cases best with
  | none => rfl
  | some y => exact if_pos (later y rfl)

theorem earlier_of_first {candidate : Option (RobotId × BusEntry)} {x : RobotId × BusEntry}
    (late : laterThan x.2.turn candidate) : earlier (some x) candidate = some x := by
  cases candidate with
  | none => rfl
  | some y => exact if_neg (Nat.not_lt.2 (Nat.le_of_lt (late y rfl)))

theorem laterThan_earlier {turn : Nat} {a b : Option (RobotId × BusEntry)} (first : laterThan turn a) (second : laterThan turn b) :
    laterThan turn (earlier a b) := by
  intro x chosen
  cases a with
  | none => exact second x chosen
  | some y =>
    cases b with
    | none => exact first x chosen
    | some z =>
      unfold earlier at chosen
      dsimp only at chosen
      split at chosen
      · exact second x chosen
      · exact first x chosen

/-- Among the candidates of a list the one whose turn comes before every other's. -/
theorem foldl_earlier {us : List RobotId} {candidate : RobotId → Option (RobotId × BusEntry)} {r : RobotId} {x : RobotId × BusEntry}
    (own : candidate r = some x) (others : ∀ q : RobotId, q ≠ r → laterThan x.2.turn (candidate q))
    {best : Option (RobotId × BusEntry)} (start : best = some x ∨ (laterThan x.2.turn best ∧ r ∈ us)) :
    us.foldl (fun best q => earlier best (candidate q)) best = some x := by
  induction us generalizing best with
  | nil => exact start.elim id fun none => absurd none.2 List.not_mem_nil
  | cons u us ih =>
    rw [List.foldl_cons]
    refine ih ?_
    by_cases same : u = r
    · left
      rw [same, own]
      obtain rfl | ⟨later, -⟩ := start
      · exact if_neg (Nat.lt_irrefl _)
      · exact earlier_of_later later
    · obtain rfl | ⟨later, listed⟩ := start
      · exact .inl (earlier_of_first (others u same))
      · refine .inr ⟨laterThan_earlier later (others u same), ?_⟩
        exact (List.mem_cons.1 listed).resolve_left fun is => same is.symm

theorem nextCommand_of_first {s : State} {r : RobotId} {e : BusEntry} (own : commandCandidate s r = some e)
    (others : ∀ (q : RobotId) (y : BusEntry), q ≠ r → commandCandidate s q = some y → e.turn < y.turn) :
    nextCommand s = some (r, e) := by
  refine foldl_earlier (x := (r, e)) (r := r) (candidate := fun q => (commandCandidate s q).map fun e => (q, e)) ?_
    (fun q other y found => ?_) (.inr ⟨fun _ none => (by cases none), mem_allUnits r⟩)
  · rw [own]
    rfl
  · obtain ⟨z, candidate, rfl⟩ := Option.map_eq_some_iff.1 found
    exact others q z other candidate

theorem nextCommand_of_none {s : State} (none : ∀ q : RobotId, commandCandidate s q = .none) : nextCommand s = .none := by
  have all (us : List RobotId) :
      us.foldl (fun best q => earlier best ((commandCandidate s q).map fun e => (q, e))) .none = .none := by
    induction us with
    | nil => rfl
    | cons u us ih => rw [List.foldl_cons, none u]; exact ih
  exact all (allUnits 8)

/-- The first unit of all that has a value. -/
theorem findSome_allUnits {n : Nat} {β : Type} {f : Fin n → Option β} {u : Fin n} {b : β} (own : f u = some b)
    (first : ∀ v : Fin n, v < u → f v = none) : (allUnits n).findSome? f = some b := by
  have inList : u.val < (allUnits n).length := by rw [allUnits, List.length_finRange]; exact u.isLt
  have at_ : (allUnits n)[u.val] = u := by simp [allUnits]
  refine List.findSome?_eq_some_iff.2 ⟨(allUnits n).take u.val, u, (allUnits n).drop (u.val + 1), ?_, own, fun v listed => ?_⟩
  · have whole := List.take_append_drop u.val (allUnits n)
    rw [← List.getElem_cons_drop inList, at_] at whole
    exact whole.symm
  · obtain ⟨i, bound, rfl⟩ := List.mem_take_iff_getElem.1 listed
    refine first _ (Fin.lt_def.2 ?_)
    simp [allUnits]
    omega

theorem nextPoll_of_first {s : State} {k : Fin 8} {e : BusEntry} (own : pollCandidate s (s.bus.lastPolled + 1 + k) = some e)
    (first : ∀ l : Fin 8, l < k → pollCandidate s (s.bus.lastPolled + 1 + l) = none) :
    nextPoll s = some (s.bus.lastPolled + 1 + k, e) := by
  unfold nextPoll roundRobin
  rw [List.findSome?_map]
  refine findSome_allUnits (u := k) ?_ fun l before => ?_
  · show (pollCandidate s (s.bus.lastPolled + 1 + k)).map _ = _
    rw [own]
    rfl
  · show (pollCandidate s (s.bus.lastPolled + 1 + l)).map _ = _
    rw [first l before]
    rfl

theorem isPoll_iff (c : BusCommand) : c.isPoll = true ↔ c = .poll := by
  cases c <;> simp [BusCommand.isPoll]

theorem commandCandidate_of_lost {s : State} {r : RobotId} (lost : s.robots[r].mode = .lost) : commandCandidate s r = none := by
  unfold commandCandidate
  rw [if_pos lost]

theorem commandCandidate_of_not_lost {s : State} {r : RobotId} (there : s.robots[r].mode ≠ .lost) :
    commandCandidate s r = s.bus.queues[r].places.find? fun e => !e.command.isPoll := by
  unfold commandCandidate
  rw [if_neg there]

theorem busFree_of_none {s : State} (none : s.bus.transaction = none) (free : s.bus.clockHeldBy = .none) : busFree s = true := by
  unfold busFree
  rw [none, free]
  rfl

theorem startTransaction_of_busy {s : State} (busy : s.bus.transaction ≠ none ∨ s.bus.clockHeldBy ≠ none) :
    startTransaction s = s := by
  unfold startTransaction
  refine if_neg fun free => ?_
  unfold busFree at free
  simp only [Bool.and_eq_true, Option.isNone_iff_eq_none] at free
  obtain runs | held := busy
  · exact runs free.1
  · exact held free.2

/-- Settles O29: the three kinds of transaction in their order, and the broadcast's end robot by robot. -/
theorem busServesInOrder : Obligations.BusServesInOrder := by
  refine ⟨fun s => ⟨fun idle free => ⟨fun pending => ?_, fun r e quiet there found others => ?_,
    fun k e quiet none earlierNone found => ?_⟩, fun busy => congrArg Host.Outcome.next (startTransaction_of_busy busy)⟩,
    fun s runs free => ?_⟩
  · show Host.Outcome.next (startTransaction s) = _
    unfold startTransaction
    rw [if_pos (busFree_of_none idle free), if_pos pending]
  · have chosen := nextCommand_of_first (s := s) ((commandCandidate_of_not_lost there).trans found) fun q y other candidate => by
      by_cases lost : s.robots[q].mode = .lost
      · rw [commandCandidate_of_lost lost] at candidate
        cases candidate
      · rw [commandCandidate_of_not_lost lost] at candidate
        exact others q y other lost candidate
    have command : e.command.isPoll = false := by simpa using List.find?_some found
    show Host.Outcome.next (startTransaction s) = _
    unfold startTransaction beginAddressed
    rw [if_pos (busFree_of_none idle free), quiet, chosen]
    dsimp only
    rw [command]
    rfl
  · have noCommand := nextCommand_of_none (s := s) fun q => by
      obtain lost | polls := none q
      · exact commandCandidate_of_lost lost
      · by_cases lost : s.robots[q].mode = .lost
        · exact commandCandidate_of_lost lost
        · rw [commandCandidate_of_not_lost lost]
          exact List.find?_eq_none.2 fun y listed => by rw [polls y listed]; exact Bool.false_ne_true
    have chosen := nextPoll_of_first (s := s) (k := k) found fun l before =>
      List.find?_eq_none.2 fun y listed => by rw [isPoll_iff]; exact earlierNone l before y listed
    have isPoll : e.command.isPoll = true := by simpa using List.find?_some found
    show Host.Outcome.next (startTransaction s) = _
    unfold startTransaction beginAddressed
    rw [if_pos (busFree_of_none idle free), quiet, noCommand, chosen]
    dsimp only
    rw [if_pos isPoll, (isPoll_iff _).1 isPoll]
    rfl
  · have each : (fun rb : Robot => { rb with held := rb.held || rb.mode != RobotMode.off }) =
        fun rb => { rb with held := rb.held || decide (rb.mode ≠ RobotMode.off) } :=
      funext fun rb => by rw [bne_eq_decide_ne]
    have sent : broadcastSent s =
        forEach (allUnits 8) (fun r t => t.mapRobot r fun rb => { rb with held := rb.held || rb.mode != RobotMode.off })
          { s with bus := { s.bus with transaction := none, broadcast := false } } := by
      unfold broadcastSent
      rw [runs]
      dsimp only
      rw [free]
      rfl
    show Host.Outcome.next (settle (broadcastSent s)) = _
    rw [sent, each, forEach_mapRobot_eq]

end Sys2Proof.Machine
end


section
/-! The queues of the robot bus (O30): a command taken in, sent, retried and removed. -/

set_option Elab.async false

namespace Sys2Proof.Machine

/-! ## A command taken in (R85, R86) -/

theorem RobotQueue.enter_of_room {q : RobotQueue} (room : q.places.length < 2) (e : BusEntry) :
    q.enter e = { q with places := q.places ++ [e] } := by
  unfold RobotQueue.enter
  exact if_pos room

theorem allPolls_pair {q : RobotQueue} {a b : BusEntry} (full : q.places = [a, b]) :
    q.allPolls = (a.command.isPoll && b.command.isPoll) := by
  unfold RobotQueue.allPolls
  rw [full]
  simp

theorem allPolls_of_polls {q : RobotQueue} {a b : BusEntry} (full : q.places = [a, b]) (first : a.command = .poll)
    (second : b.command = .poll) : q.allPolls = true := by
  rw [allPolls_pair full, first, second]
  rfl

theorem allPolls_of_other {q : RobotQueue} {a b : BusEntry} (full : q.places = [a, b])
    (other : a.command ≠ .poll ∨ b.command ≠ .poll) : q.allPolls = false := by
  rw [allPolls_pair full, Bool.and_eq_false_iff, Bool.eq_false_iff, Bool.eq_false_iff, ne_eq, ne_eq, isPoll_iff, isPoll_iff]
  exact other

theorem not_room_of_full {q : RobotQueue} {a b : BusEntry} (full : q.places = [a, b]) : ¬q.places.length < 2 := by
  rw [full]
  exact Nat.lt_irrefl 2

theorem RobotQueue.enter_of_polls {q : RobotQueue} {a b : BusEntry} (full : q.places = [a, b]) (first : a.command = .poll)
    (second : b.command = .poll) (e : BusEntry) : q.enter e = { q with places := [b, e] } := by
  unfold RobotQueue.enter
  rw [if_neg (not_room_of_full full), if_pos (allPolls_of_polls full first second), full]
  rfl

theorem RobotQueue.enter_of_other {q : RobotQueue} {a b : BusEntry} (full : q.places = [a, b])
    (other : a.command ≠ .poll ∨ b.command ≠ .poll) (e : BusEntry) :
    q.enter e = { q with waiting := q.waiting ++ [e] } := by
  unfold RobotQueue.enter
  rw [if_neg (not_room_of_full full), allPolls_of_other full other]
  rfl

theorem RobotQueue.enterPoll_of_room {q : RobotQueue} (room : q.places.length < 2) (e : BusEntry) :
    q.enterPoll e = { q with places := q.places ++ [e] } := by
  unfold RobotQueue.enterPoll
  exact if_pos room

theorem RobotQueue.enterPoll_of_polls {q : RobotQueue} {a b : BusEntry} (full : q.places = [a, b]) (first : a.command = .poll)
    (second : b.command = .poll) (e : BusEntry) : q.enterPoll e = { q with places := [b, e] } := by
  unfold RobotQueue.enterPoll
  rw [if_neg (not_room_of_full full), if_pos (allPolls_of_polls full first second), full]
  rfl

theorem RobotQueue.enterPoll_of_other {q : RobotQueue} {a b : BusEntry} (full : q.places = [a, b])
    (other : a.command ≠ .poll ∨ b.command ≠ .poll) (e : BusEntry) : q.enterPoll e = q := by
  unfold RobotQueue.enterPoll
  rw [if_neg (not_room_of_full full), allPolls_of_other full other]
  rfl

/-- The robot's queue replaced, and a moment passed. -/
def State.queued (r : RobotId) (q : RobotQueue) (s : State) : State :=
  { s with bus := { s.bus with queues := s.bus.queues.set r q, moment := s.bus.moment + 1 } }

theorem raiseCommand_of_lost {r : RobotId} {c : BusCommand} {s : State} (lost : s.robots[r].mode = .lost) (other : c ≠ .fillAbort) :
    raiseCommand r c s = s := by
  unfold raiseCommand
  exact if_pos ⟨lost, other⟩

theorem raiseCommand_of_heard {r : RobotId} {c : BusCommand} {s : State} (heard : s.robots[r].mode ≠ .lost ∨ c = .fillAbort) :
    raiseCommand r c s = s.queued r (s.bus.queues[r].enter (s.newEntry c)) := by
  unfold raiseCommand
  rw [if_neg]
  · rfl
  · rintro ⟨lost, other⟩
    exact heard.elim (fun there => there lost) other

theorem raisePoll_eq (r : RobotId) (s : State) : raisePoll r s = s.queued r (s.bus.queues[r].enterPoll (s.newEntry .poll)) := rfl

/-! ## The ends of a command (R85, R87) -/

theorem removeEntry_eq (r : RobotId) (serial : Nat) (s : State) :
    removeEntry r serial s =
      { s with bus := { s.bus with queues := s.bus.queues.set r (s.bus.queues[r].keep fun e => decide (e.serial ≠ serial)) } } := by
  have others : (fun e : BusEntry => e.serial != serial) = fun e => decide (e.serial ≠ serial) :=
    funext fun e => bne_eq_decide_ne _ _
  unfold removeEntry
  rw [others]
  rfl

theorem commandSucceeded_eq (r : RobotId) (serial : Nat) (c : BusCommand) (s : State) :
    commandSucceeded r serial c s =
      { removeEntry r serial s with
        robots := s.robots.set r
          { s.robots[r] with
            failures := if s.robots[r].mode = .lost then s.robots[r].failures else 0
            held := if c = .hold then true else if c = .release then false else s.robots[r].held } } := by
  unfold commandSucceeded
  cases c <;> rfl

theorem commandFailed_of_gone {r : RobotId} {serial : Nat} {s : State}
    (gone : ∀ e ∈ s.bus.queues[r].places, e.serial ≠ serial) : commandFailed r serial s = s := by
  have none : (s.bus.queues[r].places.find? fun e => e.serial == serial) = .none :=
    List.find?_eq_none.2 fun e listed => by rw [beq_iff_eq]; exact gone e listed
  unfold commandFailed
  rw [none]

theorem commandFailed_of_first {r : RobotId} {serial : Nat} {s : State} {e : BusEntry}
    (found : (s.bus.queues[r].places.find? fun e => e.serial == serial) = some e)
    (stays : e.failed = false ∨ (e.command = .fillAbort ∧ s.robots[r].mode ≠ .off)) :
    commandFailed r serial s =
      s.queued r
        { s.bus.queues[r] with places := s.bus.queues[r].places.map fun e =>
            if e.serial = serial then { e with failed := true, turn := s.bus.moment } else e } := by
  have kept : (!e.failed || (e.command == .fillAbort && s.robots[r].mode != .off)) = true := by
    obtain first | ⟨abort, on⟩ := stays
    · rw [first]
      rfl
    · rw [abort, bne_iff_ne.2 on]
      simp
  unfold commandFailed
  rw [found]
  dsimp only
  rw [if_pos kept]
  rfl

theorem commandFailed_of_again {r : RobotId} {serial : Nat} {s : State} {e : BusEntry}
    (found : (s.bus.queues[r].places.find? fun e => e.serial == serial) = some e) (failed : e.failed = true)
    (leaves : e.command ≠ .fillAbort ∨ s.robots[r].mode = .off) : commandFailed r serial s = removeEntry r serial s := by
  have gone : (!e.failed || (e.command == .fillAbort && s.robots[r].mode != .off)) = false := by
    rw [failed]
    obtain other | off := leaves
    · rw [beq_eq_false_iff_ne.2 other]
      rfl
    · rw [off]
      simp
  unfold commandFailed
  rw [found]
  dsimp only
  rw [gone]
  rfl

section
variable {s : State} {r : RobotId} {serial phase : Nat} {c : BusCommand}
  (runs : s.bus.transaction = some (.addressed r serial c phase)) (free : s.bus.clockHeldBy = none)
include runs free

theorem commandDone_of_acked (other : c ≠ .poll) :
    commandDone true s = commandSucceeded r serial c (endTransaction s) := by
  have notPoll : c.isPoll = false := Bool.eq_false_iff.2 (mt (isPoll_iff c).1 other)
  unfold commandDone
  rw [runs]
  dsimp only
  rw [notPoll, free]
  rfl

theorem commandDone_of_refused (other : c ≠ .poll) :
    commandDone false s = countFailure r (commandFailed r serial (endTransaction s)) := by
  have notPoll : c.isPoll = false := Bool.eq_false_iff.2 (mt (isPoll_iff c).1 other)
  unfold commandDone transactionFailed
  rw [runs]
  dsimp only
  rw [notPoll, free]
  rfl

end

/-- Settles O30: the queue's cases for a command that is raised, and for the end of one that was sent. -/
theorem commandsAreQueuedAndSent : Obligations.CommandsAreQueuedAndSent := by
  refine ⟨fun r c s => ?_, fun r serial phase c s runs free other => ?_⟩
  · intro entry q withQueue
    refine ⟨raiseCommand_of_lost, fun heard => ⟨fun room => ?_, fun a b full first second => ?_, fun a b full third => ?_⟩,
      fun poll => ?_⟩
    · rw [raiseCommand_of_heard heard, RobotQueue.enter_of_room room]
      rfl
    · rw [raiseCommand_of_heard heard, RobotQueue.enter_of_polls full first second]
      rfl
    · rw [raiseCommand_of_heard heard, RobotQueue.enter_of_other full third]
      rfl
    · subst poll
      refine ⟨fun room => ?_, fun a b full first second => ?_, fun a b full third => ?_⟩
      · rw [raisePoll_eq, RobotQueue.enterPoll_of_room room]
        rfl
      · rw [raisePoll_eq, RobotQueue.enterPoll_of_polls full first second]
        rfl
      · rw [raisePoll_eq, RobotQueue.enterPoll_of_other full third]
        rfl
  · intro q removed deferred
    have removedIs : removeEntry r serial (endTransaction s) = removed := removeEntry_eq r serial (endTransaction s)
    have succeeds : exec (.commandTransactionDone true) s = .next (settle (commandSucceeded r serial c (endTransaction s))) :=
      congrArg (fun t => Host.Outcome.next (settle t)) (commandDone_of_acked runs free other)
    have fails : exec (.commandTransactionDone false) s =
        .next (settle (countFailure r (commandFailed r serial (endTransaction s)))) :=
      congrArg (fun t => Host.Outcome.next (settle t)) (commandDone_of_refused runs free other)
    refine ⟨?_, fun gone => ?_, fun e found => ⟨fun stays => ?_, fun failed leaves => ?_⟩⟩
    · rw [succeeds, commandSucceeded_eq, removedIs]
      rfl
    · rw [fails, commandFailed_of_gone (s := endTransaction s) gone]
      rfl
    · rw [fails, commandFailed_of_first (s := endTransaction s) found stays]
      rfl
    · rw [fails, commandFailed_of_again (s := endTransaction s) found failed leaves, removedIs]

end Sys2Proof.Machine
end


section
/-! The ends of POLLs (O31), and the failures that lose a robot (O32). -/

set_option Elab.async false

namespace Sys2Proof.Machine

/-! ## What a POLL reports (R82) -/

theorem pollStatus_of_failed {status code : Byte} (bad : status = 0 ∨ 5 < status.toNat ∨ (status = 5 ∧ code = 0)) :
    pollStatus status code = none := by
  have other (n : Byte) (low : 1 ≤ n.toNat) (high : n.toNat ≤ 4) : status ≠ n := by
    rintro rfl
    obtain rfl | large | ⟨rfl, -⟩ := bad
    · exact absurd low (by decide)
    · omega
    · exact absurd high (by decide)
  unfold pollStatus
  rw [if_neg (other 1 (by decide) (by decide)), if_neg (other 2 (by decide) (by decide)),
    if_neg (other 3 (by decide) (by decide)), if_neg (other 4 (by decide) (by decide)), if_neg]
  rintro ⟨rfl, reports⟩
  obtain zero | large | ⟨-, none⟩ := bad
  · exact absurd zero (by decide)
  · exact absurd large (by decide)
  · exact reports none

theorem pollStatus_of_fault {code : Byte} (reports : code ≠ 0) : pollStatus 5 code = some (.fault code) := by
  unfold pollStatus
  rw [if_neg (by decide), if_neg (by decide), if_neg (by decide), if_neg (by decide), if_pos ⟨rfl, reports⟩]

/-! ## Robots changed twice -/

theorem mapRobot_mapRobot (r : RobotId) (f h : Robot → Robot) (s : State) :
    (s.mapRobot r f).mapRobot r h = s.mapRobot r fun rb => h (f rb) := by
  have robot : (s.mapRobot r f).robots[r] = f s.robots[r] := by rw [mapRobot_get, if_pos rfl]
  unfold State.mapRobot updateAt at *
  dsimp only at *
  rw [robot, Vector.set_set]

theorem changeRobot_of_other {r : RobotId} {f : Robot → Robot} {s : State}
    (other : s.robots[r].modeCode ≠ (f s.robots[r]).modeCode) :
    changeRobot r f s =
      raiseEvent .robotMode r.val (detail (f s.robots[r]).modeCode) (detail s.robots[r].modeCode) (s.mapRobot r f) := by
  unfold changeRobot
  exact if_neg other

theorem changeRobot_of_same {r : RobotId} {f : Robot → Robot} {s : State}
    (same : s.robots[r].modeCode = (f s.robots[r]).modeCode) : changeRobot r f s = s.mapRobot r f := by
  unfold changeRobot
  exact if_pos same

/-! ## A POLL that ends (R65, R66, R74, R86) -/

section
variable {s : State} {r : RobotId} {serial phase : Nat}
  (runs : s.bus.transaction = some (.addressed r serial .poll phase)) (free : s.bus.clockHeldBy = none)
include runs free

theorem pollDone_of_status {status code : Byte} {st : RobotStatus} (reported : pollStatus status code = some st) :
    pollDone true status code s = takePoll r st (removeEntry r serial (endTransaction s)) := by
  unfold pollDone
  rw [runs]
  dsimp only
  rw [free, if_pos rfl, reported]
  rfl

theorem pollDone_of_failed {acked : Bool} {status code : Byte} (failed : acked = false ∨ pollStatus status code = none) :
    pollDone acked status code s = countFailure r (removeEntry r serial (endTransaction s)) := by
  have none : (if acked then pollStatus status code else .none) = .none := by
    obtain rfl | none := failed
    · rfl
    · rw [none, ite_self]
  unfold pollDone transactionFailed
  rw [runs]
  dsimp only
  rw [free, none]
  rfl

end

/-- A POLL recorded: its status, and no failures. -/
def recordPoll (r : RobotId) (st : RobotStatus) (s : State) : State :=
  s.mapRobot r fun rb => { rb with lastStatus := some st, failures := 0 }

theorem takePoll_of_lost {r : RobotId} {s : State} (lost : s.robots[r].mode = .lost) (st : RobotStatus) :
    takePoll r st s = endLoss r st (recordPoll r st s) := by
  unfold takePoll
  dsimp only
  rw [if_pos lost]
  rfl

theorem takePoll_of_there {r : RobotId} {s : State} (there : s.robots[r].mode ≠ .lost) {st : RobotStatus}
    (still : st = .retracted ∨ st = .moving ∨ st = .jogging) : takePoll r st s = recordPoll r st s := by
  unfold takePoll
  dsimp only
  rw [if_neg there]
  obtain rfl | rfl | rfl := still <;> rfl

theorem takePoll_of_inPosition {r : RobotId} {s : State} (there : s.robots[r].mode ≠ .lost) :
    takePoll r .inPosition s = startFilling r (recordPoll r .inPosition s) := by
  unfold takePoll
  dsimp only
  rw [if_neg there]
  rfl

theorem takePoll_of_fault {r : RobotId} {s : State} (there : s.robots[r].mode ≠ .lost) (code : Byte) :
    takePoll r (.fault code) s =
      if s.robots[r].mode = .off ∨ s.robots[r].mode = .faulted then recordPoll r (.fault code) s
      else enterFaulted r (.robot code) (recordPoll r (.fault code) s) := by
  unfold takePoll
  dsimp only
  rw [if_neg there]
  cases mode : s.robots[r].mode with
  | lost => exact absurd mode there
  | off => rfl
  | manual => rfl
  | production => rfl
  | service => rfl
  | faulted => rfl

theorem recordPoll_robot (r : RobotId) (st : RobotStatus) (s : State) :
    (recordPoll r st s).robots[r] = { s.robots[r] with lastStatus := some st, failures := 0 } := by
  unfold recordPoll
  rw [mapRobot_get, if_pos rfl]

/-- A change between two mode codes that differ raises ROBOT_MODE with both (R69). -/
theorem changeRobot_of_codes {r : RobotId} {f : Robot → Robot} {s : State} {old new : Nat} (before : s.robots[r].modeCode = old)
    (after : (f s.robots[r]).modeCode = new) (other : old ≠ new) :
    changeRobot r f s = raiseEvent .robotMode r.val (detail new) (detail old) (s.mapRobot r f) := by
  rw [changeRobot_of_other (by rw [before, after]; exact other), before, after]

theorem modeCode_of_lost {rb : Robot} (lost : rb.mode = .lost) : rb.modeCode = 6 := by
  unfold Robot.modeCode
  rw [lost]
  rfl

theorem endLoss_of_fault {r : RobotId} {s : State} (lost : s.robots[r].mode = .lost) (code : Byte) :
    endLoss r (.fault code) s =
      raiseEvent .robotMode r.val 5 6
        (s.mapRobot r fun rb => { rb with mode := .faulted, reason := some (.robot code), held := true }) :=
  changeRobot_of_codes (modeCode_of_lost lost) (new := 5) rfl (by decide)

theorem endLoss_of_other {r : RobotId} {s : State} (lost : s.robots[r].mode = .lost) {st : RobotStatus}
    (other : ∀ code, st ≠ .fault code) :
    endLoss r st s =
      raiseEvent .robotMode r.val 1 6
        (s.mapRobot r fun rb => { rb with mode := .manual, reason := none, held := true }) := by
  have rule : endLoss r st s = changeRobot r (fun rb => { rb with mode := .manual, reason := none, held := true }) s := by
    cases st with
    | fault code => exact absurd rfl (other code)
    | retracted => rfl
    | moving => rfl
    | inPosition => rfl
    | jogging => rfl
  rw [rule]
  exact changeRobot_of_codes (modeCode_of_lost lost) (new := 1) rfl (by decide)

/-- Settles O31: the POLL by its status and the mode that it finds. -/
theorem pollsAreRecorded : Obligations.PollsAreRecorded := by
  intro r serial phase statusByte codeByte s runs free freed seen back failed
  have freedIs : removeEntry r serial (endTransaction s) = freed := removeEntry_eq r serial (endTransaction s)
  have mode : freed.robots[r].mode = s.robots[r].mode := rfl
  have ends {status code : Byte} {st : RobotStatus} (reported : pollStatus status code = some st) :
      exec (.pollDone true status code) s = .next (settle (takePoll r st freed)) :=
    congrArg (fun t => Host.Outcome.next (settle t)) ((pollDone_of_status runs free reported).trans (congrArg (takePoll r st) freedIs))
  have fails {acked : Bool} {status code : Byte} (bad : acked = false ∨ pollStatus status code = none) :
      exec (.pollDone acked status code) s = failed :=
    congrArg (fun t => Host.Outcome.next (settle t)) ((pollDone_of_failed runs free bad).trans (congrArg (countFailure r) freedIs))
  have returns (lost : s.robots[r].mode = .lost) {status : Byte} (st : RobotStatus)
      (reported : pollStatus status codeByte = some st) (other : ∀ code, st ≠ .fault code) :
      exec (.pollDone true status codeByte) s = back st := by
    rw [ends reported, takePoll_of_lost (s := freed) lost, endLoss_of_other (by rw [recordPoll_robot]; exact lost) other,
      recordPoll, mapRobot_mapRobot]
  refine ⟨fun there => ⟨?_, ?_, ?_, ?_, fun reports => ?_⟩, fun lost => ⟨?_, ?_, ?_, ?_, fun reports => ?_⟩, fails (.inl rfl),
    fails (.inr (pollStatus_of_failed (.inr (.inr ⟨rfl, rfl⟩)))), fun bad =>
      fails (.inr (pollStatus_of_failed (bad.imp_right .inl)))⟩
  · rw [ends rfl, takePoll_of_there (s := freed) there (.inl rfl)]
    rfl
  · rw [ends rfl, takePoll_of_there (s := freed) there (.inr (.inl rfl))]
    rfl
  · rw [ends rfl, takePoll_of_inPosition (s := freed) there]
    rfl
  · rw [ends rfl, takePoll_of_there (s := freed) there (.inr (.inr rfl))]
    rfl
  · rw [ends (pollStatus_of_fault reports), takePoll_of_fault (s := freed) there]
    rfl
  · exact returns lost .retracted rfl fun _ other => by cases other
  · exact returns lost .moving rfl fun _ other => by cases other
  · exact returns lost .inPosition rfl fun _ other => by cases other
  · exact returns lost .jogging rfl fun _ other => by cases other
  · rw [ends (pollStatus_of_fault reports), takePoll_of_lost (s := freed) lost,
      endLoss_of_fault (by rw [recordPoll_robot]; exact lost), recordPoll, mapRobot_mapRobot]

end Sys2Proof.Machine
end


section
/-! The fills (O33 to O36): what a job's start and its pulses change, what a job that fails leaves, and what one that reports
leaves. -/

set_option Elab.async false

namespace Sys2Proof.Machine

/-! ## A job starts and counts (R74, R80, R81, R96) -/

theorem drive_of_change {d : Dose} {on : Bool} (other : d.valve ≠ on) : d.drive on = { d with valve := on, check := some 0 } := by
  unfold Dose.drive
  exact if_neg other

theorem drive_false (d : Dose) :
    d.drive false = { d with valve := false, check := if d.valve = true then some 0 else d.check } := by
  cases level : d.valve with
  | true => rw [drive_of_change (by rw [level]; decide), if_pos rfl]
  | false =>
    have still : d.drive false = d := if_pos level
    rw [still]
    cases d
    simp_all

theorem startFilling_of_approach {r : RobotId} {s : State} {j : Job} (held : s.robots[r].job = some j)
    (approach : j.state = .approach) :
    startFilling r s =
      { s with
        robots := s.robots.set r
          { s.robots[r] with
            job := some
              { j with
                state := .filling, opened := true, close := some (closeCalc j.recipe s.doses[r].estimate), noFlowTimer := 0 } }
        doses := s.doses.set r { s.doses[r].drive true with flow := 0, window := true, drip := 0 } } := by
  unfold startFilling
  rw [held]
  dsimp only
  rw [if_pos approach]
  rfl

theorem startFilling_of_other {r : RobotId} {s : State} (other : ∀ j : Job, s.robots[r].job = some j → j.state ≠ .approach) :
    startFilling r s = s := by
  unfold startFilling
  cases held : s.robots[r].job with
  | none => rfl
  | some j => exact if_neg (other j held)

theorem flowPulse_of_open {r : RobotId} {s : State} (window : s.doses[r].window = true) : flowPulse r s = countPulse r s := by
  unfold flowPulse
  exact if_pos window

/-- The robot's flow counted one up. -/
def State.flowing (r : RobotId) (s : State) : State :=
  s.mapDose r fun d => { d with flow := min (s.doses[r].flow + 1) 1048575 }

section
variable {s : State} {r : RobotId} {j : Job} (held : s.robots[r].job = some j)
include held

theorem countPulse_of_below (filling : j.state = .filling) (below : min (s.doses[r].flow + 1) 1048575 < j.closing.count) :
    countPulse r s = (s.flowing r).mapRobot r fun rb => { rb with job := some { j with noFlowTimer := 0 } } := by
  have open_ : ¬j.closing.count ≤ countUpTo Config.flowCapacity s.doses[r].flow := Nat.not_le.2 below
  unfold countPulse
  rw [held]
  dsimp only
  rw [if_pos filling, if_neg open_]
  rfl

theorem countPulse_of_reached (filling : j.state = .filling) (reached : j.closing.count ≤ min (s.doses[r].flow + 1) 1048575) :
    countPulse r s =
      ((s.flowing r).mapDose r fun d => d.drive false).mapRobot r fun rb =>
        { rb with job := some { j with state := .settling, settleTimer := 0, noFlowTimer := 0 } } := by
  have close : j.closing.count ≤ countUpTo Config.flowCapacity s.doses[r].flow := reached
  unfold countPulse
  rw [held]
  dsimp only
  rw [if_pos filling, if_pos close]
  rfl

theorem countPulse_of_settling (settling : j.state ≠ .filling) : countPulse r s = s.flowing r := by
  unfold countPulse
  rw [held]
  dsimp only
  rw [if_neg settling]
  rfl

end

theorem mapDose_mapDose (r : RobotId) (f h : Dose → Dose) (s : State) :
    (s.mapDose r f).mapDose r h = s.mapDose r fun d => h (f d) := by
  have dose : (s.mapDose r f).doses[r] = f s.doses[r] := by rw [mapDose_get, if_pos rfl]
  unfold State.mapDose updateAt at *
  dsimp only at *
  rw [dose, Vector.set_set]

theorem countDrip_eq (r : RobotId) (s : State) :
    countDrip r s =
      let counted : State := { s with doses := s.doses.set r { s.doses[r] with drip := min (s.doses[r].drip + 1) 65535 } }
      if s.doses[r].drip = 50 then raiseEvent .valveLeak r.val 51 0 counted else counted := by
  have last : (countUpTo maxHalf s.doses[r].drip = 51 ∧ s.doses[r].drip = 50) ↔ s.doses[r].drip = 50 := by
    refine and_iff_right_of_imp fun fifty => ?_
    rw [fifty]
    rfl
  unfold countDrip
  dsimp only
  simp only [last]
  rfl

/-- Settles O33: the job's start by its state, and the pulse by the window, the state and the close count. -/
theorem flowClosesTheValve : Obligations.FlowClosesTheValve := by
  refine ⟨fun r s => ⟨fun j held approach shut => ?_, startFilling_of_other⟩,
    fun r s => ⟨fun j window held => ⟨fun filling below => ?_, fun filling reached energised => ?_, fun settling => ?_⟩,
      fun shut => ?_⟩⟩
  · rw [startFilling_of_approach held approach, drive_of_change (by rw [shut]; decide)]
  · refine congrArg Host.Outcome.next ((flowPulse_of_open window).trans ?_)
    rw [countPulse_of_below held filling below]
    rfl
  · refine congrArg Host.Outcome.next ((flowPulse_of_open window).trans ?_)
    rw [countPulse_of_reached held filling reached, State.flowing, mapDose_mapDose]
    unfold State.mapDose updateAt
    beta_reduce
    rw [drive_of_change (by dsimp only; rw [energised]; decide)]
    rfl
  · refine congrArg Host.Outcome.next ((flowPulse_of_open window).trans ?_)
    rw [countPulse_of_settling held (by rw [settling]; decide)]
    rfl
  · have rule : flowPulse r s = countDrip r s := by
      unfold flowPulse
      exact if_neg (by rw [shut]; decide)
    exact congrArg Host.Outcome.next (rule.trans (countDrip_eq r s))

/-! ## A job that fails (R75, R76, R78, R104) -/

/-- The Dose Unit's record of a robot whose job has failed. -/
def failedDose (ending : Ending) (j : Job) (d : Dose) : Dose :=
  { d with
    valve := false, window := false
    check := if d.valve = true then some 0 else d.check
    lastFill :=
      if j.opened = true then
        some
          { ticket := j.ticket, ending := ending, close := j.closing, flow := d.flow
            volume := fillVolume d.flow j.recipe.kFactor, fillClass := none, afterflow := none
            learning := .notLearned, estimateAfter := d.estimate }
      else d.lastFill }

/-- The slot of a job that has failed. -/
def failedSlot (outcome : FillOutcome) (j : Job) (flow : Nat) (sl : Slot) : Slot :=
  { sl with
    fill := outcome, defects := sl.defects ||| 0x4000
    volume :=
      if j.opened = true then some { tenths := min (fillVolume flow j.recipe.kFactor) 65535, cut := false } else none }

theorem writeFailure_eq (outcome : FillOutcome) (j : Job) (flow : Nat) :
    writeFailure outcome (if j.opened then some (fillVolume flow j.recipe.kFactor) else none) =
      failedSlot outcome j flow := by
  funext sl
  unfold writeFailure failedSlot
  cases j.opened <;> rfl

theorem failJob_none {r : RobotId} {outcome : FillOutcome} {ending : Ending} {s : State} (none : s.robots[r].job = none) :
    failJob r outcome ending s = s := by
  unfold failJob
  rw [none]

section
variable {r : RobotId} {j : Job} {s : State} (held : s.robots[r].job = some j)
include held

/-- The failure of a job in one line: the dose shut, the slot written, the cycle counted, FILL_ABORT, the record, no job. -/
theorem failJob_some (outcome : FillOutcome) (ending : Ending) :
    failJob r outcome ending s =
      let shut := s.mapDose r fun d => { d.drive false with window := false }
      let written := editSlot j.ticket (failedSlot outcome j s.doses[r].flow) shut
      let told := raiseCommand r .fillAbort (if j.opened then countOn (cycleCounter r) written else written)
      dropJob r
        (if j.opened then
          recordFill r j ending s.doses[r].flow (fillVolume s.doses[r].flow j.recipe.kFactor) none none .notLearned told
        else told) := by
  unfold failJob
  rw [held]
  dsimp only
  rw [writeFailure_eq]

theorem failJob_doses (outcome : FillOutcome) (ending : Ending) :
    (failJob r outcome ending s).doses = s.doses.set r (failedDose ending j s.doses[r]) := by
  rw [failJob_some held]
  cases opened : j.opened <;>
    simp [dropJob_frame, recordFill, State.mapDose, updateAt, raiseCommand_frame, countOn_frame, editSlot_frame, opened,
      failedDose, drive_false]

theorem failJob_counters (outcome : FillOutcome) (ending : Ending) :
    (failJob r outcome ending s).counters = if j.opened = true then (countOn (cycleCounter r) s).counters else s.counters := by
  rw [failJob_some held]
  cases j.opened with
  | false => simp [dropJob_frame, raiseCommand_frame, editSlot_frame]
  | true =>
    simp only [if_true, dropJob_frame, recordFill_frame, raiseCommand_frame]
    exact countOn_congr _ (by simp [editSlot_frame])

theorem failJob_bus (outcome : FillOutcome) (ending : Ending) :
    (failJob r outcome ending s).bus = (raiseCommand r .fillAbort s).bus := by
  rw [failJob_some held]
  cases j.opened with
  | false =>
    simp only [Bool.false_eq_true, if_false, dropJob_frame]
    exact raiseCommand_congr _ _ (by simp [editSlot_frame]) (by simp [editSlot_frame])
  | true =>
    simp only [if_true, dropJob_frame, recordFill_frame]
    exact raiseCommand_congr _ _ (by simp [countOn_frame, editSlot_frame]) (by simp [countOn_frame, editSlot_frame])

theorem failJob_track (outcome : FillOutcome) (ending : Ending) :
    (failJob r outcome ending s).track = (editSlot j.ticket (failedSlot outcome j s.doses[r].flow) s).track := by
  rw [failJob_some held]
  cases j.opened with
  | false =>
    simp only [Bool.false_eq_true, if_false, dropJob_frame, raiseCommand_frame]
    exact editSlot_congr _ _ (by simp)
  | true =>
    simp only [if_true, dropJob_frame, recordFill_frame, raiseCommand_frame, countOn_frame]
    exact editSlot_congr _ _ (by simp)

end

/-- However a job fails, its robot holds none afterwards, and keeps the rest of its record. -/
theorem failJob_robots (r : RobotId) (outcome : FillOutcome) (ending : Ending) (s : State) :
    (failJob r outcome ending s).robots = s.robots.set r { s.robots[r] with job := none } := by
  cases held : s.robots[r].job with
  | none =>
    have same : ({ s.robots[r] with job := none } : Robot) = s.robots[r] := by rw [← held]
    rw [failJob_none held, same]
    exact (Vector.set_getElem_self _).symm
  | some j =>
    rw [failJob_some held]
    dsimp only [dropJob, State.mapRobot, updateAt]
    cases j.opened <;> simp [recordFill_frame, raiseCommand_frame, countOn_frame, editSlot_frame]

theorem failJob_robot (r : RobotId) (outcome : FillOutcome) (ending : Ending) (s : State) :
    (failJob r outcome ending s).robots[r] = { s.robots[r] with job := none } := by
  rw [failJob_robots, set_get, if_pos rfl]

theorem failJob_doses_other {r q : RobotId} (other : q ≠ r) (outcome : FillOutcome) (ending : Ending) (s : State) :
    (failJob r outcome ending s).doses[q] = s.doses[q] := by
  cases held : s.robots[r].job with
  | none => rw [failJob_none held]
  | some j => rw [failJob_doses held, set_get, if_neg other]

theorem failJob_keepsBut (r : RobotId) (outcome : FillOutcome) (ending : Ending) (s : State) :
    keepsBut [.track, .robots, .doses, .bus, .counters, .events] s (failJob r outcome ending s) := by
  intro part other
  cases part <;> simp [Part.same, failJob_frame] at other ⊢

/-- A raised command keeps the other robots' queues. -/
theorem raiseCommand_queue_other {r q : RobotId} (other : q ≠ r) (c : BusCommand) (s : State) :
    (raiseCommand r c s).bus.queues[q] = s.bus.queues[q] := by
  unfold raiseCommand
  split
  · rfl
  · show (s.mapQueue r _).bus.queues[q] = _
    rw [mapQueue_get, if_neg other]

/-- Editing the slot that a ticket names writes that slot and keeps the others. -/
theorem editSlot_at {s : State} {t : Half} {f : Slot → Slot} {p : Nat} (named : s.positionOf t = some p) (bound : p < 128)
    (ticket : ∀ sl, (f sl).ticket = sl.ticket) :
    (editSlot t f s).slotAt p = f (s.slotAt p) ∧ slotsKeptBut p s (editSlot t f s) := by
  obtain ⟨head, next, length, tallies, -⟩ := editSlot_track t f s
  refine ⟨by rw [slotAt_editSlot t f s ticket bound, if_pos named], head, next, length, tallies, fun q inRing other => ?_⟩
  rw [slotAt_editSlot t f s ticket inRing, if_neg (by rw [named]; simpa using Ne.symm other)]

/-- Slots are read from the track alone. -/
theorem slotsKeptBut_of_track {p : Nat} {s t u : State} (same : u.track = t.track) (kept : slotsKeptBut p s t) : slotsKeptBut p s u := by
  obtain ⟨head, next, length, tallies, slots⟩ := kept
  exact ⟨by rw [same, head], by rw [same, next], by rw [same, length], by rw [same, tallies],
    fun q inRing other => (slotAt_of_track same q).trans (slots q inRing other)⟩

/-- Settles O34: the failed job's parts one by one. -/
theorem failedJobsLeaveTheirMark : Obligations.FailedJobsLeaveTheirMark := by
  intro r outcome ending s
  refine ⟨failJob_none, ?_⟩
  intro j p held named bound t
  obtain ⟨written, kept⟩ := editSlot_at (f := failedSlot outcome j s.doses[r].flow) named bound fun _ => rfl
  have track : t.track = _ := failJob_track held outcome ending
  have counters : t.counters = _ := failJob_counters held outcome ending
  have bus : t.bus = (raiseCommand r .fillAbort s).bus := failJob_bus held outcome ending
  have dose : t.doses[r] = failedDose ending j s.doses[r] := by rw [failJob_doses held, set_get, if_pos rfl]
  refine ⟨failJob_robots r outcome ending s, (slotAt_of_track track p).trans written, slotsKeptBut_of_track track kept, by rw [dose]; rfl,
    by rw [dose]; rfl, by rw [dose]; rfl, by rw [dose]; rfl, by rw [dose]; rfl, by rw [dose]; rfl, by rw [dose]; rfl,
    by rw [dose]; rfl, fun shut => ⟨?_, ?_⟩, fun opened => ⟨?_, ?_⟩, fun q other => ⟨failJob_doses_other other outcome ending s, ?_⟩,
    fun i other => ?_, bus, failJob_keepsBut r outcome ending s⟩
  · rw [dose, failedDose, shut]
    rfl
  · rw [counters, shut]
    rfl
  · rw [counters, if_pos opened]
    exact (countOn_counters (cycleCounter r) (cycleCounter r) s).2
  · rw [dose, failedDose]
    exact if_pos opened
  · rw [bus, raiseCommand_queue_other other]
  · rw [counters]
    split
    · exact (countOn_counters (cycleCounter r) i s).1 other
    · rfl

end Sys2Proof.Machine
end


section
/-! The jobs that report (O35), and the limits that end a job (O36). -/

set_option Elab.async false

namespace Sys2Proof.Machine

/-! ## A job that reports (R77, R98 to R104) -/

theorem fillClassOf_eq (c : Recipe) (v : Nat) :
    fillClassOf c v =
      if (v : Int) < (c.target : Int) - c.underTol then .under else if c.target + c.overTol < v then .over else .ok := by
  have high : ((c.target : Int) + (c.overTol : Int) < (v : Int)) ↔ c.target + c.overTol < v := by omega
  unfold fillClassOf
  simp only [high]

theorem fillClassOf_outcome (c : Recipe) (v : Nat) :
    (fillClassOf c v).outcome =
      if (v : Int) < (c.target : Int) - c.underTol then .under else if c.target + c.overTol < v then .over else .ok := by
  rw [fillClassOf_eq]
  split_ifs <;> rfl

theorem fillClassOf_defects (c : Recipe) (v : Nat) :
    (fillClassOf c v).defects =
      if (v : Int) < (c.target : Int) - c.underTol then 0x1000 else if c.target + c.overTol < v then 0x2000 else 0 := by
  rw [fillClassOf_eq]
  split_ifs <;> rfl

/-- The records an event queue holds after an event depend on the queue and machine time alone. -/
theorem raiseEvent_events_congr {s t : State} (events : t.events = s.events) (time : t.time = s.time) (kind : EventKind)
    (unit : Nat) (detail1 detail2 : Half) :
    (raiseEvent kind unit detail1 detail2 t).events = (raiseEvent kind unit detail1 detail2 s).events := by
  cases s
  cases t
  obtain rfl : _ = _ := events
  obtain rfl : _ = _ := time
  unfold raiseEvent enterRecord State.recordOf
  dsimp only
  split_ifs <;> rfl

theorem countOn_events_congr (i : CounterId) {s t : State} (counters : t.counters = s.counters) (events : t.events = s.events)
    (time : t.time = s.time) : (countOn i t).events = (countOn i s).events := by
  unfold countOn storeCounter
  dsimp only
  rw [counters]
  rw [apply_ite State.events, apply_ite State.events]
  congr 1
  · refine raiseEvent_events_congr ?_ ?_ _ _ _ _
    · exact events
    · exact time

/-- What a settle that was not cut teaches, or its outlier. -/
theorem learn_of_outlier {r : RobotId} {c : Recipe} {a : Nat} {s : State} (outlier : 4 * s.doses[r].estimate + 1024 < 16 * a) :
    learn r c a s = raiseEvent .afterflowOutlier r.val (detail a) (detail s.doses[r].estimate) s := by
  unfold learn
  exact if_pos (decide_eq_true outlier)

theorem learn_of_near {r : RobotId} {c : Recipe} {a : Nat} {s : State} (near : ¬4 * s.doses[r].estimate + 1024 < 16 * a) :
    learn r c a s = s.mapDose r fun d => { d with estimate := learnedEstimate c a s.doses[r].estimate } := by
  have not : isOutlier a s.doses[r].estimate = false := decide_eq_false near
  unfold learn
  dsimp only
  rw [not]
  rfl

/-- What a report does before the estimate is judged: the window closed, the slot written, FILL_DONE raised and the cycle
counted. -/
def State.reported (r : RobotId) (j : Job) (cut : Bool) (s : State) : State :=
  let v := fillVolume s.doses[r].flow j.recipe.kFactor
  countOn (cycleCounter r)
    (raiseCommand r .fillDone
      (editSlot j.ticket (writeReport (fillClassOf j.recipe v) v cut) (s.mapDose r fun d => { d with window := false })))

section
variable (r : RobotId) (j : Job) (cut : Bool) (s : State)

theorem reported_frame :
    (s.reported r j cut).robots = s.robots
      ∧ (s.reported r j cut).doses = s.doses.set r { s.doses[r] with window := false }
      ∧ (s.reported r j cut).counters = (countOn (cycleCounter r) s).counters
      ∧ (s.reported r j cut).events = (countOn (cycleCounter r) s).events
      ∧ (s.reported r j cut).bus = (raiseCommand r .fillDone s).bus
      ∧ (s.reported r j cut).time = s.time
      ∧ (s.reported r j cut).track =
        (editSlot j.ticket
          (writeReport (fillClassOf j.recipe (fillVolume s.doses[r].flow j.recipe.kFactor))
            (fillVolume s.doses[r].flow j.recipe.kFactor) cut) s).track := by
  unfold State.reported
  dsimp only
  refine ⟨?_, ?_, ?_, ?_, ?_, ?_, ?_⟩
  · simp [countOn_frame, raiseCommand_frame, editSlot_frame]
  · simp [countOn_frame, raiseCommand_frame, editSlot_frame, State.mapDose, updateAt]
  · exact countOn_congr _ (by simp [raiseCommand_frame, editSlot_frame])
  · exact countOn_events_congr _ (by simp [raiseCommand_frame, editSlot_frame]) (by simp [raiseCommand_frame, editSlot_frame])
      (by simp [raiseCommand_frame, editSlot_frame])
  · simp only [countOn_frame]
    exact raiseCommand_congr _ _ (by simp [editSlot_frame]) (by simp [editSlot_frame])
  · simp [countOn_frame, raiseCommand_frame, editSlot_frame]
  · simp only [countOn_frame, raiseCommand_frame]
    exact editSlot_congr _ _ (by simp)

end

/-- What of the estimate a report leaves (R101 to R103). -/
def estimateLearned (j : Job) (cut : Bool) (afterflow estimate : Nat) : Nat :=
  if cut = true ∨ 4 * estimate + 1024 < 16 * afterflow then estimate else learnedEstimate j.recipe afterflow estimate

/-- The state in which the last-fill record is written: the estimate learned, or the outlier's event raised. -/
def State.learning (r : RobotId) (j : Job) (cut : Bool) (s : State) : State :=
  if cut then s.reported r j cut else learn r j.recipe (s.doses[r].flow - j.closing.count) (s.reported r j cut)

theorem learning_parts (r : RobotId) (j : Job) (cut : Bool) (s : State) :
    (s.learning r j cut).doses =
        s.doses.set r
          { s.doses[r] with
            window := false
            estimate := estimateLearned j cut (s.doses[r].flow - j.closing.count) s.doses[r].estimate }
      ∧ (s.learning r j cut).events =
        (if cut = false ∧ 4 * s.doses[r].estimate + 1024 < 16 * (s.doses[r].flow - j.closing.count) then
            raiseEvent .afterflowOutlier r.val (detail (s.doses[r].flow - j.closing.count)) (detail s.doses[r].estimate)
              (countOn (cycleCounter r) s)
          else countOn (cycleCounter r) s).events := by
  obtain ⟨-, doses, -, events, -, time, -⟩ := reported_frame r j cut s
  have estimate : (s.reported r j cut).doses[r].estimate = s.doses[r].estimate := by rw [doses, set_get, if_pos rfl]
  unfold State.learning estimateLearned
  cases cut with
  | true => exact ⟨by rw [if_pos rfl, doses, if_pos (.inl rfl)], by rw [if_pos rfl, events, if_neg (by simp)]⟩
  | false =>
    rw [if_neg (by decide)]
    by_cases outlier : 4 * s.doses[r].estimate + 1024 < 16 * (s.doses[r].flow - j.closing.count)
    · have counted : (countOn (cycleCounter r) s).time = s.time := by simp only [countOn_frame]
      rw [learn_of_outlier (by rw [estimate]; exact outlier), if_pos (.inr outlier), if_pos ⟨rfl, outlier⟩, estimate]
      exact ⟨by rw [← doses]; simp, raiseEvent_events_congr events (time.trans counted.symm) _ _ _ _⟩
    · rw [learn_of_near (by rw [estimate]; exact outlier), if_neg (by simpa using outlier), if_neg (fun both => outlier both.2), estimate]
      generalize s.reported r j false = t at doses events ⊢
      refine ⟨?_, events⟩
      unfold State.mapDose updateAt
      dsimp only
      rw [doses, set_get, if_pos rfl, Vector.set_set]

theorem learning_frame (r : RobotId) (j : Job) (cut : Bool) (s : State) :
    (s.learning r j cut).robots = s.robots
      ∧ (s.learning r j cut).counters = (countOn (cycleCounter r) s).counters
      ∧ (s.learning r j cut).bus = (raiseCommand r .fillDone s).bus
      ∧ (s.learning r j cut).track =
        (editSlot j.ticket
          (writeReport (fillClassOf j.recipe (fillVolume s.doses[r].flow j.recipe.kFactor))
            (fillVolume s.doses[r].flow j.recipe.kFactor) cut) s).track := by
  obtain ⟨robots, -, counters, -, bus, -, track⟩ := reported_frame r j cut s
  unfold State.learning
  cases cut with
  | true => exact ⟨robots, counters, bus, track⟩
  | false =>
    simp only [Bool.false_eq_true, if_false, learn_frame]
    exact ⟨robots, counters, bus, track⟩

/-- The last-fill record of a job that reports (R104). -/
def reportedFill (j : Job) (cut : Bool) (flow estimate after : Nat) : LastFill :=
  let v := fillVolume flow j.recipe.kFactor
  let afterflow := flow - j.closing.count
  { ticket := j.ticket, ending := if cut = true then .cut else .reported, close := j.closing, flow := flow, volume := v
    fillClass := some
      (if (v : Int) < (j.recipe.target : Int) - j.recipe.underTol then .under
      else if j.recipe.target + j.recipe.overTol < v then .over else .ok)
    afterflow := some afterflow
    learning := if cut = true then .notLearned else if 4 * estimate + 1024 < 16 * afterflow then .outlier else .learned
    estimateAfter := after }

theorem reportJob_some {r : RobotId} {j : Job} {s : State} (held : s.robots[r].job = some j) (cut : Bool) :
    reportJob r cut s =
      dropJob r
        ((s.learning r j cut).mapDose r fun d =>
          { d with lastFill := some (reportedFill j cut s.doses[r].flow s.doses[r].estimate d.estimate) }) := by
  have judged : (if isOutlier (s.doses[r].flow - j.closing.count) s.doses[r].estimate then Learning.outlier else .learned) =
      if 4 * s.doses[r].estimate + 1024 < 16 * (s.doses[r].flow - j.closing.count) then .outlier else .learned := by
    unfold isOutlier
    simp only [decide_eq_true_eq]
  unfold reportJob
  rw [held]
  dsimp only
  rw [judged, fillClassOf_eq]
  unfold recordFill reportedFill State.learning State.reported
  dsimp only
  rw [fillClassOf_eq]

/-- The slot of a job that reports. -/
theorem writeReport_eq (c : Recipe) (v : Nat) (cut : Bool) (sl : Slot) :
    writeReport (fillClassOf c v) v cut sl =
      { sl with
        fill := if (v : Int) < (c.target : Int) - c.underTol then .under else if c.target + c.overTol < v then .over else .ok
        volume := some { tenths := min v 65535, cut := cut }
        defects := sl.defects |||
          (if (v : Int) < (c.target : Int) - c.underTol then 0x1000 else if c.target + c.overTol < v then 0x2000 else 0) } := by
  unfold writeReport
  rw [fillClassOf_outcome, fillClassOf_defects]

theorem reportJob_keepsBut (r : RobotId) (cut : Bool) (s : State) :
    keepsBut [.track, .robots, .doses, .bus, .counters, .events] s (reportJob r cut s) := by
  intro part other
  cases part <;> simp [Part.same, reportJob_frame] at other ⊢

/-- Settles O35: the report's parts, the estimate by the afterflow and the cut. -/
theorem reportedJobsAreJudgedAndLearned : Obligations.ReportedJobsAreJudgedAndLearned := by
  intro r j p cut s held named bound t flow v afterflow estimate outlier low high
  obtain ⟨robots, counters, bus, track⟩ := learning_frame r j cut s
  obtain ⟨doses, events⟩ := learning_parts r j cut s
  have rule : t = _ := reportJob_some held cut
  have track : t.track = _ := (congrArg State.track rule).trans track
  have counters : t.counters = (countOn (cycleCounter r) s).counters := (congrArg State.counters rule).trans counters
  have bus : t.bus = (raiseCommand r .fillDone s).bus := (congrArg State.bus rule).trans bus
  have learned (q : RobotId) : (s.learning r j cut).doses[q] =
      if q = r then
        { s.doses[r] with window := false, estimate := estimateLearned j cut afterflow estimate }
      else s.doses[q] := by
    rw [doses, set_get]
  have dose (q : RobotId) : t.doses[q] =
      if q = r then
        { s.doses[r] with
          window := false, estimate := estimateLearned j cut afterflow estimate
          lastFill := some (reportedFill j cut flow estimate (estimateLearned j cut afterflow estimate)) }
      else s.doses[q] := by
    have drop (u : State) : (dropJob r u).doses = u.doses := rfl
    show (reportJob r cut s).doses[q] = _
    rw [reportJob_some held, drop, mapDose_get, learned, learned, if_pos rfl]
    split <;> rfl
  have own := (dose r).trans (if_pos rfl)
  obtain ⟨written, kept⟩ := editSlot_at
    (f := writeReport (fillClassOf j.recipe v) v cut) named bound fun _ => rfl
  refine ⟨?_, ?_, slotsKeptBut_of_track track kept, by rw [own], by rw [own], by rw [own], by rw [own], by rw [own], by rw [own],
    by rw [own], ?_, ?_, (congrArg State.events rule).trans events, ?_, fun i other => ?_, fun q other => ⟨?_, ?_⟩, bus,
    reportJob_keepsBut r cut s⟩
  · have drop (u : State) : (dropJob r u).robots = u.robots.set r { u.robots[r] with job := none } := rfl
    show (reportJob r cut s).robots = _
    rw [reportJob_some held, drop]
    exact congrArg (fun v : Vector Robot 8 => v.set r { v[r] with job := none }) robots
  · exact ((slotAt_of_track track p).trans written).trans (writeReport_eq j.recipe v cut (s.slotAt p))
  · rw [own]
    rfl
  · rw [own]
    rfl
  · rw [counters]
    exact (countOn_counters (cycleCounter r) (cycleCounter r) s).2
  · rw [counters]
    exact (countOn_counters (cycleCounter r) i s).1 other
  · exact (dose q).trans (if_neg other)
  · rw [bus, raiseCommand_queue_other other]

/-! ## The limits that end a job (R75 to R77, R80) -/

section
variable {s : State} {r : RobotId} {j : Job} (held : s.robots[r].job = some j)
include held

/-- The robot's job, its timer risen, stands in its record. -/
theorem tickJob_mapRobot {k : Job} (ticked : j.tick = k) :
    s.mapRobot r Robot.tickJob = { s with robots := s.robots.set r { s.robots[r] with job := some k } } := by
  unfold State.mapRobot updateAt Robot.tickJob
  rw [held, Option.map_some, ticked]

theorem shareSettle_of_due (settling : j.state = .settling) (reaches : j.settleTimer + 1 = j.recipe.settle) :
    shareSettle r s =
      settle (reportJob r false
        { s with robots := s.robots.set r { s.robots[r] with job := some { j with settleTimer := j.recipe.settle } } }) := by
  have ticked : j.tick = { j with settleTimer := j.recipe.settle } := by
    unfold Job.tick
    rw [settling]
    dsimp only
    rw [reaches]
  have job (t : Vector Robot 8) : (t.set r { s.robots[r] with job := some { j with settleTimer := j.recipe.settle } })[r].job =
      some { j with settleTimer := j.recipe.settle } := by rw [set_get, if_pos rfl]
  unfold shareSettle
  rw [shareOfTick_of_due]
  · beta_reduce
    rw [tickJob_mapRobot held ticked]
    unfold settleExpiry
    dsimp only
    rw [job]
    exact congrArg settle (if_pos ⟨settling, le_refl _⟩)
  · beta_reduce
    rw [tickJob_mapRobot held ticked]
    unfold jobDue
    dsimp only
    rw [job]
    simp [settling]

theorem shareNoFlow_of_due (filling : j.state = .filling) (reaches : j.noFlowTimer = 199) :
    shareNoFlow r s =
      countClosed s (settle
        (raiseEvent .noFlow r.val j.ticket (detail s.doses[r].flow)
          (failJob r .aborted .aborted
            { s with robots := s.robots.set r { s.robots[r] with job := some { j with noFlowTimer := 200 } } }))) := by
  have ticked : j.tick = { j with noFlowTimer := 200 } := by
    unfold Job.tick
    rw [filling]
    dsimp only
    rw [reaches]
  have job (t : Vector Robot 8) : (t.set r { s.robots[r] with job := some { j with noFlowTimer := 200 } })[r].job =
      some { j with noFlowTimer := 200 } := by rw [set_get, if_pos rfl]
  unfold shareNoFlow
  rw [shareOfTick_of_due]
  · beta_reduce
    rw [tickJob_mapRobot held ticked]
    unfold noFlowExpiry
    dsimp only
    rw [job]
    exact congrArg (fun t => countClosed s (settle t)) (if_pos ⟨filling, le_refl _⟩)
  · beta_reduce
    rw [tickJob_mapRobot held ticked]
    unfold jobDue
    dsimp only
    rw [job]
    simp [filling]

theorem exitLimit_of_passed (passed : s.positionOf j.ticket = some (s.fill.exit + 1)) :
    exitLimit r s = if j.state = .settling then reportJob r true s else failJob r .timeout .timeout s := by
  unfold exitLimit
  rw [held]
  dsimp only
  rw [if_pos passed]
  cases j.state <;> rfl

theorem approachLimit_of_reached (reached : s.positionOf j.ticket = some (s.fill.entry + s.fill.approach)) :
    approachLimit r s = if j.state = .approach then failJob r .timeout .timeout s else s := by
  unfold approachLimit
  rw [held]
  dsimp only
  simp only [reached, and_true]

end

/-- Settles O36: each limit at its moment. -/
theorem jobsMeetTheirLimits : Obligations.JobsMeetTheirLimits := fun _ _ _ held =>
  ⟨fun settling reaches => congrArg Host.Outcome.next (shareSettle_of_due held settling reaches),
    fun filling reaches => congrArg Host.Outcome.next (shareNoFlow_of_due held filling reaches),
    fun passed => congrArg (fun t => Host.Outcome.next (settle t)) (exitLimit_of_passed held passed),
    fun reached => congrArg (fun t => Host.Outcome.next (settle t)) (approachLimit_of_reached held reached)⟩

end Sys2Proof.Machine
end


section
/-! The failures that lose a robot, the held clock and the poll timer (O32). -/

set_option Elab.async false

namespace Sys2Proof.Machine

/-! ## A robot's record beside its fill

What ends a job reads of its robot's record the job alone, so that a change of another field may come before or after. -/

theorem raiseEvent_mapRobot (kind : EventKind) (unit : Nat) (detail1 detail2 : Half) (r : RobotId) (f : Robot → Robot) (s : State) :
    raiseEvent kind unit detail1 detail2 (s.mapRobot r f) = (raiseEvent kind unit detail1 detail2 s).mapRobot r f := by
  have events : (s.mapRobot r f).events = s.events := rfl
  unfold raiseEvent
  dsimp only
  rw [events]
  split_ifs <;> rfl

theorem raiseEvent_robots (kind : EventKind) (unit : Nat) (detail1 detail2 : Half) (s : State) :
    (raiseEvent kind unit detail1 detail2 s).robots = s.robots := by simp

theorem storeCounter_mapRobot (i : CounterId) (c : Counter) (r : RobotId) (f : Robot → Robot) (s : State) :
    storeCounter i c (s.mapRobot r f) = (storeCounter i c s).mapRobot r f := by
  have counters : (s.mapRobot r f).counters = s.counters := rfl
  unfold storeCounter
  dsimp only
  rw [counters]
  split
  · exact raiseEvent_mapRobot _ _ _ _ r f { s with counters := s.counters.set i c }
  · rfl

theorem countOn_mapRobot (i : CounterId) (r : RobotId) (f : Robot → Robot) (s : State) :
    countOn i (s.mapRobot r f) = (countOn i s).mapRobot r f := storeCounter_mapRobot i _ r f s

theorem editSlot_mapRobot (t : Half) (g : Slot → Slot) (r : RobotId) (f : Robot → Robot) (s : State) :
    editSlot t g (s.mapRobot r f) = (editSlot t g s).mapRobot r f := by
  have place : (s.mapRobot r f).positionOf t = s.positionOf t := rfl
  unfold editSlot
  rw [place]
  split <;> rfl

theorem fillAbort_mapRobot (k r : RobotId) (f : Robot → Robot) (s : State) :
    raiseCommand k .fillAbort (s.mapRobot r f) = (raiseCommand k .fillAbort s).mapRobot r f := by
  rw [raiseCommand_of_heard (.inr rfl), raiseCommand_of_heard (.inr rfl)]
  rfl

section
variable {f : Robot → Robot} (sameJob : ∀ rb, (f rb).job = rb.job)
  (apart : ∀ rb, f { rb with job := none } = { f rb with job := none })
include sameJob apart

theorem failJob_mapRobot (r : RobotId) (outcome : FillOutcome) (ending : Ending) (s : State) :
    failJob r outcome ending (s.mapRobot r f) = (failJob r outcome ending s).mapRobot r f := by
  have job : (s.mapRobot r f).robots[r].job = s.robots[r].job := by rw [mapRobot_get, if_pos rfl, sameJob]
  have drop (t : State) : dropJob r (t.mapRobot r f) = (dropJob r t).mapRobot r f := by
    unfold dropJob
    rw [mapRobot_mapRobot, mapRobot_mapRobot]
    exact congrArg (fun h => t.mapRobot r h) (funext fun rb => (apart rb).symm)
  have record (t : State) (j : Job) (flow volume : Nat) :
      recordFill r j ending flow volume none none .notLearned (t.mapRobot r f) =
        (recordFill r j ending flow volume none none .notLearned t).mapRobot r f := rfl
  have shut (t : State) (g : Dose → Dose) : (t.mapRobot r f).mapDose r g = (t.mapDose r g).mapRobot r f := rfl
  have flow (t : State) : (t.mapRobot r f).doses = t.doses := rfl
  unfold failJob
  rw [job]
  cases held : s.robots[r].job with
  | none => rfl
  | some j =>
    dsimp only
    rw [flow, shut, editSlot_mapRobot, countOn_mapRobot]
    cases j.opened with
    | true => simp only [if_true, fillAbort_mapRobot, record, drop]
    | false => simp only [Bool.false_eq_true, if_false, fillAbort_mapRobot, drop]

end

/-! ## LOST (R66, R85, R87) -/

theorem countFailure_of_off {r : RobotId} {s : State} (off : s.robots[r].mode = .off) : countFailure r s = s := by
  unfold countFailure
  exact if_pos off

theorem countFailure_of_lost {r : RobotId} {s : State} (lost : s.robots[r].mode = .lost) :
    countFailure r s = s.mapRobot r fun rb => { rb with failures := min (rb.failures + 1) 3 } := by
  unfold countFailure
  dsimp only
  rw [if_neg (by rw [lost]; decide), if_neg (fun third => third.2 lost)]

theorem countFailure_of_few {r : RobotId} {s : State} (on : s.robots[r].mode ≠ .off) (few : s.robots[r].failures < 2) :
    countFailure r s = s.mapRobot r fun rb => { rb with failures := min (rb.failures + 1) 3 } := by
  unfold countFailure
  dsimp only
  rw [if_neg on, if_neg (fun third => absurd third.1 (by omega))]

/-- The record of a robot that has become LOST. -/
def Robot.lost (rb : Robot) : Robot :=
  { rb with mode := .lost, armed := false, resume := false, jog := false, reason := some .bus, failures := 3 }

theorem detail_toNat_isSome (job : Option Job) : detail job.isSome.toNat = if job = none then 0 else 1 := by
  cases job <;> rfl

/-- The commands that a LOST robot keeps (R85). -/
theorem lostCommands_eq : (fun e : BusEntry => e.command.isPoll || e.command == .fillAbort) =
    fun e => decide (e.command = .poll ∨ e.command = .fillAbort) := by
  funext e
  rw [Bool.eq_iff_iff, Bool.or_eq_true, isPoll_iff, beq_iff_eq, decide_eq_true_eq]

theorem dropLostCommands_eq (r : RobotId) (s : State) :
    dropLostCommands r s =
      s.mapQueue r fun q => q.keep fun e => decide (e.command = .poll ∨ e.command = .fillAbort) := by
  unfold dropLostCommands
  rw [lostCommands_eq]

theorem modeCode_ne_of_there {rb : Robot} (there : rb.mode ≠ .lost) : rb.modeCode ≠ 6 := by
  unfold Robot.modeCode
  cases mode : rb.mode with
  | lost => exact absurd mode there
  | service => cases rb.jog <;> decide
  | off => exact Nat.zero_ne_add_one 5
  | manual => exact (by decide : 1 ≠ 6)
  | production => exact (by decide : 2 ≠ 6)
  | faulted => exact (by decide : 5 ≠ 6)

/-- ROBOT_LOST and ROBOT_MODE of a robot that becomes LOST. -/
def tellLost (r : RobotId) (code : Nat) (job : Option Job) (s : State) : State :=
  raiseEvent .robotMode r.val 6 (detail code)
    (raiseEvent .robotLost r.val (detail code) (if job = none then 0 else 1) s)

theorem tellLost_mapRobot (r : RobotId) (code : Nat) (job : Option Job) (f : Robot → Robot) (s : State) :
    tellLost r code job (s.mapRobot r f) = (tellLost r code job s).mapRobot r f := by
  unfold tellLost
  rw [raiseEvent_mapRobot, raiseEvent_mapRobot]

theorem tellLost_keepsBut (r : RobotId) (code : Nat) (job : Option Job) (s : State) :
    keepsBut [.events] s (tellLost r code job s) :=
  keepsBut_trans (raiseEvent_keepsBut .robotLost r.val _ _ s) (raiseEvent_keepsBut .robotMode r.val _ _ _)

/-- The third failure (R66, R87): the job aborted, both events, the record and the commands of a LOST robot. -/
theorem countFailure_of_third {r : RobotId} {s : State} (on : s.robots[r].mode ≠ .off) (there : s.robots[r].mode ≠ .lost)
    (third : s.robots[r].failures = 2) :
    countFailure r s =
      dropLostCommands r
        ((tellLost r s.robots[r].modeCode s.robots[r].job (abortJob r s)).mapRobot r Robot.lost) := by
  have counted : countFailure r s = enterLost r (s.mapRobot r fun rb => { rb with failures := 3 }) := by
    have three : s.mapRobot r (fun rb => { rb with failures := min (rb.failures + 1) 3 }) =
        s.mapRobot r fun rb => { rb with failures := 3 } := by
      unfold State.mapRobot updateAt
      dsimp only
      rw [third]
      rfl
    unfold countFailure
    dsimp only
    rw [if_neg on, if_pos ⟨by omega, there⟩, three]
  have aborted : abortJob r (s.mapRobot r fun rb => { rb with failures := 3 }) =
      (abortJob r s).mapRobot r fun rb => { rb with failures := 3 } :=
    failJob_mapRobot (f := fun rb => { rb with failures := 3 }) (fun _ => rfl) (fun _ => rfl) r .aborted .aborted s
  have robot : (abortJob r s).robots[r] = { s.robots[r] with job := none } := failJob_robot r .aborted .aborted s
  have before : (s.mapRobot r fun rb => { rb with failures := 3 }).robots[r] = { s.robots[r] with failures := 3 } := by
    rw [mapRobot_get, if_pos rfl]
  rw [counted]
  unfold enterLost
  dsimp only
  rw [before, aborted, raiseEvent_mapRobot, changeRobot_of_codes (old := s.robots[r].modeCode) (new := 6)]
  · rw [mapRobot_mapRobot, raiseEvent_mapRobot, detail_toNat_isSome]
    rfl
  · rw [mapRobot_get, if_pos rfl, raiseEvent_robots, robot]
    rfl
  · rfl
  · exact modeCode_ne_of_there there

/-- A LOST robot's queue holds POLL entries and FILL_ABORT alone. -/
theorem keep_entries {q : RobotQueue} {p : BusEntry → Bool} {e : BusEntry} (listed : e ∈ (q.keep p).entries) : p e = true := by
  unfold RobotQueue.keep RobotQueue.refill RobotQueue.entries at listed
  simp only [List.append_assoc, List.take_append_drop, List.mem_append, List.mem_filter] at listed
  obtain ⟨-, admits⟩ | ⟨-, admits⟩ := listed <;> exact admits

theorem tellLost_queue {r : RobotId} {code : Nat} {s : State} (room : s.events.queue.length + 3 ≤ 64) :
    (tellLost r code none s).events.queue = s.events.queue ++
      [{ sequence := s.events.nextSequence, seconds := s.time.seconds, ms := s.time.ms, valid := s.time.valid
         kind := .robotLost, unit := r.val, detail1 := detail code, detail2 := 0 },
        { sequence := s.events.nextSequence + 1, seconds := s.time.seconds, ms := s.time.ms, valid := s.time.valid
          kind := .robotMode, unit := r.val, detail1 := 6, detail2 := detail code }] := by
  have first := raiseEvent_events_of_room (s := s) (by omega) .robotLost r.val (detail code) 0
  have one : (raiseEvent .robotLost r.val (detail code) 0 s).events.queue.length = s.events.queue.length + 1 := by
    rw [first]
    exact List.length_append
  unfold tellLost
  rw [if_pos rfl, raiseEvent_events_of_room (by omega)]
  unfold State.recordOf
  rw [raiseEvent_time, first]
  simp [State.recordOf]

/-! ## The held clock (R82) -/

section
variable {s : State} {r k : RobotId} {serial phase : Nat} {c : BusCommand} (free : s.bus.clockHeldBy = none)
include free

theorem clockHold_of_running (runs : s.bus.transaction = some (.addressed k serial c phase)) :
    clockHold r s =
      let failed := transactionFailed k serial c (endTransaction s)
      { failed with bus := { failed.bus with clockHeldBy := some r } } := by
  unfold clockHold
  rw [free]
  dsimp only
  rw [runs]

theorem clockHold_of_broadcast (runs : s.bus.transaction = some .broadcastHold) :
    clockHold r s = { s with bus := { s.bus with clockHeldBy := some r } } := by
  unfold clockHold
  rw [free]
  dsimp only
  rw [runs]

end

theorem clockHold_of_held {s : State} {r : RobotId} (held : s.bus.clockHeldBy = some r) : clockHold r s = countFailure r s := by
  unfold clockHold
  rw [held]
  exact if_pos rfl

theorem transactionFailed_of_poll (k : RobotId) (serial : Nat) (s : State) :
    transactionFailed k serial .poll s = countFailure k (removeEntry k serial s) := rfl

theorem transactionFailed_of_other {c : BusCommand} (other : c ≠ .poll) (k : RobotId) (serial : Nat) (s : State) :
    transactionFailed k serial c s = countFailure k (commandFailed k serial s) := by
  unfold transactionFailed
  rw [if_neg (mt (isPoll_iff c).1 other)]

/-! ## The poll timer (R86) -/

theorem sharePoll_of_due {s : State} {r : RobotId} (on : s.robots[r].mode ≠ .off) (near : s.robots[r].pollTimer = 4)
    (none : s.time.ahead = []) :
    sharePoll r s =
      settle (raisePoll r
        { s with
          robots := s.robots.set r { s.robots[r] with pollTimer := 0 }
          time := { s.time with ahead := [.poll r] } }) := by
  have ahead : s.takenAhead (.poll r) = false := by
    unfold State.takenAhead
    rw [none]
    rfl
  have ticked : s.robots[r].tickPoll = { s.robots[r] with pollTimer := 5 } := by
    unfold Robot.tickPoll
    rw [if_neg on, near]
  have advanced : noteShare (.poll r) (s.mapRobot r Robot.tickPoll) =
      { s with
        robots := s.robots.set r { s.robots[r] with pollTimer := 5 }
        time := { s.time with ahead := [.poll r] } } := by
    unfold noteShare State.mapRobot updateAt
    dsimp only
    rw [ticked, none]
    rfl
  have robot : (s.robots.set r { s.robots[r] with pollTimer := 5 })[r] = { s.robots[r] with pollTimer := 5 } := by
    rw [set_get, if_pos rfl]
  unfold sharePoll
  rw [ahead, if_neg Bool.false_ne_true, shareOfTick_of_due]
  · beta_reduce
    rw [advanced]
    unfold pollExpiry State.mapRobot updateAt
    dsimp only
    rw [robot, if_pos ⟨on, le_refl _⟩, Vector.set_set]
  · beta_reduce
    rw [advanced]
    dsimp only
    rw [robot]
    exact Bool.and_eq_true_iff.2 ⟨bne_iff_ne.2 on, rfl⟩

section
variable {r : RobotId} {s : State} (on : s.robots[r].mode ≠ .off) (there : s.robots[r].mode ≠ .lost) (third : s.robots[r].failures = 2)
include on there third

/-- The parts of a robot's loss. -/
theorem lost_parts :
    (countFailure r s).robots = s.robots.set r (Robot.lost { s.robots[r] with job := none })
      ∧ (countFailure r s).track = (abortJob r s).track ∧ (countFailure r s).doses = (abortJob r s).doses
      ∧ (countFailure r s).counters = (abortJob r s).counters
      ∧ (countFailure r s).events = (tellLost r s.robots[r].modeCode s.robots[r].job (abortJob r s)).events
      ∧ (countFailure r s).bus =
        { (abortJob r s).bus with
          queues := (abortJob r s).bus.queues.set r
            ((abortJob r s).bus.queues[r].keep fun e => decide (e.command = .poll ∨ e.command = .fillAbort)) } := by
  have told := tellLost_keepsBut r s.robots[r].modeCode s.robots[r].job (abortJob r s)
  rw [countFailure_of_third on there third, dropLostCommands_eq]
  generalize tellLost r s.robots[r].modeCode s.robots[r].job (abortJob r s) = u at told
  have robots : u.robots = s.robots.set r { s.robots[r] with job := none } :=
    (told .robots (by decide)).trans (failJob_robots r .aborted .aborted s)
  have robot : u.robots[r] = { s.robots[r] with job := none } := by rw [robots, set_get, if_pos rfl]
  have bus : u.bus = (abortJob r s).bus := told .bus (by decide)
  refine ⟨?_, told .track (by decide), told .doses (by decide), told .counters (by decide), rfl, ?_⟩
  · show u.robots.set r (Robot.lost u.robots[r]) = _
    rw [robot, robots, Vector.set_set]
  · rw [← bus]
    rfl

theorem lost_queue {e : BusEntry} (listed : e ∈ (countFailure r s).bus.queues[r].entries) :
    e.command = .poll ∨ e.command = .fillAbort := by
  obtain ⟨-, -, -, -, -, bus⟩ := lost_parts on there third
  rw [bus, set_get, if_pos rfl] at listed
  exact of_decide_eq_true (keep_entries listed)

end

theorem countFailure_keepsBut (r : RobotId) (s : State) :
    keepsBut [.track, .robots, .doses, .bus, .counters, .events] s (countFailure r s) := by
  intro part other
  cases part <;> simp [Part.same, countFailure_frame] at other ⊢

/-- Settles O32: the failures by the mode and the count, the held clock by what runs, and the poll timer at its limit. -/
theorem failuresLoseTheRobot : Obligations.FailuresLoseTheRobot := by
  refine ⟨fun r s => ⟨countFailure_of_off, countFailure_of_lost⟩, fun r s on there => ⟨fun third => ?_, fun few => ?_⟩,
    fun r k serial phase c s runs free => ?_, fun r s => ⟨fun runs free => ?_, fun held => ⟨?_, ?_⟩, fun on near none => ?_⟩⟩
  · obtain ⟨robots, track, doses, counters, events, bus⟩ := lost_parts on there third
    have own : (countFailure r s).robots[r] = Robot.lost { s.robots[r] with job := none } := by rw [robots, set_get, if_pos rfl]
    refine ⟨_, rfl, by rw [own]; rfl, by rw [own]; rfl, by rw [own]; rfl, by rw [own]; rfl, by rw [own]; rfl, by rw [own]; rfl,
      by rw [own]; rfl, by rw [own]; rfl, by rw [own]; rfl, fun q other => ⟨?_, ?_⟩, fun e listed => lost_queue on there third listed,
      fun room none => ?_, ⟨track, doses, counters, events, bus⟩, countFailure_keepsBut r s⟩
    · rw [robots, set_get, if_neg other]
    · rw [doses]
      exact failJob_doses_other other .aborted .aborted s
    · rw [events, none, abortJob_none none, tellLost_queue room]
  · rw [countFailure_of_few on few]
    have one : min (s.robots[r].failures + 1) 3 = s.robots[r].failures + 1 := Nat.min_eq_left (by omega)
    unfold State.mapRobot updateAt
    beta_reduce
    rw [one]
  · intro q freed removed deferred held
    have fails : exec (.clockHoldTimeout r) s = held (transactionFailed k serial c (endTransaction s)) :=
      congrArg (fun t => Host.Outcome.next (settle t)) (clockHold_of_running free runs)
    have removedIs : removeEntry k serial (endTransaction s) = removed := removeEntry_eq k serial (endTransaction s)
    have sameQueue : freed q s.bus.moment = endTransaction s := by
      show ({ s with bus := { s.bus with transaction := none, queues := s.bus.queues.set k s.bus.queues[k] } } : State) = _
      rw [show s.bus.queues.set k s.bus.queues[k] = s.bus.queues from Vector.set_getElem_self _]
      rfl
    have deferredIs : (endTransaction s).queued k _ = deferred := rfl
    rw [fails]
    refine ⟨fun poll => ?_, fun other gone => ?_, fun e other found => ⟨fun stays => ?_, fun failed leaves => ?_⟩⟩
    · rw [poll, transactionFailed_of_poll, removedIs]
    · rw [transactionFailed_of_other other, commandFailed_of_gone (s := endTransaction s) gone, sameQueue]
    · rw [transactionFailed_of_other other, commandFailed_of_first (s := endTransaction s) found stays]
      exact congrArg (fun t => held (countFailure k t)) deferredIs
    · rw [transactionFailed_of_other other, commandFailed_of_again (s := endTransaction s) found failed leaves, removedIs]
  · exact congrArg (fun t => Host.Outcome.next (settle t)) (clockHold_of_broadcast free runs)
  · exact congrArg (fun t => Host.Outcome.next (settle t)) (clockHold_of_held held)
  · show Host.Outcome.next (clockRelease r s) = _
    unfold clockRelease
    rw [if_pos held]
  · exact congrArg Host.Outcome.next (sharePoll_of_due on near none)

end Sys2Proof.Machine
end


section
/-! The supervision of the valves (O37). -/

set_option Elab.async false

namespace Sys2Proof.Machine

/-! ## Aborts seen from other states -/

/-- What an abort leaves is a matter of robots, doses, counters, commands and the track alone. -/
theorem jobsAborted_of_same {a : RobotId → Bool} {s t u v : State} (aborted : jobsAborted a s t)
    (before : s.robots = u.robots ∧ s.doses = u.doses ∧ s.counters = u.counters ∧ s.track = u.track)
    (after : t.doses = v.doses ∧ t.counters = v.counters ∧ t.bus.queues = v.bus.queues ∧ t.track = v.track) :
    jobsAborted a u v := by
  obtain ⟨robots, doses, counters, track⟩ := before
  obtain ⟨dosesAfter, countersAfter, queues, trackAfter⟩ := after
  have place (k : Half) : u.positionOf k = s.positionOf k := by unfold State.positionOf State.slotAt; simp only [track]
  have slot (p : Nat) : u.slotAt p = s.slotAt p := slotAt_of_track track.symm p
  have slotAfter (p : Nat) : v.slotAt p = t.slotAt p := slotAt_of_track trackAfter.symm p
  obtain ⟨fills, slots⟩ := aborted
  unfold slotsAborted fillsAborted abortedDose abortedSlot at *
  simp only [robots, doses, counters, track, dosesAfter, countersAfter, queues, trackAfter, ← place, ← slot, ← slotAfter] at fills slots
  exact ⟨fills, slots⟩

/-! ## A valve's check (R79) -/

section
variable {s : State} {r : RobotId}

theorem valveAgrees_iff : valveAgrees s r = true ↔ s.pins.feedback[r] = s.doses[r].valve := beq_iff_eq

theorem checkExpiry_of_agreeing {ms : Nat} (check : s.doses[r].check = some ms) (reached : 50 ≤ ms)
    (agrees : s.pins.feedback[r] = s.doses[r].valve) :
    checkExpiry r s = s.mapDose r fun d => { d with check := none } := by
  unfold checkExpiry
  rw [check]
  dsimp only
  rw [if_pos reached, if_pos (valveAgrees_iff.2 agrees)]

theorem checkExpiry_of_disagreeing {ms : Nat} (check : s.doses[r].check = some ms) (reached : 50 ≤ ms)
    (other : s.pins.feedback[r] ≠ s.doses[r].valve) :
    checkExpiry r s =
      valveFault r (if s.doses[r].valve = true then .valveOpen else .valveClose)
        (s.mapDose r fun d => { d with check := none }) := by
  unfold checkExpiry
  rw [check]
  dsimp only
  rw [if_pos reached, if_neg (mt valveAgrees_iff.1 other)]

/-- At the last millisecond of its check a valve is judged by its feedback. -/
theorem shareCheck_of_due (check : s.doses[r].check = some 49) :
    let ended : State := { s with doses := s.doses.set r { s.doses[r] with check := none } }
    shareCheck r s =
      countClosed s (settle
        (if s.pins.feedback[r] = s.doses[r].valve then ended
        else valveFault r (if s.doses[r].valve = true then .valveOpen else .valveClose) ended)) := by
  intro ended
  have ticked : s.mapDose r Dose.tick = { s with doses := s.doses.set r { s.doses[r] with check := some 50 } } := by
    unfold State.mapDose updateAt Dose.tick
    rw [check]
    rfl
  have dose : (s.doses.set r { s.doses[r] with check := some 50 })[r] = { s.doses[r] with check := some 50 } := by
    rw [set_get, if_pos rfl]
  have cleared : ({ s with doses := s.doses.set r { s.doses[r] with check := some 50 } } : State).mapDose r
      (fun d => { d with check := none }) = ended := by
    unfold State.mapDose updateAt
    dsimp only
    rw [dose, Vector.set_set]
  unfold shareCheck
  rw [shareOfTick_of_due]
  · beta_reduce
    rw [ticked]
    split
    · next agrees => rw [checkExpiry_of_agreeing (ms := 50) (by rw [dose]) (le_refl _) (by rw [dose]; exact agrees), cleared]
    · next other =>
      rw [checkExpiry_of_disagreeing (ms := 50) (by rw [dose]) (le_refl _) (by rw [dose]; exact other), cleared]
      dsimp only
      rw [dose]
  · beta_reduce
    rw [ticked]
    dsimp only
    rw [dose]
    rfl

/-! ## A change of the feedback (R79) -/

section
variable {showsOpen : Bool} (change : s.pins.feedback[r] ≠ showsOpen)
include change

omit change in
theorem feedback_read : (s.pins.feedback.set r showsOpen)[r] = showsOpen := by rw [set_get, if_pos rfl]

theorem feedbackChange_of_check (check : s.doses[r].check ≠ none) :
    feedbackChange r showsOpen s =
      let read : State := { s with pins := { s.pins with feedback := s.pins.feedback.set r showsOpen } }
      if showsOpen = s.doses[r].valve then read.mapDose r fun d => { d with check := none } else read := by
  have agrees : (valveAgrees { s with pins := { s.pins with feedback := s.pins.feedback.set r showsOpen } } r = true) ↔
      showsOpen = s.doses[r].valve := by
    rw [valveAgrees_iff]
    dsimp only
    rw [feedback_read]
  unfold feedbackChange
  rw [if_neg change]
  dsimp only
  rw [if_pos (Option.isSome_iff_ne_none.2 check)]
  simp only [agrees]

theorem feedbackChange_of_stuck (check : s.doses[r].check = none) (other : showsOpen ≠ s.doses[r].valve) :
    feedbackChange r showsOpen s =
      valveFault r .valveStuck { s with pins := { s.pins with feedback := s.pins.feedback.set r showsOpen } } := by
  have disagrees : valveAgrees { s with pins := { s.pins with feedback := s.pins.feedback.set r showsOpen } } r = false := by
    rw [Bool.eq_false_iff, ne_eq, valveAgrees_iff]
    dsimp only
    rw [feedback_read]
    exact other
  unfold feedbackChange stuckValve
  rw [if_neg change]
  dsimp only
  rw [disagrees, check]
  rfl

end

/-! ## The time a valve stands open (R97, R158) -/

/-- The millisecond of the coming tick taken for the robot's valve, with the remainder that follows. -/
def State.valveTimed (r : RobotId) (remainder : Nat) (t : State) : State :=
  { t with
    counters := t.counters.set (valveCounter r) { t.counters[valveCounter r] with remainder := remainder }
    time := { t.time with ahead := [.valveTime r] } }

theorem noteShare_valveTime (none : s.time.ahead = []) :
    noteShare (.valveTime r) { s with counters := updateAt s.counters (valveCounter r) Counter.tick } =
      s.valveTimed r (s.counters[valveCounter r].remainder + 1) := by
  unfold noteShare
  dsimp only
  rw [none]
  rfl

theorem valveTimed_counter (remainder : Nat) (t : State) :
    (t.valveTimed r remainder).counters[valveCounter r] = { t.counters[valveCounter r] with remainder := remainder } := by
  unfold State.valveTimed
  rw [set_get, if_pos rfl]

theorem valveSecond_of_due : valveSecond r (s.valveTimed r 1000) = countOn (valveCounter r) (s.valveTimed r 0) := by
  unfold valveSecond
  dsimp only
  rw [valveTimed_counter, if_pos (le_refl _)]
  unfold State.valveTimed
  dsimp only
  rw [Vector.set_set]

theorem not_takenAhead (none : s.time.ahead = []) (share : TickShare) : s.takenAhead share = false := by
  unfold State.takenAhead
  rw [none]
  rfl

theorem takeValveTime_of_below (none : s.time.ahead = []) (below : s.counters[valveCounter r].remainder < 999) :
    takeValveTime r s = s.valveTimed r (s.counters[valveCounter r].remainder + 1) := by
  unfold takeValveTime
  rw [not_takenAhead none, if_neg Bool.false_ne_true, noteShare_valveTime none]
  exact valveSecond_of_early (by rw [valveTimed_counter]; exact Nat.succ_lt_succ below)

theorem takeValveTime_of_last (none : s.time.ahead = []) (last : s.counters[valveCounter r].remainder = 999) :
    takeValveTime r s = countOn (valveCounter r) (s.valveTimed r 0) := by
  unfold takeValveTime
  rw [not_takenAhead none, if_neg Bool.false_ne_true, noteShare_valveTime none, last, valveSecond_of_due]

theorem shareValveTime_of_due (energised : s.doses[r].valve = true) (none : s.time.ahead = [])
    (last : s.counters[valveCounter r].remainder = 999) :
    shareValveTime r s = settle (countOn (valveCounter r) (s.valveTimed r 0)) := by
  unfold shareValveTime
  rw [energised, not_takenAhead none, Bool.not_false, Bool.and_true, if_pos rfl, shareOfTick_of_due]
  · rw [noteShare_valveTime none, last, valveSecond_of_due]
  · rw [noteShare_valveTime none, last, valveTimed_counter]
    rfl

end

/-- Acting on units in turn where one alone does something. -/
theorem forEach_only {n : Nat} {act : Fin n → State → State} {u : Fin n} (others : ∀ v t, v ≠ u → act v t = t)
    {us : List (Fin n)} (once : us.Nodup) (listed : u ∈ us) (s : State) : forEach us act s = act u s := by
  have fixed (vs : List (Fin n)) (absent : u ∉ vs) (t : State) : forEach vs act t = t := by
    induction vs with
    | nil => rfl
    | cons v vs ih =>
      rw [forEach_cons, others v t fun same => absent (same ▸ List.mem_cons_self)]
      exact ih fun later => absent (List.mem_cons_of_mem v later)
  induction us with
  | nil => exact absurd listed List.not_mem_nil
  | cons v vs ih =>
    obtain ⟨fresh, rest⟩ := List.nodup_cons.1 once
    rw [forEach_cons]
    by_cases same : v = u
    · rw [same] at fresh ⊢
      exact fixed vs fresh _
    · rw [others v s same]
      exact ih rest ((List.mem_cons.1 listed).resolve_left fun is => same is.symm)

/-- Of one valve that has closed the millisecond is taken. -/
theorem countClosed_of_one {s t : State} {r : RobotId} (wasOpen : s.doses[r].valve = true) (closed : t.doses[r].valve = false)
    (others : ∀ q : RobotId, q ≠ r → s.doses[q].valve = true → t.doses[q].valve = true) :
    countClosed s t = settle (takeValveTime r t) := by
  unfold countClosed
  rw [forEach_only (u := r) (fun q u other => ?_) (allUnits_nodup 8) (mem_allUnits r) t]
  · rw [wasOpen, closed]
    rfl
  · refine if_neg fun acts => ?_
    obtain ⟨open_, shut⟩ := Bool.and_eq_true_iff.1 acts
    rw [others q other open_] at shut
    exact absurd shut Bool.false_ne_true

/-! ## Faults (R65, R66, R79) -/

theorem changeRobot_robots (r : RobotId) (f : Robot → Robot) (s : State) :
    (changeRobot r f s).robots = s.robots.set r (f s.robots[r]) := by
  unfold changeRobot
  dsimp only
  split
  · rfl
  · rw [raiseEvent_robots]
    rfl

/-- The record of a robot that has become FAULTED. -/
def Robot.faulted (why : FaultReason) (rb : Robot) : Robot :=
  { rb with
    mode := .faulted, armed := false, resume := false, jog := false, reason := some why
    failures := if rb.mode = .lost then 0 else rb.failures
    held := rb.held || decide (rb.mode = .lost) }

theorem enterFaulted_eq (r : RobotId) (why : FaultReason) (s : State) :
    enterFaulted r why s = changeRobot r (Robot.faulted why) (abortJob r s) := by
  have held (rb : Robot) : (rb.held || rb.mode == .lost) = (rb.held || decide (rb.mode = .lost)) := by
    rw [beq_eq_decide]
  unfold enterFaulted Robot.faulted
  simp only [held]

theorem valveFault_of_off {r : RobotId} {why : FaultReason} {s : State} (off : s.robots[r].mode = .off ∨ s.robots[r].mode = .faulted) :
    valveFault r why s = s := by
  unfold valveFault
  exact if_pos off

theorem valveFault_of_on {r : RobotId} {why : FaultReason} {s : State} (on : s.robots[r].mode ≠ .off)
    (well : s.robots[r].mode ≠ .faulted) :
    valveFault r why s =
      changeRobot r (Robot.faulted why)
        (abortJob r (raiseEvent .valveFault r.val (detail why.code) (detail s.robots[r].modeCode) s)) := by
  unfold valveFault
  dsimp only
  rw [if_neg (by rintro (off | faulted); exacts [on off, well faulted]), enterFaulted_eq]

theorem modeCode_ne_of_well {rb : Robot} (well : rb.mode ≠ .faulted) : rb.modeCode ≠ 5 := by
  unfold Robot.modeCode
  cases mode : rb.mode with
  | faulted => exact absurd mode well
  | service => cases rb.jog <;> decide
  | off => exact (by decide : 0 ≠ 5)
  | manual => exact (by decide : 1 ≠ 5)
  | production => exact (by decide : 2 ≠ 5)
  | lost => exact (by decide : 6 ≠ 5)

theorem raiseEvent_of_room {s : State} (room : s.events.queue.length < 64) (kind : EventKind) (unit : Nat)
    (detail1 detail2 : Half) :
    raiseEvent kind unit detail1 detail2 s =
      { s with events :=
          { s.events with
            queue := s.events.queue ++ [s.recordOf kind unit detail1 detail2]
            nextSequence := s.events.nextSequence + 1
            account := { s.events.account with raised := s.events.account.raised + 1 } } } := by
  have room : s.events.queue.length < Config.queueCapacity := room
  unfold raiseEvent
  exact if_pos room

/-- Two events raised with room for both. -/
theorem raiseEvent_twice {s : State} (room : s.events.queue.length + 2 ≤ 64) (kind kind' : EventKind) (unit unit' : Nat)
    (detail1 detail2 detail1' detail2' : Half) :
    raiseEvent kind' unit' detail1' detail2' (raiseEvent kind unit detail1 detail2 s) =
      { s with events :=
          { s.events with
            queue := s.events.queue ++
              [s.recordOf kind unit detail1 detail2,
                { s.recordOf kind' unit' detail1' detail2' with sequence := s.events.nextSequence + 1 }]
            nextSequence := s.events.nextSequence + 2
            account := { s.events.account with raised := s.events.account.raised + 2 } } } := by
  rw [raiseEvent_of_room (s := s) (by omega), raiseEvent_of_room]
  · simp [State.recordOf, BitVec.add_assoc]
  · rw [List.length_append]
    exact Nat.lt_of_lt_of_le (Nat.lt_succ_self _) room

theorem jobsAborted_event (r : RobotId) (f : Robot → Robot) (kind : EventKind) (unit : Nat) (detail1 detail2 : Half) (s : State) :
    jobsAborted (fun q => decide (q = r)) s (changeRobot r f (abortJob r (raiseEvent kind unit detail1 detail2 s))) :=
  jobsAborted_of_same (jobsAborted_abortJob r (raiseEvent kind unit detail1 detail2 s)) (by simp) (by simp [changeRobot_frame])

theorem valveFault_keepsBut (r : RobotId) (why : FaultReason) (s : State) :
    keepsBut [.track, .robots, .doses, .bus, .counters, .events] s (valveFault r why s) := by
  intro part other
  cases part <;> simp [Part.same, valveFault_frame] at other ⊢

/-- Settles O37: the checks by agreement, the valve's second, and the fault by the mode. -/
theorem valvesAreSupervised : Obligations.ValvesAreSupervised := by
  refine ⟨fun r s => ⟨fun check => ?_, fun showsOpen change => ?_, fun energised last none => ?_⟩,
    fun s t => ⟨countClosed_of_open s t, fun r wasOpen closed none others => ?_⟩,
    fun r why s => ⟨valveFault_of_off, fun on well none room => ?_, fun on well => ?_⟩⟩
  · intro ended
    have rule : exec (.valveCheckExpiry r) s = _ := congrArg Host.Outcome.next (shareCheck_of_due check)
    refine ⟨fun agrees => ?_, fun other => ?_⟩
    · rw [rule, if_pos agrees]
      refine congrArg Host.Outcome.next (countClosed_of_open s _ fun q open_ => ?_)
      have doses : (settle ended).doses = ended.doses := (settle_judged ended).frame .doses (by decide)
      rw [doses]
      show (s.doses.set r { s.doses[r] with check := none })[q].valve = true
      rw [set_get]
      split
      · next same => rw [← same]; exact open_
      · exact open_
    · rw [rule, if_neg other]
  · intro read
    refine ⟨fun check same => ?_, fun check other => ?_, fun check other => ?_⟩
    · refine congrArg (fun t => Host.Outcome.next (settle t)) ((feedbackChange_of_check change check).trans ?_)
      dsimp only
      rw [if_pos same]
      rfl
    · refine congrArg (fun t => Host.Outcome.next (settle t)) ((feedbackChange_of_check change check).trans ?_)
      exact if_neg other
    · exact congrArg (fun t => Host.Outcome.next (settle t)) (feedbackChange_of_stuck change check other)
  · exact congrArg Host.Outcome.next (shareValveTime_of_due energised none last)
  · intro taken
    rw [countClosed_of_one wasOpen closed others]
    exact ⟨fun below => congrArg settle (takeValveTime_of_below none below), fun last => congrArg settle (takeValveTime_of_last none last)⟩
  · have robot (u : State) (robots : u.robots = s.robots) : u.robots[r] = s.robots[r] := by rw [robots]
    rw [valveFault_of_on on well, abortJob_none (by rw [robot _ (raiseEvent_robots ..)]; exact none),
      changeRobot_of_codes (old := s.robots[r].modeCode) (new := 5) (by rw [robot _ (raiseEvent_robots ..)]) rfl
        (modeCode_ne_of_well well), ← raiseEvent_mapRobot,
      raiseEvent_twice (s := s.mapRobot r (Robot.faulted why)) room]
    rfl
  · have robots : (valveFault r why s).robots = s.robots.set r (Robot.faulted why { s.robots[r] with job := none }) := by
      rw [valveFault_of_on on well, changeRobot_robots]
      unfold abortJob
      rw [failJob_robots, raiseEvent_robots, set_get, if_pos rfl, Vector.set_set]
    have own : (valveFault r why s).robots[r] = Robot.faulted why { s.robots[r] with job := none } := by rw [robots, set_get, if_pos rfl]
    refine ⟨by rw [own]; rfl, by rw [own]; rfl, by rw [own]; rfl, fun q other => by rw [robots, set_get, if_neg other], ?_,
      valveFault_keepsBut r why s⟩
    rw [valveFault_of_on on well]
    exact jobsAborted_event r _ _ _ _ _ s

end Sys2Proof.Machine
end


section
/-! The aborts of several jobs: what they leave together (R78), and the power that leaves a zone (O40). -/

set_option Elab.async false

namespace Sys2Proof.Machine

/-! ## Commands that stay queued -/

/-- A FILL_ABORT is among the robot's entries. -/
def fillAbortQueued (s : State) (r : RobotId) : Prop := ∃ e ∈ s.bus.queues[r].entries, e.command = .fillAbort

theorem enter_keeps {q : RobotQueue} {e : BusEntry} (listed : e ∈ q.entries) (other : e.command ≠ .poll) (new : BusEntry) :
    e ∈ (q.enter new).entries := by
  unfold RobotQueue.entries at *
  obtain placed | waits := List.mem_append.1 listed
  · unfold RobotQueue.enter
    split
    · simp [placed]
    · split
      · next polls =>
        unfold RobotQueue.allPolls at polls
        exact absurd ((isPoll_iff _).1 (List.all_eq_true.1 polls e placed)) other
      · simp [placed]
  · unfold RobotQueue.enter
    split
    · simp [waits]
    · split <;> simp [waits]

theorem raiseCommand_keeps_fillAbort {r q : RobotId} {c : BusCommand} {s : State} (queued : fillAbortQueued s q) :
    fillAbortQueued (raiseCommand r c s) q := by
  obtain ⟨e, listed, abort⟩ := queued
  refine ⟨e, ?_, abort⟩
  by_cases same : q = r
  · unfold raiseCommand
    split
    · exact listed
    · show e ∈ ((s.mapQueue r _).bus.queues[q]).entries
      rw [mapQueue_get, if_pos same, ← same]
      exact enter_keeps listed (by rw [abort]; decide) _
  · rwa [raiseCommand_queue_other same]

/-! ## Aborts -/

/-- From s to t the jobs of these robots are aborted, no other robot loses its job, no robot changes its zone and no
FILL_ABORT leaves a queue. -/
structure Aborts (aborted : RobotId → Bool) (s t : State) : Prop where
  left : jobsAborted aborted s t
  jobs : ∀ r : RobotId, t.robots[r].job = if aborted r = true then none else s.robots[r].job
  zones : ∀ r : RobotId, t.robots[r].zone = s.robots[r].zone
  told : ∀ r : RobotId, fillAbortQueued s r → fillAbortQueued t r

theorem Aborts.trans {a b : RobotId → Bool} {s t u : State} (first : Aborts a s t) (second : Aborts b t u) :
    Aborts (fun r => a r || b r) s u where
  left := jobsAborted_trans first.left second.left first.jobs second.told
  jobs r := by
    rw [second.jobs, first.jobs]
    cases a r <;> cases b r <;> rfl
  zones r := (second.zones r).trans (first.zones r)
  told r queued := second.told r (first.told r queued)

theorem Aborts.congr {a b : RobotId → Bool} {s t : State} (aborts : Aborts a s t) (same : ∀ r, a r = b r) : Aborts b s t :=
  (funext same : a = b) ▸ aborts

/-- What leaves doses, counters and the track alone, and every robot's job and zone, aborts none. -/
theorem aborts_none {s t : State} (doses : t.doses = s.doses) (counters : t.counters = s.counters) (track : t.track = s.track)
    (jobs : ∀ r : RobotId, t.robots[r].job = s.robots[r].job) (zones : ∀ r : RobotId, t.robots[r].zone = s.robots[r].zone)
    (told : ∀ r : RobotId, fillAbortQueued s r → fillAbortQueued t r) : Aborts (fun _ => false) s t where
  left := by
    refine ⟨⟨fun i _ => by rw [counters], fun r => ⟨fun none => absurd none Bool.false_ne_true, fun _ => ⟨by rw [doses], by rw [counters]⟩⟩⟩,
      by rw [track], by rw [track], by rw [track], by rw [track],
      fun p _ => ⟨fun r none => absurd none Bool.false_ne_true, fun _ => slotAt_of_track track p⟩⟩
  jobs := jobs
  zones := zones
  told := told

theorem fillAbortQueued_of_bus {s t : State} (bus : t.bus = s.bus) {r : RobotId} (queued : fillAbortQueued s r) : fillAbortQueued t r := by
  unfold fillAbortQueued
  rwa [bus]

/-- What changes nothing but groups, grants, pins, events and the like aborts none. -/
theorem aborts_none_of_frame {s t : State} (doses : t.doses = s.doses) (counters : t.counters = s.counters) (track : t.track = s.track)
    (robots : t.robots = s.robots) (bus : t.bus = s.bus) : Aborts (fun _ => false) s t :=
  aborts_none doses counters track (fun r => by rw [robots]) (fun r => by rw [robots]) fun _ => fillAbortQueued_of_bus bus

theorem Aborts.after {a : RobotId → Bool} {s t u : State} (first : Aborts a s t) (second : Aborts (fun _ => false) t u) : Aborts a s u :=
  (first.trans second).congr fun _ => Bool.or_false _

theorem Aborts.before {a : RobotId → Bool} {s t u : State} (first : Aborts (fun _ => false) s t) (second : Aborts a t u) : Aborts a s u :=
  (first.trans second).congr fun _ => Bool.false_or _

theorem abortJob_aborts (r : RobotId) (s : State) : Aborts (fun q => decide (q = r)) s (abortJob r s) where
  left := jobsAborted_abortJob r s
  jobs q := by
    unfold abortJob
    rw [failJob_robots, set_get]
    by_cases same : q = r
    · rw [if_pos same, decide_eq_true same, if_pos rfl]
    · rw [if_neg same, decide_eq_false same, if_neg Bool.false_ne_true]
  zones q := by
    unfold abortJob
    rw [failJob_robots, set_get]
    split
    · next same => rw [same]
    · rfl
  told q queued := by
    cases held : s.robots[r].job with
    | none => rwa [abortJob_none held]
    | some j =>
      refine fillAbortQueued_of_bus (s := raiseCommand r .fillAbort s) ?_ (raiseCommand_keeps_fillAbort queued)
      exact failJob_bus held .aborted .aborted

/-- A robot's record changed beside its job and its zone. -/
theorem mapRobot_aborts {r : RobotId} {f : Robot → Robot} (job : ∀ rb, (f rb).job = rb.job) (zone : ∀ rb, (f rb).zone = rb.zone)
    (s : State) : Aborts (fun _ => false) s (s.mapRobot r f) := by
  refine aborts_none rfl rfl rfl (fun q => ?_) (fun q => ?_) fun _ queued => queued
  · rw [mapRobot_get]
    split
    · next same => rw [job, same]
    · rfl
  · rw [mapRobot_get]
    split
    · next same => rw [zone, same]
    · rfl

theorem raiseEvent_aborts (kind : EventKind) (unit : Nat) (detail1 detail2 : Half) (s : State) :
    Aborts (fun _ => false) s (raiseEvent kind unit detail1 detail2 s) :=
  aborts_none_of_frame (by simp) (by simp) (by simp) (by simp) (by simp)

theorem changeRobot_aborts {r : RobotId} {f : Robot → Robot} (job : ∀ rb, (f rb).job = rb.job) (zone : ∀ rb, (f rb).zone = rb.zone)
    (s : State) : Aborts (fun _ => false) s (changeRobot r f s) := by
  unfold changeRobot
  dsimp only
  split
  · exact mapRobot_aborts job zone s
  · exact (mapRobot_aborts job zone s).after (raiseEvent_aborts ..)

theorem raiseCommand_aborts (r : RobotId) (c : BusCommand) (s : State) : Aborts (fun _ => false) s (raiseCommand r c s) :=
  aborts_none (by simp [raiseCommand_frame]) (by simp [raiseCommand_frame]) (by simp [raiseCommand_frame])
    (fun q => by simp [raiseCommand_frame]) (fun q => by simp [raiseCommand_frame]) fun _ => raiseCommand_keeps_fillAbort

/-- Acts on robots in turn, each of which aborts its own robot's job where the robot's zone asks for it. -/
theorem forEach_aborts {P : State → Prop} {c : GroupId → Bool} {act : RobotId → State → State}
    (keeps : ∀ r t, P t → P (act r t))
    (each : ∀ (r : RobotId) t, P t → Aborts (fun q => decide (q = r) && c t.robots[q].zone) t (act r t)) (us : List RobotId) {s : State}
    (start : P s) : Aborts (fun q => decide (q ∈ us) && c s.robots[q].zone) s (forEach us act s) := by
  induction us generalizing s with
  | nil =>
    refine (aborts_none_of_frame rfl rfl rfl rfl rfl : Aborts _ s s).congr fun q => ?_
    rw [decide_eq_false List.not_mem_nil, Bool.false_and]
  | cons u us ih =>
    have first := each u s start
    rw [forEach_cons]
    refine (first.trans (ih (keeps u s start))).congr fun q => ?_
    beta_reduce
    rw [first.zones, ← Bool.and_or_distrib_right]
    congr 1
    rw [Bool.eq_iff_iff]
    simp

/-! ## Zones whose group leaves CLOSED (R124) -/

/-- One robot as its zone's group leaves CLOSED. -/
def leaveOne (zones : List GroupId) (r : RobotId) (t : State) : State :=
  if zones.contains t.robots[r].zone then (abortJob r t).mapRobot r fun rb => { rb with armed := false } else t

theorem leaveClosed_eq (zones : List GroupId) (s : State) : leaveClosed zones s = forEach (allUnits 8) (leaveOne zones) s := rfl

theorem leaveOne_aborts (zones : List GroupId) (r : RobotId) (t : State) :
    Aborts (fun q => decide (q = r) && zones.contains t.robots[q].zone) t (leaveOne zones r t) := by
  unfold leaveOne
  split
  · next inZones =>
    refine ((abortJob_aborts r t).after
      (mapRobot_aborts (f := fun rb => { rb with armed := false }) (fun _ => rfl) (fun _ => rfl) _)).congr fun q => ?_
    by_cases same : q = r
    · rw [same, inZones, Bool.and_true]
    · rw [decide_eq_false same, Bool.false_and]
  · next elsewhere =>
    refine (aborts_none_of_frame rfl rfl rfl rfl rfl : Aborts _ t t).congr fun q => ?_
    by_cases same : q = r
    · rw [same, Bool.eq_false_iff.2 elsewhere, Bool.and_false]
    · rw [decide_eq_false same, Bool.false_and]

theorem leaveClosed_aborts (zones : List GroupId) (s : State) :
    Aborts (fun r => zones.contains s.robots[r].zone) s (leaveClosed zones s) := by
  rw [leaveClosed_eq]
  refine (forEach_aborts (P := fun _ => True) (fun _ _ _ => trivial) (fun r t _ => leaveOne_aborts zones r t) (allUnits 8) trivial).congr
    fun q => ?_
  rw [decide_eq_true (mem_allUnits q), Bool.true_and]

theorem leaveClosed_robot (zones : List GroupId) (s : State) (r : RobotId) :
    (leaveClosed zones s).robots[r] =
      if zones.contains s.robots[r].zone = true then { s.robots[r] with job := none, armed := false } else s.robots[r] := by
  have each := forEach_own (fun _ => True) (fun t (r : RobotId) => t.robots[r]) (act := leaveOne zones)
    (f := fun _ rb => if zones.contains rb.zone = true then { rb with job := none, armed := false } else rb)
    (fun _ _ _ => trivial) (fun u t _ => ?_) (fun u v t _ other => ?_) (allUnits_nodup 8) (s := s) trivial r
  · rwa [if_pos (mem_allUnits r)] at each
  · unfold leaveOne
    split
    · rw [mapRobot_get, if_pos rfl]
      show ({ (failJob u .aborted .aborted t).robots[u] with armed := false } : Robot) = _
      rw [failJob_robot]
    · rfl
  · unfold leaveOne
    split
    · rw [mapRobot_get, if_neg other]
      show (failJob u .aborted .aborted t).robots[v] = _
      rw [failJob_robots, set_get, if_neg other]
    · rfl

theorem leaveClosed_keepsBut (zones : List GroupId) (s : State) :
    keepsBut [.track, .robots, .doses, .bus, .counters, .events] s (leaveClosed zones s) := by
  intro part other
  cases part <;> simp [Part.same, leaveClosed_frame] at other ⊢

/-! ## Groups that are opened (R119) -/

theorem enterGroup_eq (g : GroupId) (st : GroupState) (s : State) :
    enterGroup g st s =
      raiseEvent .groupState g.val (detail st.code) (detail s.groups[g].state.code)
        { s with groups := s.groups.set g { state := st, timer := entryTimer st s.pins.mirror[g] } } := rfl

theorem enterGroup_groups (g : GroupId) (st : GroupState) (s : State) :
    (enterGroup g st s).groups = s.groups.set g { state := st, timer := entryTimer st s.pins.mirror[g] } := by
  rw [enterGroup_eq]
  simp

/-- A group as an open leaves it, with the level of its mirror contacts. -/
def openedGroup (reportsClosed : Bool) (gr : Group) : Group :=
  if gr.state.coil = true then
    if reportsClosed = true then { state := .opening, timer := some 0 } else { state := .isOpen, timer := none }
  else gr

theorem dropCoil_groups (g : GroupId) (s : State) :
    (dropCoil g s).groups = s.groups.set g (openedGroup s.pins.mirror[g] s.groups[g]) := by
  unfold dropCoil openedGroup
  split
  · cases level : s.pins.mirror[g] with
    | true => rw [if_pos rfl, if_pos rfl, enterGroup_groups, level]; rfl
    | false => rw [if_neg Bool.false_ne_true, if_neg Bool.false_ne_true, enterGroup_groups, level]; rfl
  · exact (Vector.set_getElem_self _).symm

theorem openedGroup_coil (reportsClosed : Bool) (gr : Group) : (openedGroup reportsClosed gr).state.coil = false := by
  unfold openedGroup
  split
  · split <;> rfl
  · next off => exact Bool.eq_false_iff.2 off

theorem dropCoil_aborts (g : GroupId) (s : State) : Aborts (fun _ => false) s (dropCoil g s) :=
  aborts_none_of_frame (by simp [dropCoil_frame]) (by simp [dropCoil_frame]) (by simp [dropCoil_frame]) (by simp [dropCoil_frame])
    (by simp [dropCoil_frame])

theorem forEach_dropCoil_group (s : State) (g : GroupId) :
    (forEach (allUnits 4) dropCoil s).groups[g] = openedGroup s.pins.mirror[g] s.groups[g] := by
  have each := forEach_own (fun t => t.pins = s.pins) (fun t (g : GroupId) => t.groups[g]) (act := dropCoil)
    (f := fun g gr => openedGroup s.pins.mirror[g] gr)
    (fun u t same => (dropCoil_frame u t).1.trans same) (fun u t same => ?_) (fun u v t _ other => ?_) (allUnits_nodup 4) (s := s) rfl g
  · rwa [if_pos (mem_allUnits g)] at each
  · rw [dropCoil_groups, set_get, if_pos rfl, same]
  · rw [dropCoil_groups, set_get, if_neg other]

theorem forEach_dropCoil_frame (s : State) :
    (forEach (allUnits 4) dropCoil s).robots = s.robots ∧ (forEach (allUnits 4) dropCoil s).doses = s.doses
      ∧ (forEach (allUnits 4) dropCoil s).counters = s.counters ∧ (forEach (allUnits 4) dropCoil s).track = s.track
      ∧ (forEach (allUnits 4) dropCoil s).bus = s.bus := by
  refine ⟨?_, ?_, ?_, ?_, ?_⟩ <;> exact forEach_keeps _ _ _ (fun g t => by simp only [dropCoil_frame]) s

theorem closedGroups_contains (s : State) (g : GroupId) : (closedGroups s).contains g = decide (s.groups[g].state = .closed) := by
  rw [Bool.eq_iff_iff, List.contains_iff_mem]
  unfold closedGroups
  simp [mem_allUnits]

theorem raiseBroadcast_aborts (s : State) : Aborts (fun _ => false) s (raiseBroadcast s) :=
  aborts_none rfl rfl rfl (fun _ => rfl) (fun _ => rfl) fun _ queued => queued

theorem cutPower_groups (s : State) (g : GroupId) : (cutPower s).groups[g] = openedGroup s.pins.mirror[g] s.groups[g] := by
  have groups : (cutPower s).groups = (forEach (allUnits 4) dropCoil s).groups :=
    (leaveClosed_keepsBut _ _) .groups (by decide)
  rw [groups, forEach_dropCoil_group]

theorem cutPower_aborts (s : State) :
    Aborts (fun r => decide (s.groups[s.robots[r].zone].state = .closed)) s (cutPower s) := by
  obtain ⟨robots, doses, counters, track, bus⟩ := forEach_dropCoil_frame s
  refine (((aborts_none_of_frame doses counters track robots bus).before (leaveClosed_aborts (closedGroups s) _)).after
    (raiseBroadcast_aborts _)).congr fun r => ?_
  rw [robots, closedGroups_contains]

theorem cutPower_robot (s : State) (r : RobotId) :
    (cutPower s).robots[r] =
      if s.groups[s.robots[r].zone].state = .closed then { s.robots[r] with job := none, armed := false } else s.robots[r] := by
  show (leaveClosed (closedGroups s) (forEach (allUnits 4) dropCoil s)).robots[r] = _
  rw [leaveClosed_robot, (forEach_dropCoil_frame s).1, closedGroups_contains]
  simp only [decide_eq_true_eq]

theorem cutPower_keepsBut (s : State) :
    keepsBut [.track, .robots, .doses, .bus, .groups, .counters, .events] s (cutPower s) := by
  intro part other
  cases part <;> simp [Part.same, cutPower_frame] at other ⊢

/-- Settles O40: the groups one by one, the robots by their zone's group, and the aborts together. -/
theorem cutPowerDropsEveryCoil : Obligations.CutPowerDropsEveryCoil := by
  intro s
  refine ⟨fun g => ⟨?_, fun off => ?_, fun energised => ?_⟩, fun r => ⟨fun closed => ?_, fun other => ?_⟩, (cutPower_aborts s).left,
    rfl, cutPower_keepsBut s⟩
  · unfold coil
    rw [cutPower_groups]
    exact openedGroup_coil _ _
  · rw [cutPower_groups]
    exact if_neg (Bool.eq_false_iff.1 off)
  · rw [cutPower_groups]
    exact if_pos energised
  · rw [cutPower_robot, if_pos closed]
  · rw [cutPower_robot, if_neg other]

end Sys2Proof.Machine
end


section
/-! The main switch (O39) and the supervision of the power groups (O41). -/

set_option Elab.async false

namespace Sys2Proof.Machine

/-! ## The contacts (R108, R110, R111) -/

section
variable {s : State} {msa msb : Bool} (change : ¬(s.pins.msa = msa ∧ s.pins.msb = msb))
include change

theorem contactChange_of_on (first : msa = true) (second : msb = false) :
    contactChange msa msb s = switchToOn { s with pins := { s.pins with msa := msa, msb := msb } } := by
  unfold contactChange
  rw [if_neg change, first, second]
  rfl

theorem contactChange_of_off (first : msa = false) (second : msb = true) :
    contactChange msa msb s = switchToOff { s with pins := { s.pins with msa := msa, msb := msb } } := by
  unfold contactChange
  rw [if_neg change, first, second]
  rfl

theorem contactChange_of_alike (alike : msa = msb) :
    contactChange msa msb s =
      let read : State := { s with pins := { s.pins with msa := msa, msb := msb } }
      if s.pins.msa = s.pins.msb then read else setSwitch s.mainSwitch.state (some 0) read := by
  have pair : contactPair msa msb = .alike := if_pos alike
  have stood : s.pair = .alike ↔ s.pins.msa = s.pins.msb := by
    unfold State.pair contactPair
    split
    · next same => exact ⟨fun _ => same, fun _ => rfl⟩
    · next other =>
      refine ⟨fun is => ?_, fun same => absurd same other⟩
      split at is <;> cases is
  unfold contactChange
  rw [if_neg change, pair]
  simp only [stood]

end

theorem bool_toNat_detail (a b : Bool) : detail (a && b).toNat = if a = true ∧ b = true then 1 else 0 := by
  cases a <;> cases b <;> rfl

/-- The alike timer at its limit (R109). -/
theorem shareAlike_of_due {s : State} (alike : s.mainSwitch.alike = some 30) :
    let told : State :=
      raiseEvent .switchDiscrepancy 0 (detail s.mainSwitch.state.code) (if s.pins.msa = true ∧ s.pins.msb = true then 1 else 0)
        { s with
          mainSwitch := { state := .discrepant, alike := none, latch := true }
          stops := { s.stops with switchOff := true, discrepancy := true } }
    shareAlike s = countClosed s (settle (if s.mainSwitch.state = .on then cutPower told else told)) := by
  intro told
  have ticked : s.mainSwitch.tick = { s.mainSwitch with alike := some 31 } := by
    unfold MainSwitch.tick
    rw [alike]
    rfl
  unfold shareAlike
  rw [shareOfTick_of_due]
  · beta_reduce
    rw [ticked]
    unfold discrepancyExpiry
    dsimp only
    rw [if_pos (le_refl _), bool_toNat_detail]
    rfl
  · beta_reduce
    rw [ticked]
    rfl

/-- Settles O39: the pair that the contacts read, and the alike timer at its limit. -/
theorem contactsMoveTheSwitch : Obligations.ContactsMoveTheSwitch := by
  refine ⟨fun s msa msb change => ?_, fun s alike => congrArg Host.Outcome.next (shareAlike_of_due alike)⟩
  intro read switched
  have rule (t : State) (is : contactChange msa msb s = t) : exec (.mainSwitchContactChange msa msb) s = .next (settle t) :=
    congrArg (fun t => Host.Outcome.next (settle t)) is
  refine ⟨fun first second => rule _ (contactChange_of_on change first second), fun first second there => rule _ ?_,
    fun first second on => rule _ ?_, fun alike before => rule _ ?_, fun alike before => rule _ ?_⟩
  · rw [contactChange_of_off change first second]
    unfold switchToOff
    dsimp only
    cases state : s.mainSwitch.state with
    | on => exact absurd state there
    | off => rfl
    | discrepant => rfl
  · rw [contactChange_of_off change first second]
    unfold switchToOff
    dsimp only
    rw [on]
    rfl
  · rw [contactChange_of_alike change alike]
    exact if_neg before
  · rw [contactChange_of_alike change alike]
    exact if_pos before

/-! ## The mirror contacts and the supervision times (R117 to R123) -/

theorem supervised_iff {s : State} {g : GroupId} {st : GroupState} {ms limit : Nat} (group : s.groups[g] = { state := st, timer := some ms })
    (reached : limit ≤ ms) : supervised s g st limit = true := by
  unfold supervised
  rw [group]
  simp [reached]

section
variable {s : State} {g : GroupId} {st : GroupState} {ms : Nat} (group : s.groups[g] = { state := st, timer := some ms })
include group

theorem tickGroup_eq : s.mapGroup g Group.tick = { s with groups := s.groups.set g { state := st, timer := some (ms + 1) } } := by
  unfold State.mapGroup updateAt
  rw [group]
  rfl

omit group in
theorem lateGroup : (s.groups.set g { state := st, timer := some (ms + 1) })[g] = { state := st, timer := some (ms + 1) } := by
  rw [set_get, if_pos rfl]

/-- A group whose supervision timer reaches its limit acts in its state. -/
theorem shareGroup_of_due {due : State → Bool} {act : State → State}
    (reached : due { s with groups := s.groups.set g { state := st, timer := some (ms + 1) } } = true) :
    shareGroup g due act s = settle (act { s with groups := s.groups.set g { state := st, timer := some (ms + 1) } }) := by
  unfold shareGroup
  rw [shareOfTick_of_due]
  · rw [tickGroup_eq group]
  · rw [tickGroup_eq group]
    exact reached

end

theorem lateGroup_eq {s : State} {g : GroupId} {st : GroupState} (ms : Nat) (group : s.groups[g] = { state := st, timer := some (ms - 1) }) :
    ({ s with groups := s.groups.set g { s.groups[g] with timer := some ms } } : State) =
      { s with groups := s.groups.set g { state := st, timer := some ms } } := by
  rw [group]

/-- A group that a report makes enter a state in which no supervision runs. -/
theorem enterGroup_of_still {s : State} {g : GroupId} {st : GroupState} (still : entryTimer st s.pins.mirror[g] = none) :
    enterGroup g st s =
      raiseEvent .groupState g.val (detail st.code) (detail s.groups[g].state.code)
        { s with groups := s.groups.set g { state := st, timer := none } } := by
  rw [enterGroup_eq, still]

/-- Settles O41: the report by the group's state, the four expiries at their limits, and the zones that leave CLOSED. -/
theorem contactorsAreSupervised : Obligations.ContactorsAreSupervised := by
  refine ⟨fun s g reportsClosed change => ?_, fun s g => ?_, fun zones s =>
    ⟨(leaveClosed_aborts zones s).left, leaveClosed_robot zones s, leaveClosed_keepsBut zones s⟩⟩
  · intro read entered timed
    have level : read.pins.mirror[g] = reportsClosed := by
      show (s.pins.mirror.set g reportsClosed)[g] = _
      rw [set_get, if_pos rfl]
    have enters (st : GroupState) (still : entryTimer st reportsClosed = none) : enterGroup g st read = entered st :=
      enterGroup_of_still (by rw [level]; exact still)
    refine congrArg (fun t => Host.Outcome.next (settle t)) ?_
    show mirrorChange g reportsClosed s = _
    unfold mirrorChange
    rw [if_neg change]
    cases state : s.groups[g].state with
    | closing =>
      cases reportsClosed with
      | true => exact enters .closed rfl
      | false => rfl
    | opening =>
      cases reportsClosed with
      | true => rfl
      | false => exact enters .isOpen rfl
    | closed => cases reportsClosed <;> rfl
    | isOpen => cases reportsClosed <;> rfl
    | faultPullin => cases reportsClosed <;> rfl
    | faultWeld => rfl
  · intro late total
    refine ⟨fun group => ?_, fun group => ?_, fun group => ?_, fun group => ?_, fun st u => ?_⟩
    · have lateIs : late 150 = _ := lateGroup_eq 150 group
      have reached := supervised_iff (s := late 150) (limit := 150) (by rw [lateIs]; exact lateGroup) (le_refl _)
      refine congrArg Host.Outcome.next ?_
      show sharePullin g s = _
      unfold sharePullin
      rw [shareGroup_of_due group (by rw [← lateIs]; exact reached), ← lateIs]
      unfold pullinExpiry
      rw [if_pos reached]
    · have lateIs : late 31 = _ := lateGroup_eq 31 group
      have reached := supervised_iff (s := late 31) (limit := 31) (by rw [lateIs]; exact lateGroup) (le_refl _)
      refine congrArg Host.Outcome.next ?_
      show shareFallOut g s = _
      unfold shareFallOut
      rw [shareGroup_of_due group (by rw [← lateIs]; exact reached), ← lateIs]
      unfold fallOutExpiry
      rw [if_pos reached]
      rfl
    · have lateIs : late 100 = _ := lateGroup_eq 100 group
      have reached := supervised_iff (s := late 100) (limit := 100) (by rw [lateIs]; exact lateGroup) (le_refl _)
      refine congrArg Host.Outcome.next ?_
      show shareDropout g s = _
      unfold shareDropout
      rw [shareGroup_of_due group (by rw [← lateIs]; exact reached), ← lateIs]
      unfold dropoutExpiry
      rw [if_pos reached]
      rfl
    · have welds (st : GroupState) (group : s.groups[g] = { state := st, timer := some 99 })
          (resting : st = .isOpen ∨ st = .faultPullin) :
          shareWeld g s = settle (enterGroup g .faultWeld (raiseEvent .weldFault g.val 1 total (late 100))) := by
        have lateIs : late 100 = _ := lateGroup_eq 100 group
        have reached := supervised_iff (s := late 100) (limit := 100) (by rw [lateIs]; exact lateGroup) (le_refl _)
        have due : (supervised (late 100) g .isOpen 100 || supervised (late 100) g .faultPullin 100) = true := by
          rw [Bool.or_eq_true]
          obtain rfl | rfl := resting
          · exact .inl reached
          · exact .inr reached
        unfold shareWeld
        rw [shareGroup_of_due group (by rw [← lateIs]; exact due), ← lateIs]
        unfold weldExpiry
        rw [if_pos due]
        rfl
      refine congrArg Host.Outcome.next ?_
      obtain open_ | pullin := group
      · exact welds _ open_ (.inl rfl)
      · exact welds _ pullin (.inr rfl)
    · rw [enterGroup_eq]
      cases st <;> rfl

end Sys2Proof.Machine
end


section
/-! Doors and intrusions (O42). -/

set_option Elab.async false

namespace Sys2Proof.Machine

/-! ## A group that is opened (R119, R124) -/

theorem openGroup_of_closed {g : GroupId} {s : State} (closed : s.groups[g].state = .closed) :
    openGroup g s = leaveClosed [g] (dropCoil g s) := by
  unfold openGroup
  exact if_pos closed

theorem openGroup_of_other {g : GroupId} {s : State} (other : s.groups[g].state ≠ .closed) : openGroup g s = dropCoil g s := by
  unfold openGroup
  exact if_neg other

theorem openGroup_groups (g : GroupId) (s : State) :
    (openGroup g s).groups = s.groups.set g (openedGroup s.pins.mirror[g] s.groups[g]) := by
  unfold openGroup
  split
  · exact ((leaveClosed_keepsBut _ _) .groups (by decide)).trans (dropCoil_groups g s)
  · exact dropCoil_groups g s

theorem openGroup_aborts (g : GroupId) (s : State) :
    Aborts (fun r => decide (s.robots[r].zone = g ∧ s.groups[g].state = .closed)) s (openGroup g s) := by
  have robots : (dropCoil g s).robots = s.robots := by simp only [dropCoil_frame]
  by_cases closed : s.groups[g].state = .closed
  · rw [openGroup_of_closed closed]
    refine ((dropCoil_aborts g s).before (leaveClosed_aborts [g] _)).congr fun r => ?_
    rw [robots, Bool.eq_iff_iff, decide_eq_true_eq, and_iff_left closed]
    simp
  · rw [openGroup_of_other closed]
    exact (dropCoil_aborts g s).congr fun r => (decide_eq_false fun both => closed both.2).symm

theorem openGroup_robot (g : GroupId) (s : State) (r : RobotId) :
    (openGroup g s).robots[r] =
      if s.robots[r].zone = g ∧ s.groups[g].state = .closed then { s.robots[r] with job := none, armed := false }
      else s.robots[r] := by
  have robots : (dropCoil g s).robots = s.robots := by simp only [dropCoil_frame]
  by_cases closed : s.groups[g].state = .closed
  · rw [openGroup_of_closed closed, leaveClosed_robot, robots]
    simp only [List.contains_cons, List.contains_nil, Bool.or_false, beq_iff_eq, and_iff_left closed]
  · rw [openGroup_of_other closed, robots, if_neg fun both => closed both.2]

theorem openGroup_keepsBut (g : GroupId) (s : State) :
    keepsBut [.track, .robots, .doses, .bus, .groups, .counters, .events] s (openGroup g s) := by
  intro part other
  cases part <;> simp [Part.same, openGroup_frame] at other ⊢

/-! ## A robot of an intruded zone (R68) -/

/-- Every robot that holds a job is in PRODUCTION. -/
def jobsProduce (s : State) : Prop := ∀ r : RobotId, s.robots[r].job ≠ none → s.robots[r].mode = .production

theorem jobsProduce_of_fillsPowered {s : State} (powered : fillsPowered s) : jobsProduce s := by
  intro r holds
  obtain ⟨j, held⟩ := Option.ne_none_iff_exists'.1 holds
  obtain ⟨jobs, -, -⟩ := powered r
  exact (jobs j held).1

theorem jobsProduce_of_robots {s t : State} (robots : t.robots = s.robots) (produce : jobsProduce s) : jobsProduce t := by
  intro r
  rw [robots]
  exact produce r

/-- The aborts of robots that hold no job may be named or not. -/
theorem Aborts.congr_of_job {a b : RobotId → Bool} {s t : State} (aborts : Aborts a s t)
    (same : ∀ r : RobotId, s.robots[r].job ≠ none → a r = b r) : Aborts b s t := by
  have named {r : RobotId} {j : Job} (held : j ∈ s.robots[r].job) : a r = b r :=
    same r (by rw [Option.mem_def.1 held]; exact Option.some_ne_none j)
  obtain ⟨⟨⟨counters, fills⟩, head, next, length, tallies, slots⟩, jobs, zones, told⟩ := aborts
  refine ⟨⟨⟨counters, fun r => ⟨fun is j held => (fills r).1 ((named held).trans is) j held, fun other => ?_⟩⟩, head, next, length,
    tallies, fun p bound => ⟨fun r is j held at_ => ?_, fun none => ?_⟩⟩, fun r => ?_, zones, told⟩
  · refine (fills r).2 ?_
    by_cases holds : s.robots[r].job = none
    · exact .inr holds
    · exact .inl ((same r holds).trans (other.resolve_right holds))
  · obtain ⟨q, isQ, k, heldQ, ticket, slot⟩ := (slots p bound).1 r ((named held).trans is) j held at_
    exact ⟨q, (named heldQ).symm.trans isQ, k, heldQ, ticket, slot⟩
  · exact (slots p bound).2 fun r is j held => none r ((named held).symm.trans is) j held
  · rw [jobs r]
    by_cases holds : s.robots[r].job = none
    · rw [holds, ite_self, ite_self]
    · rw [same r holds]

/-- A robot's record as an intrusion of its zone leaves it. -/
def Robot.intruded (rb : Robot) : Robot :=
  { rb with
    armed := false, resume := false, job := none
    jog := if rb.mode = .service then false else rb.jog
    mode := if rb.mode = .production ∨ rb.mode = .service then .manual else rb.mode }

section
variable {r : RobotId} {s : State}

theorem intrudeRobot_of_production (producing : s.robots[r].mode = .production) :
    intrudeRobot r s =
      changeRobot r (fun rb => { rb with resume := false, armed := false, mode := .manual }) (abortJob r s) := by
  unfold intrudeRobot
  dsimp only
  rw [producing]

theorem intrudeRobot_of_service (serving : s.robots[r].mode = .service) :
    intrudeRobot r s =
      (let left := changeRobot r (fun rb => { rb with resume := false, armed := false, mode := .manual, jog := false }) s
      if s.robots[r].jog then raiseCommand r .jogOff left else left) := by
  unfold intrudeRobot
  dsimp only
  rw [serving]

theorem intrudeRobot_of_other (producing : s.robots[r].mode ≠ .production) (serving : s.robots[r].mode ≠ .service) :
    intrudeRobot r s = s.mapRobot r fun rb => { rb with resume := false, armed := false } := by
  unfold intrudeRobot
  dsimp only
  cases mode : s.robots[r].mode with
  | production => exact absurd mode producing
  | service => exact absurd mode serving
  | off => rfl
  | manual => rfl
  | faulted => rfl
  | lost => rfl

theorem intrudeRobot_robots (produce : s.robots[r].job ≠ none → s.robots[r].mode = .production) :
    (intrudeRobot r s).robots = s.robots.set r s.robots[r].intruded := by
  by_cases producing : s.robots[r].mode = .production
  · rw [intrudeRobot_of_production producing, changeRobot_robots]
    unfold abortJob Robot.intruded
    rw [failJob_robots, set_get, if_pos rfl, Vector.set_set, producing]
    rfl
  · have idle : s.robots[r].job = none := Classical.not_not.1 (mt produce producing)
    by_cases serving : s.robots[r].mode = .service
    · have record : ({ s.robots[r] with resume := false, armed := false, mode := .manual, jog := false } : Robot) =
          s.robots[r].intruded := by
        unfold Robot.intruded
        dsimp only
        rw [serving, idle]
        rfl
      rw [intrudeRobot_of_service serving]
      dsimp only
      split <;> simp only [raiseCommand_frame, changeRobot_robots, record]
    · have record : ({ s.robots[r] with resume := false, armed := false } : Robot) = s.robots[r].intruded := by
        unfold Robot.intruded
        dsimp only
        rw [if_neg serving, if_neg (by rintro (is | is); exacts [producing is, serving is]), idle]
      rw [intrudeRobot_of_other producing serving, ← record]
      rfl

theorem intrudeRobot_aborts (produce : s.robots[r].job ≠ none → s.robots[r].mode = .production) :
    Aborts (fun q => decide (q = r)) s (intrudeRobot r s) := by
  by_cases producing : s.robots[r].mode = .production
  · rw [intrudeRobot_of_production producing]
    exact (abortJob_aborts r s).after
      (changeRobot_aborts (f := fun rb => { rb with resume := false, armed := false, mode := .manual }) (fun _ => rfl) (fun _ => rfl) _)
  · have idle : s.robots[r].job = none := Classical.not_not.1 (mt produce producing)
    have widened {t : State} (none : Aborts (fun _ => false) s t) : Aborts (fun q => decide (q = r)) s t :=
      none.congr_of_job fun q holds => (decide_eq_false fun same : q = r => holds (by rw [same]; exact idle)).symm
    by_cases serving : s.robots[r].mode = .service
    · rw [intrudeRobot_of_service serving]
      have left := changeRobot_aborts (r := r)
        (f := fun rb => { rb with resume := false, armed := false, mode := .manual, jog := false }) (fun _ => rfl) (fun _ => rfl) s
      dsimp only
      split
      · exact widened (left.after (raiseCommand_aborts ..))
      · exact widened left
    · rw [intrudeRobot_of_other producing serving]
      exact widened (mapRobot_aborts (f := fun rb => { rb with resume := false, armed := false }) (fun _ => rfl) (fun _ => rfl) s)

end

/-! ## An intruded zone (R146) -/

/-- One robot as a zone is intruded. -/
def intrudeIn (z : GroupId) (r : RobotId) (t : State) : State := if t.robots[r].zone = z then intrudeRobot r t else t

theorem intrudeIn_of_in {z : GroupId} {r : RobotId} {t : State} (inZone : t.robots[r].zone = z) :
    intrudeIn z r t = intrudeRobot r t := by
  unfold intrudeIn
  exact if_pos inZone

theorem intrudeIn_of_out {z : GroupId} {r : RobotId} {t : State} (elsewhere : t.robots[r].zone ≠ z) : intrudeIn z r t = t := by
  unfold intrudeIn
  exact if_neg elsewhere

theorem intrudeIn_robot (z : GroupId) {r : RobotId} {t : State} (produce : jobsProduce t) (q : RobotId) :
    (intrudeIn z r t).robots[q] = if q = r ∧ t.robots[r].zone = z then t.robots[r].intruded else t.robots[q] := by
  by_cases inZone : t.robots[r].zone = z
  · rw [intrudeIn_of_in inZone, intrudeRobot_robots (produce r), set_get]
    simp only [and_iff_left inZone]
  · rw [intrudeIn_of_out inZone, if_neg fun both => inZone both.2]

theorem intrudeIn_produce (z : GroupId) (r : RobotId) {t : State} (produce : jobsProduce t) : jobsProduce (intrudeIn z r t) := by
  intro q
  rw [intrudeIn_robot z produce]
  split
  · exact fun holds => absurd rfl holds
  · exact produce q

theorem intrudeIn_aborts (z : GroupId) (r : RobotId) {t : State} (produce : jobsProduce t) :
    Aborts (fun q => decide (q = r) && decide (t.robots[q].zone = z)) t (intrudeIn z r t) := by
  unfold intrudeIn
  split
  · next inZone =>
    refine (intrudeRobot_aborts (produce r)).congr fun q => ?_
    by_cases same : q = r
    · rw [same, decide_eq_true inZone, Bool.and_true]
    · rw [decide_eq_false same, Bool.false_and]
  · next elsewhere =>
    refine (aborts_none_of_frame rfl rfl rfl rfl rfl : Aborts _ t t).congr fun q => ?_
    by_cases same : q = r
    · rw [same, decide_eq_false elsewhere, Bool.and_false]
    · rw [decide_eq_false same, Bool.false_and]

/-- The state in which the zone's robots are intruded: the latch set and INTRUSION raised. -/
def intrusionTold (z : GroupId) (how : Half) (s : State) : State :=
  raiseEvent .intrusion z.val how (detail (intrudedJobs s z)) (setZoneLatch z true s)

theorem zoneIntrusion_of_latched {z : GroupId} {how : Half} {s : State} (latched : s.access.zoneLatch[z] = true) :
    zoneIntrusion z how s = s := by
  unfold zoneIntrusion
  exact if_pos latched

theorem zoneIntrusion_of_clear {z : GroupId} {how : Half} {s : State} (clear : s.access.zoneLatch[z] = false) :
    zoneIntrusion z how s = openGroup z (forEach (allUnits 8) (intrudeIn z) (intrusionTold z how s)) := by
  unfold zoneIntrusion
  exact if_neg (Bool.eq_false_iff.1 clear)

theorem intrusionTold_keepsBut (z : GroupId) (how : Half) (s : State) : keepsBut [.access, .events] s (intrusionTold z how s) := by
  intro part other
  unfold intrusionTold
  cases part <;> simp [Part.same] at other ⊢

theorem intrusionTold_access (z : GroupId) (how : Half) (s : State) :
    (intrusionTold z how s).access = { s.access with zoneLatch := s.access.zoneLatch.set z true } := by
  unfold intrusionTold
  simp [setZoneLatch]

section
variable {z : GroupId} {s : State} (produce : jobsProduce s)
include produce

theorem intrudeAll_robot (r : RobotId) :
    (forEach (allUnits 8) (intrudeIn z) s).robots[r] = if s.robots[r].zone = z then s.robots[r].intruded else s.robots[r] := by
  have each := forEach_own jobsProduce (fun t (r : RobotId) => t.robots[r]) (act := intrudeIn z)
    (f := fun _ rb => if rb.zone = z then rb.intruded else rb)
    (fun u t => intrudeIn_produce z u) (fun u t produce => ?_) (fun u v t produce other => ?_) (allUnits_nodup 8) produce r
  · rwa [if_pos (mem_allUnits r)] at each
  · rw [intrudeIn_robot z produce]
    simp only [true_and]
  · rw [intrudeIn_robot z produce, if_neg fun both => other both.1]

theorem intrudeAll_aborts : Aborts (fun r => decide (s.robots[r].zone = z)) s (forEach (allUnits 8) (intrudeIn z) s) := by
  refine (forEach_aborts (P := jobsProduce) (c := fun zone => decide (zone = z)) (fun r t => intrudeIn_produce z r)
    (fun r t => intrudeIn_aborts z r) (allUnits 8) produce).congr fun r => ?_
  rw [decide_eq_true (mem_allUnits r), Bool.true_and]

end

theorem intrudeAll_keepsBut (z : GroupId) (s : State) :
    keepsBut [.track, .robots, .doses, .bus, .counters, .events] s (forEach (allUnits 8) (intrudeIn z) s) := by
  refine forEach_invariant (keepsBut _ s) (allUnits 8) _ (fun r t kept => keepsBut_trans kept ?_) s (keepsBut_refl _ s)
  intro part other
  unfold intrudeIn
  split
  · cases part <;> simp [Part.same, intrudeRobot_frame] at other ⊢
  · cases part <;> rfl

theorem zoneIntrusion_keepsBut (z : GroupId) (how : Half) (s : State) :
    keepsBut [.track, .robots, .doses, .bus, .groups, .access, .counters, .events] s (zoneIntrusion z how s) := by
  by_cases latched : s.access.zoneLatch[z] = true
  · rw [zoneIntrusion_of_latched latched]
    exact keepsBut_refl _ s
  · rw [zoneIntrusion_of_clear (Bool.eq_false_iff.2 latched)]
    exact keepsBut_trans (keepsBut_mono (intrusionTold_keepsBut z how s) (by decide))
      (keepsBut_trans (keepsBut_mono (intrudeAll_keepsBut z _) (by decide)) (keepsBut_mono (openGroup_keepsBut z _) (by decide)))

theorem zoneIntrusion_access (z : GroupId) (how : Half) (s : State) :
    (zoneIntrusion z how s).access = { s.access with zoneLatch := s.access.zoneLatch.set z true } := by
  by_cases latched : s.access.zoneLatch[z] = true
  · have same : s.access.zoneLatch.set z true = s.access.zoneLatch := by
      rw [← latched]
      exact Vector.set_getElem_self _
    rw [zoneIntrusion_of_latched latched, same]
  · rw [zoneIntrusion_of_clear (Bool.eq_false_iff.2 latched)]
    exact ((openGroup_keepsBut z _) .access (by decide)).trans
      (((intrudeAll_keepsBut z _) .access (by decide)).trans (intrusionTold_access z how s))

theorem zoneIntrusion_groups {z : GroupId} {s : State} (clear : s.access.zoneLatch[z] = false) (how : Half) :
    (zoneIntrusion z how s).groups = s.groups.set z (openedGroup s.pins.mirror[z] s.groups[z]) := by
  have told := intrusionTold_keepsBut z how s
  have all := intrudeAll_keepsBut z (intrusionTold z how s)
  have groups : (forEach (allUnits 8) (intrudeIn z) (intrusionTold z how s)).groups = s.groups :=
    (all .groups (by decide)).trans (told .groups (by decide))
  have pins : (forEach (allUnits 8) (intrudeIn z) (intrusionTold z how s)).pins = s.pins :=
    (all .pins (by decide)).trans (told .pins (by decide))
  rw [zoneIntrusion_of_clear clear, openGroup_groups, groups, pins]

section
variable {z : GroupId} {s : State} (clear : s.access.zoneLatch[z] = false) (produce : jobsProduce s) (how : Half)
include clear produce

omit clear in
theorem intruded_stopped (r : RobotId) :
    (forEach (allUnits 8) (intrudeIn z) (intrusionTold z how s)).robots[r] =
      if s.robots[r].zone = z then s.robots[r].intruded else s.robots[r] := by
  have robots : (intrusionTold z how s).robots = s.robots := (intrusionTold_keepsBut z how s) .robots (by decide)
  rw [intrudeAll_robot (jobsProduce_of_robots robots produce), robots]

theorem zoneIntrusion_robot (r : RobotId) :
    (zoneIntrusion z how s).robots[r] = if s.robots[r].zone = z then s.robots[r].intruded else s.robots[r] := by
  rw [zoneIntrusion_of_clear clear, openGroup_robot, intruded_stopped produce]
  by_cases inZone : s.robots[r].zone = z
  · rw [if_pos inZone]
    exact ite_eq_right_iff.2 fun _ => rfl
  · rw [if_neg inZone, if_neg fun both => inZone both.1]

theorem zoneIntrusion_aborts : Aborts (fun r => decide (s.robots[r].zone = z)) s (zoneIntrusion z how s) := by
  have told := intrusionTold_keepsBut z how s
  have robots : (intrusionTold z how s).robots = s.robots := told .robots (by decide)
  have first : Aborts (fun _ => false) s (intrusionTold z how s) :=
    aborts_none_of_frame (told .doses (by decide)) (told .counters (by decide)) (told .track (by decide)) robots
      (told .bus (by decide))
  rw [zoneIntrusion_of_clear clear]
  refine ((first.before (intrudeAll_aborts (z := z) (jobsProduce_of_robots robots produce))).trans (openGroup_aborts z _)).congr
    fun r => ?_
  rw [intruded_stopped produce, robots]
  by_cases inZone : s.robots[r].zone = z
  · rw [decide_eq_true inZone, Bool.true_or]
  · rw [if_neg inZone, decide_eq_false inZone, decide_eq_false fun both => inZone both.1]
    rfl

omit produce in
/-- INTRUSION comes behind the records that the queue holds. -/
theorem zoneIntrusion_event (room : s.events.queue.length < 64) :
    (zoneIntrusion z how s).events.queue[s.events.queue.length]? =
      some (s.recordOf .intrusion z.val how (detail (intrudedJobs s z))) := by
  have told : (intrusionTold z how s).events.queue =
      s.events.queue ++ [s.recordOf .intrusion z.val how (detail (intrudedJobs s z))] := by
    unfold intrusionTold
    rw [raiseEvent_events_of_room (s := setZoneLatch z true s) room]
    rfl
  have each (r : RobotId) : Appends (intrudeIn z r) := fun q t front => by
    unfold intrudeIn
    split
    · exact intrudeRobot_appends r front
    · exact front
  have front : (intrusionTold z how s).events.queue <+: (zoneIntrusion z how s).events.queue := by
    rw [zoneIntrusion_of_clear clear]
    exact openGroup_appends z (forEach_appends (allUnits 8) each (List.prefix_refl _))
  obtain ⟨rest, whole⟩ := front
  rw [← whole, told, List.append_assoc, List.getElem?_append_right (Nat.le_refl _), Nat.sub_self]
  rfl

end

theorem zoneIntrusion_produce (z : GroupId) (how : Half) {s : State} (produce : jobsProduce s) : jobsProduce (zoneIntrusion z how s) := by
  by_cases latched : s.access.zoneLatch[z] = true
  · rwa [zoneIntrusion_of_latched latched]
  · intro r
    rw [zoneIntrusion_robot (Bool.eq_false_iff.2 latched) produce]
    by_cases inZone : s.robots[r].zone = z
    · rw [if_pos inZone]
      exact fun holds => absurd rfl holds
    · rw [if_neg inZone]
      exact produce r

/-- The jobs that an intrusion's event counts. -/
theorem intrudedJobs_eq {s : State} (produce : jobsProduce s) (z : GroupId) :
    intrudedJobs s z = (allUnits 8).countP fun r => s.robots[r].zone == z && s.robots[r].job.isSome := by
  unfold intrudedJobs
  refine List.countP_congr fun r _ => ?_
  rw [Bool.and_eq_true, Bool.and_eq_true, Bool.and_eq_true, and_assoc]
  refine and_congr_right fun _ => and_iff_right_of_imp fun holds => ?_
  exact beq_iff_eq.2 (produce r (Option.isSome_iff_ne_none.1 holds))

/-! ## The cabinet (R147) -/

section
variable {zoneHow : Half}

theorem intrudeZones_produce (zs : List GroupId) {s : State} (produce : jobsProduce s) :
    jobsProduce (forEach zs (fun z t => zoneIntrusion z zoneHow t) s) :=
  forEach_invariant jobsProduce zs _ (fun z _ => zoneIntrusion_produce z zoneHow) s produce

theorem zoneIntrusion_latch (z k : GroupId) (how : Half) (s : State) :
    (zoneIntrusion z how s).access.zoneLatch[k] = if k = z then true else s.access.zoneLatch[k] := by
  rw [zoneIntrusion_access, set_get]

/-- The zones of a list with a clear latch: its first zone, or those of the rest. -/
theorem clearZone_cons {z : GroupId} {zs : List GroupId} (fresh : z ∉ zs) (latch : Vector Bool 4) (k : GroupId) :
    (decide (k = z) && !latch[z] || decide (k ∈ zs) && !(if k = z then true else latch[k])) =
      (decide (k ∈ z :: zs) && !latch[k]) := by
  by_cases same : k = z
  · subst same
    rw [decide_eq_true rfl, decide_eq_true List.mem_cons_self, decide_eq_false fresh, Bool.false_and, Bool.or_false]
  · have listed : decide (k ∈ z :: zs) = decide (k ∈ zs) := by
      rw [Bool.eq_iff_iff, decide_eq_true_eq, decide_eq_true_eq, List.mem_cons, or_iff_right same]
    rw [decide_eq_false same, if_neg same, Bool.false_and, Bool.false_or, listed]

theorem intrudeZones_aborts {zs : List GroupId} (once : zs.Nodup) {s : State} (produce : jobsProduce s) :
    Aborts (fun r => decide (s.robots[r].zone ∈ zs) && !s.access.zoneLatch[s.robots[r].zone]) s
      (forEach zs (fun z t => zoneIntrusion z zoneHow t) s) := by
  induction zs generalizing s with
  | nil =>
    refine (aborts_none_of_frame rfl rfl rfl rfl rfl : Aborts _ s s).congr fun r => ?_
    rw [decide_eq_false List.not_mem_nil, Bool.false_and]
  | cons z zs ih =>
    obtain ⟨fresh, rest⟩ := List.nodup_cons.1 once
    have first : Aborts (fun r => decide (s.robots[r].zone = z) && !s.access.zoneLatch[z]) s (zoneIntrusion z zoneHow s) := by
      by_cases latched : s.access.zoneLatch[z] = true
      · rw [zoneIntrusion_of_latched latched]
        refine (aborts_none_of_frame rfl rfl rfl rfl rfl : Aborts _ s s).congr fun r => ?_
        rw [latched, Bool.not_true, Bool.and_false]
      · have clear := Bool.eq_false_iff.2 latched
        refine (zoneIntrusion_aborts clear produce zoneHow).congr fun r => ?_
        rw [clear, Bool.not_false, Bool.and_true]
    rw [forEach_cons]
    refine (first.trans (ih rest (zoneIntrusion_produce z zoneHow produce))).congr fun r => ?_
    beta_reduce
    rw [zoneIntrusion_latch]
    have zone := first.zones r
    generalize (zoneIntrusion z zoneHow s).robots[r].zone = k at zone ⊢
    subst zone
    exact clearZone_cons fresh s.access.zoneLatch _

theorem intrudeZones_keepsBut (zs : List GroupId) (s : State) :
    keepsBut [.track, .robots, .doses, .bus, .groups, .access, .counters, .events] s
      (forEach zs (fun z t => zoneIntrusion z zoneHow t) s) :=
  forEach_invariant (keepsBut _ s) zs _ (fun z t kept => keepsBut_trans kept (zoneIntrusion_keepsBut z zoneHow t)) s (keepsBut_refl _ s)

theorem intrudeZones_access (s : State) :
    (forEach (allUnits 4) (fun z t => zoneIntrusion z zoneHow t) s).access =
      { s.access with zoneLatch := Vector.replicate 4 true } := by
  have latch (z : GroupId) : (forEach (allUnits 4) (fun z t => zoneIntrusion z zoneHow t) s).access.zoneLatch[z] = true := by
    have each := forEach_own (fun _ => True) (fun t (z : GroupId) => t.access.zoneLatch[z])
      (act := fun z t => zoneIntrusion z zoneHow t) (f := fun _ _ => true) (fun _ _ _ => trivial)
      (fun u t _ => by rw [zoneIntrusion_latch, if_pos rfl]) (fun u v t _ other => by rw [zoneIntrusion_latch, if_neg other])
      (allUnits_nodup 4) (s := s) trivial z
    rwa [if_pos (mem_allUnits z)] at each
  have rest := forEach_keeps (fun t => { t.access with zoneLatch := Vector.replicate 4 true }) (allUnits 4)
    (fun z t => zoneIntrusion z zoneHow t) (fun z t => by beta_reduce; rw [zoneIntrusion_access]) s
  generalize forEach (allUnits 4) (fun z t => zoneIntrusion z zoneHow t) s = t at latch rest
  have latches : t.access.zoneLatch = Vector.replicate 4 true := by
    refine Vector.ext fun k bound => ?_
    rw [Vector.getElem_replicate]
    exact latch ⟨k, bound⟩
  rw [← rest, ← latches]

end

/-! ## Doors (R127, R137, R139, R141) -/

theorem openDoors_eq_zero_iff (s : State) (g : Grant) :
    openDoors s g = 0 ↔ ∀ k : DoorId, g.hasDoor k = true → s.pins.doors[k] = false := by
  unfold openDoors
  rw [List.countP_eq_zero]
  constructor
  · intro none k holds
    have := none k (mem_allUnits k)
    rw [holds, Bool.true_and] at this
    exact Bool.eq_false_iff.2 this
  · intro closed k _ both
    obtain ⟨holds, open_⟩ := Bool.and_eq_true_iff.1 both
    rw [closed k holds] at open_
    exact Bool.false_ne_true open_

/-- A grant's door-opened flag as a door's opening leaves it. -/
def Grant.flagged (d : DoorId) (g : Grant) : Grant := { g with doorOpened := g.doorOpened || (g.releasing && g.hasDoor d) }

theorem flagGrant_eq (d : DoorId) (i : PlaceId) (s : State) :
    flagGrant d i s = s.putGrant i (s.access.grants[i].map (Grant.flagged d)) := by
  have same (g : Option Grant) (is : s.access.grants[i] = g) : s.putGrant i g = s := by
    unfold State.putGrant
    rw [← is, show s.access.grants.set i s.access.grants[i] = s.access.grants from Vector.set_getElem_self _]
  unfold flagGrant
  cases held : s.access.grants[i] with
  | none => exact (same none held).symm
  | some g =>
    dsimp only [Option.map_some]
    cases holds : g.releasing && g.hasDoor d with
    | true =>
      have flagged : g.flagged d = { g with doorOpened := true } := by
        unfold Grant.flagged
        rw [holds, Bool.or_true]
      rw [flagged]
      rfl
    | false =>
      have flagged : g.flagged d = g := by
        unfold Grant.flagged
        rw [holds, Bool.or_false]
      rw [flagged, same _ held]
      rfl

theorem flagOpened_grant (d : DoorId) (s : State) (i : PlaceId) :
    (forEach (allUnits 8) (flagGrant d) s).access.grants[i] = s.access.grants[i].map (Grant.flagged d) := by
  have each := forEach_own (fun _ => True) (fun t (i : PlaceId) => t.access.grants[i]) (act := flagGrant d)
    (f := fun _ g => g.map (Grant.flagged d)) (fun _ _ _ => trivial)
    (fun u t _ => by rw [flagGrant_eq, putGrant_get, if_pos rfl]) (fun u v t _ other => by rw [flagGrant_eq, putGrant_get, if_neg other])
    (allUnits_nodup 8) (s := s) trivial i
  rwa [if_pos (mem_allUnits i)] at each

theorem flagOpened_eq (d : DoorId) (s : State) :
    flagOpened d s =
      { s with access :=
          { s.access with grants := Vector.ofFn fun i : PlaceId => s.access.grants[i].map (Grant.flagged d) } } := by
  have rest := forEach_keeps (fun t : State => { t with access := { t.access with grants := s.access.grants } }) (allUnits 8)
    (flagGrant d) (fun i t => by rw [flagGrant_eq]; rfl) s
  have place := flagOpened_grant d s
  unfold flagOpened
  generalize forEach (allUnits 8) (flagGrant d) s = t at rest place
  have grants : t.access.grants = Vector.ofFn fun i : PlaceId => s.access.grants[i].map (Grant.flagged d) := by
    refine Vector.ext fun k bound => ?_
    rw [Vector.getElem_ofFn]
    exact place ⟨k, bound⟩
  rw [← grants]
  exact congrArg (fun u : State => { u with access := { u.access with grants := t.access.grants } }) rest

theorem doorReleased_iff (s : State) (d : DoorId) :
    doorReleased s d = true ↔ ∃ (i : PlaceId) (g : Grant), s.access.grants[i] = some g ∧ (g.releasing && g.hasDoor d) = true := by
  unfold doorReleased
  rw [List.any_eq_true]
  constructor
  · rintro ⟨i, -, holds⟩
    cases held : s.access.grants[i] with
    | none =>
      rw [held] at holds
      exact absurd holds Bool.false_ne_true
    | some g =>
      rw [held] at holds
      exact ⟨i, g, held, holds⟩
  · rintro ⟨i, g, held, holds⟩
    refine ⟨i, mem_allUnits i, ?_⟩
    rw [held]
    exact holds

theorem flagOpened_of_unreleased {d : DoorId} {s : State} (unreleased : doorReleased s d = false) : flagOpened d s = s := by
  refine forEach_of_fixed (fun i => ?_) (allUnits 8)
  unfold flagGrant
  cases held : s.access.grants[i] with
  | none => rfl
  | some g =>
    refine if_neg fun holds => ?_
    exact Bool.eq_false_iff.1 unreleased ((doorReleased_iff s d).2 ⟨i, g, held, holds⟩)

theorem doorReleased_flagOpened {d : DoorId} {s : State} (released : doorReleased s d = true) :
    doorReleased (flagOpened d s) d = true := by
  obtain ⟨i, g, held, holds⟩ := (doorReleased_iff s d).1 released
  refine (doorReleased_iff _ d).2 ⟨i, g.flagged d, ?_, holds⟩
  rw [flagOpened_eq]
  show (Vector.ofFn fun i : PlaceId => s.access.grants[i].map (Grant.flagged d))[i.val] = _
  rw [Vector.getElem_ofFn]
  show s.access.grants[i].map (Grant.flagged d) = _
  rw [held]
  rfl

theorem doorZone_zoneDoor (z : GroupId) : doorZone (zoneDoor z) = some z := by
  unfold doorZone zoneDoor
  rw [dif_pos z.isLt]

theorem endClosedGrant_of_waiting {d : DoorId} {i : PlaceId} {s : State} {g : Grant} (held : s.access.grants[i] = some g)
    (waits : g.state = .overdue ∨ g.state = .awaitingClose) (holds : g.hasDoor d = true)
    (closed : ∀ k : DoorId, g.hasDoor k = true → s.pins.doors[k] = false) : endClosedGrant d i s = endGrant i g s := by
  unfold endClosedGrant
  rw [held]
  exact if_pos ⟨waits, holds, (openDoors_eq_zero_iff s g).2 closed⟩

theorem endClosedGrant_of_other {d : DoorId} {i : PlaceId} {s : State}
    (other : ∀ g : Grant, s.access.grants[i] = some g →
      (g.state ≠ .overdue ∧ g.state ≠ .awaitingClose) ∨ g.hasDoor d = false
        ∨ ∃ k : DoorId, g.hasDoor k = true ∧ s.pins.doors[k] = true) : endClosedGrant d i s = s := by
  unfold endClosedGrant
  cases held : s.access.grants[i] with
  | none => rfl
  | some g =>
    refine if_neg ?_
    rintro ⟨waits, holds, none⟩
    obtain ⟨notOverdue, notAwaiting⟩ | notHolding | ⟨k, holdsK, open_⟩ := other g held
    · exact waits.elim notOverdue notAwaiting
    · exact Bool.eq_false_iff.1 notHolding holds
    · rw [(openDoors_eq_zero_iff s g).1 none k holdsK] at open_
      exact Bool.false_ne_true open_

section
variable {s : State} {d : DoorId}

theorem doorChange_of_opening (closed : s.pins.doors[d] = false) :
    doorChange d true s = judgeOpening d (flagOpened d { s with pins := { s.pins with doors := s.pins.doors.set d true } }) := by
  unfold doorChange
  rw [if_neg (by rw [closed]; decide)]
  exact if_pos rfl

theorem doorChange_of_closing (open_ : s.pins.doors[d] = true) :
    doorChange d false s = endClosedGrants d { s with pins := { s.pins with doors := s.pins.doors.set d false } } := by
  unfold doorChange
  rw [if_neg (by rw [open_]; decide)]
  exact if_neg Bool.false_ne_true

theorem judgeOpening_of_unreleased (unreleased : doorReleased s d = false) :
    judgeOpening d (flagOpened d s) =
      match doorZone d with
      | some z => zoneIntrusion z 0 s
      | none => cabinetIntrusion 0 1 s := by
  rw [flagOpened_of_unreleased unreleased]
  unfold judgeOpening
  rw [unreleased]
  rfl

theorem judgeOpening_of_released (released : doorReleased s d = true) : judgeOpening d (flagOpened d s) = flagOpened d s := by
  unfold judgeOpening
  exact if_pos (doorReleased_flagOpened released)

end

section
variable {s told : State}

/-- A cabinet intrusion's own latch, cause and INTRUSION, ahead of the zones' (R147). -/
theorem cabinetTold_keepsBut (how count : Half) (s : State) :
    keepsBut [.access, .stops, .events] s
      (raiseEvent .intrusion 4 how count
        { s with access := { s.access with cabinetLatch := true }, stops := { s.stops with cabinetIntrusion := true } }) := by
  intro part other
  cases part <;> simp [Part.same] at other ⊢

/-- The zones' intrusions of a cabinet intrusion abort the jobs of the zones whose latch was clear. -/
theorem intrudeZones_aborts_of_told (same : keepsBut [.access, .stops, .events] s told)
    (latches : told.access.zoneLatch = s.access.zoneLatch) (powered : fillsPowered s) {how : Half} :
    Aborts (fun r => !s.access.zoneLatch[s.robots[r].zone]) s (forEach (allUnits 4) (fun z u => zoneIntrusion z how u) told) := by
  have robots : told.robots = s.robots := same .robots (by decide)
  have first : Aborts (fun _ => false) s told :=
    aborts_none_of_frame (same .doses (by decide)) (same .counters (by decide)) (same .track (by decide)) robots
      (same .bus (by decide))
  refine (first.before (intrudeZones_aborts (allUnits_nodup 4)
    (jobsProduce_of_robots robots (jobsProduce_of_fillsPowered powered)))).congr fun r => ?_
  rw [decide_eq_true (mem_allUnits _), Bool.true_and, latches]
  exact congrArg (fun v : Vector Robot 8 => !s.access.zoneLatch[v[r].zone]) robots

end

/-- Settles O42: the opening by the door's release, the closing grant by grant, and the intrusions by their latches. -/
theorem doorsOpenReleasedOrIntruded : Obligations.DoorsOpenReleasedOrIntruded := by
  refine ⟨fun s d => ⟨fun closed => ?_, fun open_ => ?_⟩, fun d i s => ⟨fun g held => endClosedGrant_of_waiting held,
    endClosedGrant_of_other⟩, fun how zoneHow s => ⟨fun latched => ?_, fun clear => ?_⟩,
    fun z how s => ⟨zoneIntrusion_of_latched, fun clear powered => ?_⟩⟩
  · intro read
    have rule (t : State) (is : judgeOpening d (flagOpened d read) = t) : exec (.doorChange d true) s = .next (settle t) :=
      congrArg (fun t => Host.Outcome.next (settle t)) ((doorChange_of_opening closed).trans is)
    refine ⟨fun unreleased z same => rule _ ?_, fun unreleased same => rule _ ?_, fun released => rule _ ?_⟩
    · rw [judgeOpening_of_unreleased (s := read) unreleased, same, doorZone_zoneDoor]
    · rw [judgeOpening_of_unreleased (s := read) unreleased, same]
      rfl
    · rw [judgeOpening_of_released (s := read) released, flagOpened_eq]
      rfl
  · intro read
    have rule : exec (.doorChange d false) s = .next (settle (forEach (allUnits 8) (endClosedGrant d) read)) :=
      congrArg (fun t => Host.Outcome.next (settle t)) (doorChange_of_closing open_)
    refine ⟨rule, fun none => ?_⟩
    rw [rule, forEach_of_fixed (s := read) fun i => endClosedGrant_of_other fun g held => ?_]
    rw [show read.access.grants[i] = Option.none from none i] at held
    cases held
  · unfold cabinetIntrusion
    exact if_pos latched
  · intro told intruded
    have same : keepsBut [.access, .stops, .events] s told := cabinetTold_keepsBut how _ s
    have access : told.access = { s.access with cabinetLatch := true } := by
      show (raiseEvent ..).access = _
      simp only [raiseEvent_frame]
    refine ⟨?_, (intrudeZones_access told).trans (by rw [access]), fun powered => ?_,
      keepsBut_trans (keepsBut_mono same (by decide)) (keepsBut_mono (intrudeZones_keepsBut _ told) (by decide))⟩
    · unfold cabinetIntrusion
      exact if_neg (Bool.eq_false_iff.1 clear)
    · have all := intrudeZones_aborts_of_told same (by rw [access]) powered (how := zoneHow)
      refine ⟨all.left, fun r => ?_⟩
      rw [all.jobs r]
      cases s.access.zoneLatch[s.robots[r].zone] <;> rfl
  · have produce := jobsProduce_of_fillsPowered powered
    refine ⟨_, rfl, zoneIntrusion_access z how s, ?_, fun k other => ?_, (zoneIntrusion_aborts clear produce how).left,
      fun r elsewhere => ?_, fun r inZone => ?_, fun room => ?_, zoneIntrusion_keepsBut z how s⟩
    · unfold coil
      rw [zoneIntrusion_groups clear, set_get, if_pos rfl]
      exact openedGroup_coil _ _
    · rw [zoneIntrusion_groups clear, set_get, if_neg other]
    · rw [zoneIntrusion_robot clear produce, if_neg elsewhere]
    · rw [zoneIntrusion_robot clear produce, if_pos inZone]
      rfl
    · rw [zoneIntrusion_event clear how room, intrudedJobs_eq produce]

end Sys2Proof.Machine
end


section
/-! The drains and the isolation of grants (O43), and the ends of grants (O44). -/

set_option Elab.async false

namespace Sys2Proof.Machine

/-! ## SERVICE (R67) -/

/-- A robot's record as its entry to SERVICE leaves it. -/
def Robot.served (jog : Bool) (rb : Robot) : Robot :=
  if rb.mode = .manual ∨ rb.mode = .production then
    { rb with mode := .service, resume := decide (rb.mode = .production), armed := false, jog := jog }
  else rb

theorem enterService_robots (jog : Bool) (r : RobotId) (s : State) :
    (enterService jog r s).robots = s.robots.set r (s.robots[r].served jog) := by
  unfold enterService Robot.served
  dsimp only
  split
  · rw [← beq_eq_decide]
    split <;> simp only [raiseCommand_frame, changeRobot_robots]
  · exact (Vector.set_getElem_self _).symm

/-- A robot's record as its service's end leaves it. -/
def Robot.leftService (rb : Robot) : Robot :=
  if rb.mode = .service then
    { rb with mode := if rb.resume then .production else .manual, armed := false, resume := false, jog := false }
  else rb

theorem leaveService_robots (r : RobotId) (s : State) : (leaveService r s).robots = s.robots.set r s.robots[r].leftService := by
  unfold leaveService Robot.leftService
  dsimp only
  split
  · split <;> simp only [raiseCommand_frame, changeRobot_robots]
  · exact (Vector.set_getElem_self _).symm

/-- Robots of some zones acted on in turn, each on its own record. -/
theorem forEach_zones_robot {act : RobotId → State → State} {c : GroupId → Bool} {f : Robot → Robot}
    (acts : ∀ (r : RobotId) (t : State), (act r t).robots = t.robots.set r (if c t.robots[r].zone = true then f t.robots[r] else t.robots[r]))
    (s : State) (r : RobotId) :
    (forEach (allUnits 8) act s).robots[r] = if c s.robots[r].zone = true then f s.robots[r] else s.robots[r] := by
  have each := forEach_own (fun _ => True) (fun t (r : RobotId) => t.robots[r]) (act := act)
    (f := fun _ rb => if c rb.zone = true then f rb else rb) (fun _ _ _ => trivial)
    (fun u t _ => by rw [acts, set_get, if_pos rfl]) (fun u v t _ other => by rw [acts, set_get, if_neg other])
    (allUnits_nodup 8) (s := s) trivial r
  rwa [if_pos (mem_allUnits r)] at each

/-- One robot as the drain of a grant ends. -/
def serveOne (g : Grant) (latch : Vector Bool 4) (r : RobotId) (t : State) : State :=
  if g.covers t.robots[r].zone && !latch[t.robots[r].zone] then enterService (g.kind == .jog) r t else t

theorem serveOne_robots (g : Grant) (latch : Vector Bool 4) (r : RobotId) (t : State) :
    (serveOne g latch r t).robots =
      t.robots.set r
        (if (g.covers t.robots[r].zone && !latch[t.robots[r].zone]) = true then t.robots[r].served (g.kind == .jog) else t.robots[r]) := by
  unfold serveOne
  split
  · exact enterService_robots _ r t
  · exact (Vector.set_getElem_self _).symm

theorem serveRobots_eq (g : Grant) (s : State) : serveRobots g s = forEach (allUnits 8) (serveOne g s.access.zoneLatch) s := by
  have same (us : List RobotId) (t : State) (access : t.access = s.access) :
      forEach us (fun r t =>
        if g.covers t.robots[r].zone && !t.access.zoneLatch[t.robots[r].zone] then enterService (g.kind == .jog) r t else t) t =
        forEach us (serveOne g s.access.zoneLatch) t := by
    induction us generalizing t with
    | nil => rfl
    | cons u us ih =>
      have first : (if g.covers t.robots[u].zone && !t.access.zoneLatch[t.robots[u].zone] then enterService (g.kind == .jog) u t else t) =
          serveOne g s.access.zoneLatch u t := by
        unfold serveOne
        rw [access]
      rw [forEach_cons, forEach_cons, first]
      refine ih _ ?_
      unfold serveOne
      split
      · simp only [enterService_frame, access]
      · exact access
  exact same (allUnits 8) s rfl

theorem serveRobots_robot (g : Grant) (s : State) (r : RobotId) :
    (serveRobots g s).robots[r] =
      if (g.covers s.robots[r].zone && !s.access.zoneLatch[s.robots[r].zone]) = true then s.robots[r].served (g.kind == .jog)
      else s.robots[r] := by
  rw [serveRobots_eq]
  exact forEach_zones_robot (c := fun z => g.covers z && !s.access.zoneLatch[z]) (serveOne_robots g s.access.zoneLatch) s r

/-! ## The end of a drain (R133, R135, R145) -/

theorem halves_of_badge (badge : Long) :
    lowerHalf badge.toNat = badge.setWidth 16 ∧ upperHalf badge.toNat = (badge >>> 16).setWidth 16 := by
  refine ⟨BitVec.eq_of_toNat_eq ?_, BitVec.eq_of_toNat_eq ?_⟩
  · simp [lowerHalf]
  · simp [upperHalf, Nat.shiftRight_eq_div_pow]

theorem enterGrant_eq (i : PlaceId) (g : Grant) (st : GrantState) (s : State) :
    enterGrant i g st s =
      raiseEvent .grantState (i.val + 8 * st.code) (g.badge.setWidth 16) ((g.badge >>> 16).setWidth 16)
        { s with access := { s.access with grants := s.access.grants.set i (some { g with state := st }) } } := by
  unfold enterGrant raiseGrantState
  rw [(halves_of_badge g.badge).1, (halves_of_badge g.badge).2]
  rfl

theorem enterGrant_access (i : PlaceId) (g : Grant) (st : GrantState) (s : State) :
    (enterGrant i g st s).access = { s.access with grants := s.access.grants.set i (some { g with state := st }) } := by
  rw [enterGrant_eq]
  simp

theorem mem_coveredZones {g : Grant} {z : GroupId} : z ∈ coveredZones g ↔ g.covers z = true := by
  unfold coveredZones
  rw [List.mem_filter, and_iff_right (mem_allUnits z)]

/-- Groups opened in turn: those of the list have their coils de-energised, the others keep their records. -/
theorem forEach_openGroup_group {zs : List GroupId} (once : zs.Nodup) (s : State) (z : GroupId) :
    (forEach zs openGroup s).groups[z] = if z ∈ zs then openedGroup s.pins.mirror[z] s.groups[z] else s.groups[z] :=
  forEach_own (fun t => t.pins = s.pins) (fun t (z : GroupId) => t.groups[z]) (act := openGroup)
    (f := fun z gr => openedGroup s.pins.mirror[z] gr) (fun u t same => (openGroup_frame u t).1.trans same)
    (fun u t same => by rw [openGroup_groups, set_get, if_pos rfl, same]) (fun u v t _ other => by rw [openGroup_groups, set_get, if_neg other])
    once (s := s) rfl z

/-- Groups opened in turn: a robot of a zone of the list may lose its job and its armed flag, and no other changes. -/
theorem forEach_openGroup_robot (zs : List GroupId) (s : State) (r : RobotId) :
    (forEach zs openGroup s).robots[r] = s.robots[r]
      ∨ s.robots[r].zone ∈ zs ∧ (forEach zs openGroup s).robots[r] = { s.robots[r] with job := none, armed := false } := by
  induction zs generalizing s with
  | nil => exact .inl rfl
  | cons z zs ih =>
    rw [forEach_cons]
    have first := openGroup_robot z s r
    by_cases left : s.robots[r].zone = z ∧ s.groups[z].state = .closed
    · rw [if_pos left] at first
      refine .inr ⟨left.1 ▸ List.mem_cons_self, ?_⟩
      obtain same | ⟨-, again⟩ := ih (openGroup z s)
      · rw [same, first]
      · rw [again, first]
    · rw [if_neg left] at first
      refine (ih (openGroup z s)).imp (fun same => same.trans first) fun ⟨listed, again⟩ => ⟨?_, ?_⟩
      · rw [first] at listed
        exact List.mem_cons_of_mem z listed
      · rw [again, first]

theorem forEach_openGroup_access (zs : List GroupId) (s : State) : (forEach zs openGroup s).access = s.access :=
  forEach_keeps State.access zs openGroup (fun z t => (openGroup_keepsBut z t) .access (by decide)) s

theorem endDrain_of_jog {i : PlaceId} {g : Grant} (jog : g.kind = .jog) (s : State) :
    endDrain i g s = enterGrant i g .isOpen (serveRobots g s) := by
  unfold endDrain
  exact if_pos jog

theorem endDrain_of_entry {i : PlaceId} {g : Grant} (entry : g.kind ≠ .jog) (s : State) :
    endDrain i g s = forEach (coveredZones g) openGroup (enterGrant i g .isolating (serveRobots g s)) := by
  unfold endDrain
  exact if_neg entry

theorem endDrain_access (i : PlaceId) (g : Grant) (s : State) :
    (endDrain i g s).access =
      { s.access with grants :=
          s.access.grants.set i (some { g with state := if g.kind = .jog then .isOpen else .isolating }) } := by
  have served : (serveRobots g s).access = s.access := by simp only [serveRobots_frame]
  by_cases jog : g.kind = .jog
  · rw [endDrain_of_jog jog, enterGrant_access, served, if_pos jog]
  · rw [endDrain_of_entry jog, forEach_openGroup_access, enterGrant_access, served, if_neg jog]

/-- At the end of a drain a robot is as its service, if it enters one, leaves it; in a covered zone it may be disarmed. -/
theorem endDrain_robot {i : PlaceId} {g : Grant} {s : State} (empty : drained s g = true) (r : RobotId) :
    (endDrain i g s).robots[r] = (serveRobots g s).robots[r]
      ∨ g.covers s.robots[r].zone = true ∧ (endDrain i g s).robots[r] = { (serveRobots g s).robots[r] with armed := false } := by
  have served := serveRobots_judged g s
  have entered (st : GrantState) : (enterGrant i g st (serveRobots g s)).robots = (serveRobots g s).robots := by
    simp only [enterGrant_frame]
  by_cases jog : g.kind = .jog
  · rw [endDrain_of_jog jog, entered]
    exact .inl rfl
  · rw [endDrain_of_entry jog]
    obtain same | ⟨listed, again⟩ := forEach_openGroup_robot (coveredZones g) (enterGrant i g .isolating (serveRobots g s)) r
    · exact .inl (by rw [same, entered])
    · rw [entered, mem_coveredZones, served.zones] at listed
      have idle : (serveRobots g s).robots[r].job = none := (served.jobs r).trans ((drained_iff s g).1 empty _ listed r rfl)
      refine .inr ⟨listed, again.trans ?_⟩
      rw [entered, ← idle]

theorem endDrain_groups_of_jog {i : PlaceId} {g : Grant} (jog : g.kind = .jog) (s : State) : (endDrain i g s).groups = s.groups := by
  rw [endDrain_of_jog jog]
  simp only [enterGrant_frame, serveRobots_frame]

theorem endDrain_group {i : PlaceId} {g : Grant} (entry : g.kind ≠ .jog) (s : State) (z : GroupId) :
    (endDrain i g s).groups[z] = if g.covers z = true then openedGroup s.pins.mirror[z] s.groups[z] else s.groups[z] := by
  have once : (coveredZones g).Nodup := (allUnits_nodup 4).filter _
  rw [endDrain_of_entry entry, forEach_openGroup_group once]
  simp only [mem_coveredZones, enterGrant_frame, serveRobots_frame]

section
variable {s : State} {i : PlaceId} {g : Grant} (held : s.access.grants[i] = some g)
include held

theorem judgeDrain_of_drained (draining : g.state = .draining) (empty : drained s g = true) : judgeDrain i s = endDrain i g s := by
  unfold judgeDrain
  rw [held]
  exact if_pos ⟨draining, empty⟩

theorem judgeDrain_of_busy (busy : drained s g = false) : judgeDrain i s = s := by
  unfold judgeDrain
  rw [held]
  exact if_neg fun due => Bool.eq_false_iff.1 busy due.2

end

/-! ## The limit of a drain (R134) -/

/-- One robot as the limit of a grant's drain aborts its job. -/
def drainOne (g : Grant) (r : RobotId) (t : State) : State := if g.covers t.robots[r].zone then abortJob r t else t

theorem drainOne_aborts (g : Grant) (r : RobotId) (t : State) :
    Aborts (fun q => decide (q = r) && g.covers t.robots[q].zone) t (drainOne g r t) := by
  unfold drainOne
  split
  · next covered =>
    refine (abortJob_aborts r t).congr fun q => ?_
    by_cases same : q = r
    · rw [same, covered, Bool.and_true]
    · rw [decide_eq_false same, Bool.false_and]
  · next uncovered =>
    refine (aborts_none_of_frame rfl rfl rfl rfl rfl : Aborts _ t t).congr fun q => ?_
    by_cases same : q = r
    · rw [same, Bool.eq_false_iff.2 uncovered, Bool.and_false]
    · rw [decide_eq_false same, Bool.false_and]

theorem drainOne_robots (g : Grant) (r : RobotId) (t : State) :
    (drainOne g r t).robots =
      t.robots.set r (if g.covers t.robots[r].zone = true then { t.robots[r] with job := none } else t.robots[r]) := by
  unfold drainOne
  split
  · exact failJob_robots r .aborted .aborted t
  · exact (Vector.set_getElem_self _).symm

theorem drainOne_keepsBut (g : Grant) (r : RobotId) (t : State) :
    keepsBut [.track, .robots, .doses, .bus, .counters, .events] t (drainOne g r t) := by
  unfold drainOne
  split
  · exact failJob_keepsBut r .aborted .aborted t
  · exact keepsBut_refl _ t

section
variable (g : Grant) (s : State)

theorem drainAll_aborts : Aborts (fun r => g.covers s.robots[r].zone) s (forEach (allUnits 8) (drainOne g) s) := by
  refine (forEach_aborts (P := fun _ => True) (fun _ _ _ => trivial) (fun r t _ => drainOne_aborts g r t) (allUnits 8) trivial).congr
    fun r => ?_
  rw [decide_eq_true (mem_allUnits r), Bool.true_and]

theorem drainAll_robot (r : RobotId) :
    (forEach (allUnits 8) (drainOne g) s).robots[r] =
      { s.robots[r] with job := if g.covers s.robots[r].zone = true then none else s.robots[r].job } := by
  rw [forEach_zones_robot (f := fun rb => { rb with job := none }) (drainOne_robots g)]
  cases g.covers s.robots[r].zone <;> rfl

theorem drainAll_keepsBut :
    keepsBut [.track, .robots, .doses, .bus, .counters, .events] s (forEach (allUnits 8) (drainOne g) s) :=
  forEach_invariant (keepsBut _ s) (allUnits 8) _ (fun r t kept => keepsBut_trans kept (drainOne_keepsBut g r t)) s (keepsBut_refl _ s)

theorem drainAll_drained : drained (forEach (allUnits 8) (drainOne g) s) g = true := by
  refine (drained_iff _ g).2 fun z covered r zone => ?_
  rw [drainAll_robot] at zone ⊢
  dsimp only at zone ⊢
  rw [zone, if_pos covered]

end

theorem drained_of_robots {s t : State} {g h : Grant} (robots : t.robots = s.robots) (zones : h.zones = g.zones) :
    drained t h = drained s g := by
  unfold drained Grant.covers
  rw [robots, zones]

/-- The drain timer at its limit with a job still held. -/
theorem shareDrain_of_due {s : State} {i : PlaceId} {g : Grant} (held : s.access.grants[i] = some g) (draining : g.state = .draining)
    (busy : drained s g = false) (last : g.drainTimer = 9999) :
    shareDrain i s =
      countClosed s (settle
        (forEach (allUnits 8) (drainOne g) (s.putGrant i (some { g with drainTimer := 10000 })))) := by
  have ticked : s.putGrant i (s.access.grants[i].map Grant.tick) = s.putGrant i (some { g with drainTimer := 10000 }) := by
    rw [held]
    unfold Grant.tick
    rw [Option.map_some, if_pos draining, last]
  have place : (s.putGrant i (some { g with drainTimer := 10000 })).access.grants[i] = some { g with drainTimer := 10000 } := by
    rw [putGrant_get, if_pos rfl]
  have stillBusy : drained (s.putGrant i (some { g with drainTimer := 10000 })) { g with drainTimer := 10000 } = false :=
    (drained_of_robots rfl rfl).trans busy
  unfold shareDrain
  rw [shareOfTick_of_due]
  · rw [ticked]
    unfold drainExpiry
    rw [place]
    dsimp only
    rw [if_pos ⟨draining, le_refl _, by rw [stillBusy]; rfl⟩]
    rfl
  · rw [ticked, place]
    dsimp only
    rw [stillBusy, draining]
    rfl

/-! ## Isolation (R135, R136) -/

theorem isolated_iff (s : State) (z : GroupId) :
    isolated s z = true ↔ s.groups[z].state = .isOpen ∨ s.groups[z].state = .faultPullin ∧ s.pins.mirror[z] = false := by
  unfold isolated
  simp

section
variable {s : State} {i : PlaceId} {g : Grant} (held : s.access.grants[i] = some g) (entry : g.kind ≠ .jog)
include held entry

theorem judgeIsolation_of_sound (sound : ∀ z : GroupId, g.covers z = true → s.groups[z].state ≠ .faultWeld) :
    judgeIsolation i s =
      if g.state = .isolating ∧ ∀ z : GroupId, g.covers z = true →
          s.groups[z].state = .isOpen ∨ s.groups[z].state = .faultPullin ∧ s.pins.mirror[z] = false then
        enterGrant i g .isOpen s
      else s := by
  have unwelded : weldedGroup s g = none := by
    refine List.find?_eq_none.2 fun z listed => ?_
    rw [beq_iff_eq]
    exact sound z (mem_coveredZones.1 listed)
  have all : (coveredZones g).all (isolated s) = true ↔ ∀ z : GroupId, g.covers z = true →
      s.groups[z].state = .isOpen ∨ s.groups[z].state = .faultPullin ∧ s.pins.mirror[z] = false := by
    rw [List.all_eq_true]
    exact forall_congr' fun z => by rw [mem_coveredZones, isolated_iff]
  unfold judgeIsolation
  rw [held]
  dsimp only
  rw [unwelded]
  dsimp only
  simp only [all]
  by_cases isolating : g.state = .isolating
  · rw [if_pos ⟨entry, .inl isolating⟩]
  · rw [if_neg fun both : g.state = .isolating ∧ _ => isolating both.1, ite_self]

theorem judgeIsolation_of_weld {z : GroupId} (judged : g.state = .isolating ∨ g.state = .isOpen ∨ g.state = .overdue)
    (covered : g.covers z = true) (weld : s.groups[z].state = .faultWeld)
    (lowest : ∀ y : GroupId, y < z → g.covers y = true → s.groups[y].state ≠ .faultWeld) :
    judgeIsolation i s =
      enterGrant i g .isolationFailed (raiseEvent .isolationFailed i.val (detail z.val) g.number s) := by
  have welded : weldedGroup s g = some z := by
    unfold weldedGroup coveredZones
    rw [List.find?_filter]
    refine find_allUnits_eq_some (decide_eq_true ⟨covered, beq_iff_eq.2 weld⟩) fun y before => ?_
    exact decide_eq_false fun both => lowest y before both.1 (beq_iff_eq.1 both.2)
  unfold judgeIsolation
  rw [held]
  dsimp only
  rw [if_pos ⟨entry, judged.imp_right (releasing_iff g).2⟩, welded]

end

/-- Settles O43: the drain by the jobs left, its limit, its end part by part, and the isolation group by group. -/
theorem drainsAndIsolation : Obligations.DrainsAndIsolation := by
  refine ⟨fun s i g held draining => ⟨fun empty => ?_, fun busy => ?_, fun busy last => ?_, fun empty => ?_⟩,
    fun s i g held entry => ⟨rfl, fun sound => ?_, fun z judged covered weld lowest => ?_, fun st u => enterGrant_eq i g st u⟩⟩
  · have ends := judgeDrain_of_drained held draining empty
    exact ⟨ends, congrArg (fun t => Host.Outcome.next (settle t)) ends⟩
  · have waits := judgeDrain_of_busy held busy
    exact ⟨waits, congrArg (fun t => Host.Outcome.next (settle t)) waits⟩
  · have kept := drainAll_keepsBut g (s.putGrant i (some { g with drainTimer := 10000 }))
    have aborted := drainAll_aborts g (s.putGrant i (some { g with drainTimer := 10000 }))
    refine ⟨forEach (allUnits 8) (drainOne g) (s.putGrant i (some { g with drainTimer := 10000 })), drainAll_robot g _,
      kept .access (by decide), ?_, ?_, ?_, congrArg Host.Outcome.next (shareDrain_of_due held draining busy last)⟩
    · refine keepsBut_trans (t := s.putGrant i (some { g with drainTimer := 10000 })) ?_ (keepsBut_mono kept (by decide))
      intro part other
      cases part <;> simp [Part.same] at other ⊢
    · exact jobsAborted_of_same aborted.left ⟨rfl, rfl, rfl, rfl⟩ ⟨rfl, rfl, rfl, rfl⟩
    · exact (drained_of_robots rfl rfl).trans (drainAll_drained g _)
  · have judged := endDrain_judged (i := i) empty
    refine ⟨_, rfl, endDrain_access i g s, fun r => ⟨fun covered clear mode => ?_, fun uncovered => ?_, judged.jobs r⟩,
      fun jog => endDrain_groups_of_jog jog s, fun entry z => ⟨fun covered => ?_, fun uncovered => ?_⟩, judged.frame⟩
    · have served : (serveRobots g s).robots[r] =
          { s.robots[r] with
            mode := .service, resume := decide (s.robots[r].mode = .production), armed := false, jog := decide (g.kind = .jog) } := by
        rw [serveRobots_robot, covered, clear, Bool.not_false, Bool.and_true, if_pos rfl, beq_eq_decide]
        unfold Robot.served
        rw [if_pos mode]
      obtain same | ⟨-, again⟩ := endDrain_robot (i := i) empty r
      · rw [same, served]
      · rw [again, served]
    · obtain same | ⟨covered, -⟩ := endDrain_robot (i := i) empty r
      · rw [same, serveRobots_robot, uncovered, Bool.false_and, if_neg Bool.false_ne_true]
      · rw [covered] at uncovered
        cases uncovered
    · unfold coil
      rw [endDrain_group entry, if_pos covered]
      exact openedGroup_coil _ _
    · rw [endDrain_group entry, uncovered, if_neg Bool.false_ne_true]
  · exact congrArg (fun t => Host.Outcome.next (settle t)) (judgeIsolation_of_sound held entry sound)
  · exact congrArg (fun t => Host.Outcome.next (settle t)) (judgeIsolation_of_weld held entry judged covered weld lowest)

/-! ## The end of a grant (R130, R138, R143) -/

/-- One robot as a grant ends. -/
def endOne (g : Grant) (removed : State) (r : RobotId) (t : State) : State :=
  if g.covers t.robots[r].zone && !locked removed t.robots[r].zone then leaveService r t else t

theorem endOne_robots (g : Grant) (removed : State) (r : RobotId) (t : State) :
    (endOne g removed r t).robots =
      t.robots.set r
        (if (g.covers t.robots[r].zone && !locked removed t.robots[r].zone) = true then t.robots[r].leftService else t.robots[r]) := by
  unfold endOne
  split
  · exact leaveService_robots r t
  · exact (Vector.set_getElem_self _).symm

theorem endOne_keepsBut (g : Grant) (removed : State) (r : RobotId) (t : State) :
    keepsBut [.robots, .bus, .events] t (endOne g removed r t) := by
  intro part other
  unfold endOne
  split
  · cases part <;> simp [Part.same, leaveService_frame] at other ⊢
  · cases part <;> rfl

/-- The state in which GRANT_STATE says ENDED. -/
def State.released (s : State) (i : PlaceId) (g : Grant) : State :=
  forEach (allUnits 8) (endOne g (s.putGrant i none)) (s.putGrant i none)

theorem endGrant_eq (i : PlaceId) (g : Grant) (s : State) :
    endGrant i g s =
      raiseEvent .grantState (i.val + 48) (g.badge.setWidth 16) ((g.badge >>> 16).setWidth 16) (s.released i g) := by
  unfold endGrant raiseGrantState
  rw [(halves_of_badge g.badge).1, (halves_of_badge g.badge).2]
  rfl

theorem released_keepsBut (s : State) (i : PlaceId) (g : Grant) :
    keepsBut [.robots, .bus, .events] (s.putGrant i none) (s.released i g) :=
  forEach_invariant (keepsBut _ (s.putGrant i none)) (allUnits 8) _
    (fun r t kept => keepsBut_trans kept (endOne_keepsBut g _ r t)) _ (keepsBut_refl _ _)

theorem endGrant_robot (i : PlaceId) (g : Grant) (s : State) (r : RobotId) :
    (endGrant i g s).robots[r] =
      if (g.covers s.robots[r].zone && !locked (s.putGrant i none) s.robots[r].zone) = true then s.robots[r].leftService
      else s.robots[r] := by
  rw [endGrant_eq, raiseEvent_robots]
  exact forEach_zones_robot (c := fun z => g.covers z && !locked (s.putGrant i none) z) (endOne_robots g (s.putGrant i none))
    (s.putGrant i none) r

/-- A zone is free once no other grant covers it and its latch is clear. -/
theorem locked_putGrant_none (s : State) (i : PlaceId) (z : GroupId) :
    locked (s.putGrant i none) z = false ↔ s.access.zoneLatch[z] = false
      ∧ ∀ (k : PlaceId) (h : Grant), k ≠ i → s.access.grants[k] = some h → h.covers z = false := by
  rw [locked_eq_false_iff]
  refine and_congr_right fun _ => ⟨fun none k h other held => none k h ?_, fun none k h held => ?_⟩
  · rw [putGrant_get, if_neg other, held]
  · by_cases same : k = i
    · rw [putGrant_get, if_pos same] at held
      cases held
    · rw [putGrant_get, if_neg same] at held
      exact none k h same held

/-- An event that finds room afterwards stands last in the queue. -/
theorem raiseEvent_getLast {s : State} {kind : EventKind} {unit : Nat} {detail1 detail2 : Half}
    (room : (raiseEvent kind unit detail1 detail2 s).events.queue.length < 64) :
    (raiseEvent kind unit detail1 detail2 s).events.queue.getLast? = some (s.recordOf kind unit detail1 detail2) := by
  by_cases before : s.events.queue.length < 64
  · rw [raiseEvent_events_of_room before]
    exact List.getLast?_concat
  · have full : ¬s.events.queue.length < Config.queueCapacity := before
    have same : (raiseEvent kind unit detail1 detail2 s).events.queue = s.events.queue := by
      unfold raiseEvent
      dsimp only
      rw [if_neg full]
      split <;> rfl
    rw [same] at room
    exact absurd room before

section
variable {s : State} {i : PlaceId} {g : Grant} (held : s.access.grants[i] = some g) (last : s.time.ms = 999)
include held last

theorem shareExpiry_of_other (other : s.time.uptime + 1 ≠ g.expiry) : shareExpiry i s = settle s := by
  unfold shareExpiry expireGrant
  rw [if_pos last, held]
  exact congrArg settle (if_neg other)

theorem shareExpiry_of_due (due : s.time.uptime + 1 = g.expiry) : shareExpiry i s = settle (atExpiry i g s) := by
  unfold shareExpiry expireGrant
  rw [if_pos last, held]
  exact congrArg settle (if_pos due)

end

/-- Settles O44: the expiry by the grant's state, and the end robot by robot. -/
theorem grantsExpireAndEnd : Obligations.GrantsExpireAndEnd := by
  refine ⟨fun s i g held last => ⟨fun other => congrArg Host.Outcome.next (shareExpiry_of_other held last other), fun due => ?_⟩,
    fun s i g held => ?_⟩
  · have rule (t : State) (is : atExpiry i g s = t) : exec (.grantExpiry i) s = .next (settle t) :=
      congrArg Host.Outcome.next ((shareExpiry_of_due held last due).trans (congrArg settle is))
    refine ⟨fun early => rule _ ?_, fun isOpen closed => rule _ ?_, fun isOpen open_ => rule _ ?_, fun goesOn => rule _ ?_⟩
    · unfold atExpiry
      obtain state | state := early <;> rw [state]
    · unfold atExpiry
      rw [isOpen]
      exact if_pos closed
    · unfold atExpiry
      rw [isOpen]
      exact if_neg open_
    · unfold atExpiry
      obtain state | state | state := goesOn <;> rw [state]
  · have released := released_keepsBut s i g
    have ended := raiseEvent_keepsBut .grantState (i.val + 48) (g.badge.setWidth 16) ((g.badge >>> 16).setWidth 16) (s.released i g)
    rw [← endGrant_eq] at ended
    refine ⟨_, rfl, ?_, fun r => ?_, fun room => ?_, ?_⟩
    · exact (ended .access (by decide)).trans (released .access (by decide))
    · intro z free
      have isFree : (g.covers z && !locked (s.putGrant i none) z) = true ↔ free := by
        rw [Bool.and_eq_true, Bool.not_eq_true', locked_putGrant_none]
      refine ⟨fun isSo serving => ?_, fun stays => ?_⟩
      · rw [endGrant_robot, if_pos (isFree.2 isSo)]
        exact if_pos serving
      · rw [endGrant_robot]
        obtain notFree | away := stays
        · exact if_neg fun is => notFree (isFree.1 is)
        · exact ite_eq_right_iff.2 fun _ => if_neg away
    · rw [endGrant_eq] at room ⊢
      exact ⟨_, raiseEvent_getLast room, rfl, rfl, rfl, rfl⟩
    · refine keepsBut_trans (t := s.putGrant i none) ?_
        (keepsBut_trans (keepsBut_mono released (by decide)) (keepsBut_mono ended (by decide)))
      intro part other
      cases part <;> simp [Part.same] at other ⊢

end Sys2Proof.Machine
end


section
/-! Bytes and checked frames, and requests that name no kind or have another size (O45). -/

set_option Elab.async false

namespace Sys2Proof.Machine

/-! ## Bytes (R176 to R178) -/

section
variable {l : Link} {b : Byte}

theorem takeByte_of_start (hunting : l.receiver = .hunt) (start : b = 0xB7) :
    l.takeByte b = { l with receiver := .length, gap := some 0 } := by
  unfold Link.takeByte
  rw [hunting]
  exact if_pos start

theorem takeByte_of_noise (hunting : l.receiver = .hunt) (noise : b ≠ 0xB7) : l.takeByte b = l := by
  unfold Link.takeByte
  rw [hunting]
  exact if_neg noise

theorem takeByte_of_length (waits : l.receiver = .length) (low : 3 ≤ b.toNat) (high : b.toNat ≤ 240) :
    l.takeByte b = { l with receiver := .body b [], gap := some 0 } := by
  unfold Link.takeByte
  rw [waits]
  exact if_pos (decide_eq_true ⟨low, high⟩)

theorem lenInRange_of_far (far : b.toNat < 3 ∨ 240 < b.toNat) : lenInRange b = false :=
  decide_eq_false fun both => by omega

theorem takeByte_of_far (waits : l.receiver = .length) (far : b.toNat < 3 ∨ 240 < b.toNat) :
    l.takeByte b = { l with receiver := .hunt, gap := none, lengthErrors := min (l.lengthErrors + 1) 65535 } := by
  unfold Link.takeByte
  rw [waits]
  exact if_neg (Bool.eq_false_iff.1 (lenInRange_of_far far))

section
variable {len : Byte} {bytes : List Byte} (inBody : l.receiver = .body len bytes)
include inBody

theorem takeByte_of_more (more : bytes.length + 1 < len.toNat + 2) :
    l.takeByte b = { l with receiver := .body len (bytes ++ [b]), gap := some 0 } := by
  unfold Link.takeByte
  rw [inBody]
  refine if_pos ?_
  rw [List.length_append]
  exact more

theorem takeByte_of_last (last : bytes.length + 1 = len.toNat + 2) : l.takeByte b = l.complete len (bytes ++ [b]) := by
  unfold Link.takeByte
  rw [inBody]
  refine if_neg ?_
  rw [List.length_append]
  exact Nat.not_lt.2 (Nat.le_of_eq last.symm)

end

/-- The check of a completed frame agrees with the two bytes received. -/
abbrev checkAgrees (len : Byte) (whole : List Byte) : Prop :=
  frameCheck (len :: whole.take len.toNat) = whole.getD len.toNat 0 ++ whole.getD (len.toNat + 1) 0

section
variable {len : Byte} {whole : List Byte}

theorem complete_of_mismatch (l : Link) (mismatch : ¬checkAgrees len whole) :
    l.complete len whole =
      { l with receiver := .hunt, gap := none, checkErrors := min (l.checkErrors + 1) 65535 } := by
  unfold Link.complete
  exact if_pos mismatch

theorem complete_of_room (agrees : checkAgrees len whole) (room : l.buffer.length < 2) :
    l.complete len whole =
      { l with
        receiver := .hunt, gap := none
        buffer := l.buffer ++
          [{ kind := whole.getD 0 0, tag := whole.getD 2 0 ++ whole.getD 1 0, fields := (whole.take len.toNat).drop 3 }] } := by
  unfold Link.complete Link.receive
  dsimp only
  rw [if_neg (fun other => other agrees), if_pos room]
  rfl

theorem complete_of_full (agrees : checkAgrees len whole) (full : 2 ≤ l.buffer.length) :
    l.complete len whole =
      { l with receiver := .hunt, gap := none, overrunErrors := min (l.overrunErrors + 1) 65535 } := by
  unfold Link.complete Link.receive
  dsimp only
  rw [if_neg (fun other => other agrees), if_neg (Nat.not_lt.2 full)]
  rfl

end

end

/-! ## Requests that no rule serves (R180 to R182, R187) -/

/-- One request of each kind. -/
def spellings : List Instr :=
  [.ident 0, .status 0, .restart 0, .trackConfig 0 0 0 0 0, .cameraConfig 0 0 0 0 0 0 0 0, .gateConfig 0 0 0 0 0 0 0 0,
    .fillerConfig 0 0 0 0, .trackRead 0 0, .trackTally 0 0, .trackFlush 0, .robotConfig 0 0 0 0, .recipeLoad 0 0 0 0 0 0 0 0 0 0 0,
    .robotMode 0 0 0, .robotRead 0 0, .groupClose 0 0, .groupOpen 0 0, .powerRead 0, .faultClearGate 0 0, .lineRelease 0,
    .grantRequest 0 0 0 0 0, .grantEnd 0 0, .grantExtend 0 0 0, .grantRead 0 0, .timeSet 0 0, .timeRead 0, .counterLoad 0 0 0,
    .counterLimits 0 0 0 0 0 0, .counterReset 0 0, .counterRead 0 0, .eventRead 0 0]

theorem requestRules_kinds : requestRules.map Prod.fst = (spellings.filterMap requestFrame).map Frame.kind := rfl

/-- Every kind that a rule owns is spelt by some request. -/
theorem spelt_of_owned {kind : Byte} {rule : Half → List Byte → State → State} (owned : requestRules.lookup kind = some rule) :
    ∃ (c : Instr) (y : Frame), requestFrame c = some y ∧ y.kind = kind := by
  have listed : kind ∈ requestRules.map Prod.fst := List.mem_map.2 ⟨(kind, rule), rule_mem_of_lookup owned, rfl⟩
  rw [requestRules_kinds] at listed
  obtain ⟨y, spelt, same⟩ := List.mem_map.1 listed
  obtain ⟨c, -, frame⟩ := List.mem_filterMap.1 spelt
  exact ⟨c, y, frame, same⟩

/-- A request's frame has its kind's size and a rule that owns it. -/
theorem owned_of_spelt {c : Instr} {y : Frame} (spelt : requestFrame c = some y) :
    requestSize y.kind = some y.fields.length ∧ ∃ rule, requestRules.lookup y.kind = some rule := by
  cases c <;> simp only [requestFrame, Option.some.injEq, reduceCtorEq] at spelt
  all_goals
    subst spelt
    exact ⟨rfl, _, rfl⟩

theorem serve_of_unknown {f : Frame} (unknown : ∀ (c : Instr) (y : Frame), requestFrame c = some y → y.kind ≠ f.kind) (s : State) :
    serve f s = refuse f.kind f.tag .unknownKind s := by
  unfold serve
  split
  · next owned =>
    obtain ⟨c, y, spelt, same⟩ := spelt_of_owned owned
    exact absurd same (unknown c y spelt)
  · rfl

theorem serve_of_other_size {f : Frame} {c : Instr} {y : Frame} (spelt : requestFrame c = some y) (same : y.kind = f.kind)
    (other : y.fields.length ≠ f.fields.length) (s : State) : serve f s = refuse f.kind f.tag .badLength s := by
  obtain ⟨sized, rule, owned⟩ := owned_of_spelt spelt
  rw [same] at sized owned
  rw [serve_of_size sized owned, if_neg (Ne.symm other)]

theorem faultClear_of_unknown {target number : Byte} (unknown : 5 < target.toNat) (tag : Half) (s : State) :
    faultClear tag target number s = refuse kindFaultClear tag .badField s := by
  have other (n : Byte) (known : n.toNat ≤ 5) : target ≠ n := by
    rintro rfl
    exact absurd known (Nat.not_le.2 unknown)
  unfold faultClear
  rw [if_neg (other 0 (by decide)), if_neg (other 1 (by decide)), if_neg (other 2 (by decide)), if_neg (other 3 (by decide)),
    if_neg (other 4 (by decide)), if_neg (other 5 (by decide))]

theorem requestTaken_of_waiting {s : State} {f : Frame} {rest : List Frame} (free : s.link.sending = none)
    (waits : s.link.buffer = f :: rest) : requestTaken s = serve f (s.mapLink fun l => { l with buffer := rest }) := by
  unfold requestTaken
  rw [free, waits]

/-- Settles O45: the receiver byte by byte, the check of a frame, and the requests that no rule serves. -/
theorem bytesBecomeCheckedFrames : Obligations.BytesBecomeCheckedFrames := by
  have takes {s : State} {b : Byte} {l : Link} (is : s.link.takeByte b = l) : exec (.rxdByteTaken b) s = .next { s with link := l } :=
    congrArg (fun l => Host.Outcome.next ({ s with link := l } : State)) is
  refine ⟨fun s b => ⟨fun hunting start => takes (takeByte_of_start hunting start), fun hunting noise => takes (takeByte_of_noise hunting noise),
    fun waits low high => takes (takeByte_of_length waits low high), fun waits far => ⟨takes (takeByte_of_far waits far), ?_⟩,
    fun len bytes inBody more => takes (takeByte_of_more inBody more)⟩, fun s => ⟨fun b len bytes inBody last => ?_, fun gap => ?_, rfl⟩,
    fun s => ⟨fun busy => ?_, fun f rest free waits => ?_⟩⟩
  · have abandons : lengthAbandon b s = s.mapLink Link.abandonLength := by
      unfold lengthAbandon
      rw [waits]
      exact if_neg (Bool.eq_false_iff.1 (lenInRange_of_far far))
    exact (congrArg Host.Outcome.next abandons).trans (takes (takeByte_of_far waits far)).symm
  · intro whole ended agrees
    have checks : frameChecked b s = { s with link := s.link.complete len whole } := by
      unfold frameChecked
      rw [inBody]
      exact if_pos (Nat.le_of_eq last.symm)
    have rule {l : Link} (is : s.link.complete len whole = l) : exec (.frameChecked b) s = .next { s with link := l } :=
      congrArg Host.Outcome.next (checks.trans (congrArg (fun l => ({ s with link := l } : State)) is))
    exact ⟨fun mismatch => rule (complete_of_mismatch s.link mismatch), fun agree room => rule (complete_of_room agree room),
      fun agree full => rule (complete_of_full agree full), (takes (takeByte_of_last inBody last)).trans (rule rfl).symm⟩
  · have ticked : s.link.tick = { s.link with gap := some 4 } := by
      unfold Link.tick
      rw [gap]
      rfl
    refine congrArg Host.Outcome.next ?_
    show shareGap s = _
    unfold shareGap
    rw [shareOfTick_of_due]
    · rw [ticked]
      rfl
    · rw [ticked]
      rfl
  · refine congrArg Host.Outcome.next ?_
    show requestTaken s = s
    unfold requestTaken
    split
    · next free waits =>
      rw [free, waits] at busy
      simp at busy
    · rfl
  · intro answered
    have rule {code : ReplyCode} (is : ∀ t : State, serve f t = refuse f.kind f.tag code t) : exec .requestTaken s = answered code :=
      congrArg Host.Outcome.next ((requestTaken_of_waiting free waits).trans (is _))
    refine ⟨fun unknown => rule (serve_of_unknown unknown), fun c y spelt same other => rule (serve_of_other_size spelt same other),
      fun target number clears fields far => rule fun t => ?_⟩
    have served := serve_eq_rule (f := f) (size := 2) (rule := fun t g => faultClear t (fieldByte g 0) (fieldByte g 1))
      (by rw [clears]; rfl) (by rw [clears]; rfl) (by rw [fields]; rfl)
    rw [served, fields, clears]
    exact faultClear_of_unknown far f.tag t

end Sys2Proof.Machine
end


section
/-! TRACK_CONFIG (O47): the staged values, the clamps and the limits that a change of layout brings. -/

set_option Elab.async false

namespace Sys2Proof.Machine

/-! ## Settings made active (R7, R8) -/

theorem forEach_of_fixed_mem {α : Type} {us : List α} {act : α → State → State} {s : State} (fixed : ∀ u ∈ us, act u s = s) :
    forEach us act s = s := by
  induction us with
  | nil => rfl
  | cons u us ih =>
    rw [forEach_cons, fixed u List.mem_cons_self]
    exact ih fun v listed => fixed v (List.mem_cons_of_mem u listed)

theorem forEach_mapGate_eq (f : Gate → Gate) (s : State) :
    forEach (allUnits 2) (fun g t => t.mapGate g f) s = { s with gates := Vector.ofFn fun g : GateId => f s.gates[g] } := by
  have rest := forEach_keeps (fun t : State => { t with gates := s.gates }) (allUnits 2) (fun g t => t.mapGate g f) (fun _ _ => rfl) s
  have gate := forEach_mapGate f s
  generalize forEach (allUnits 2) (fun g t => t.mapGate g f) s = t at rest gate
  have gates : t.gates = Vector.ofFn fun g : GateId => f s.gates[g] := by
    refine Vector.ext fun k bound => ?_
    rw [Vector.getElem_ofFn]
    exact gate ⟨k, bound⟩
  rw [← gates]
  exact congrArg (fun u : State => { u with gates := t.gates }) rest

theorem activateStaged_eq (s : State) :
    activateStaged s =
      { s with
        cameras := Vector.ofFn fun n : CameraId => s.cameras[n].activateStaged
        gates := Vector.ofFn fun g : GateId => s.gates[g].activateStaged } := by
  unfold activateStaged
  rw [forEach_mapCamera_eq, forEach_mapGate_eq]

theorem Camera.activateStaged_of_absent {c : Camera} (absent : c.staged = CameraStaged.absent) : c.activateStaged = c := by
  cases c
  obtain rfl : _ = CameraStaged.absent := absent
  rfl

theorem Gate.activateStaged_of_absent {g : Gate} (absent : g.staged = GateStaged.absent) : g.activateStaged = g := by
  cases g
  obtain rfl : _ = GateStaged.absent := absent
  rfl

theorem ofFn_getElem {α : Type} {n : Nat} (v : Vector α n) : (Vector.ofFn fun i : Fin n => v[i]) = v := by
  refine Vector.ext fun k bound => ?_
  rw [Vector.getElem_ofFn]
  rfl

theorem activateStaged_of_absent {s : State} (cameras : ∀ n : CameraId, s.cameras[n].staged = CameraStaged.absent)
    (gates : ∀ g : GateId, s.gates[g].staged = GateStaged.absent) : activateStaged s = s := by
  have sameCameras : (fun n : CameraId => s.cameras[n].activateStaged) = fun n => s.cameras[n] :=
    funext fun n => Camera.activateStaged_of_absent (cameras n)
  have sameGates : (fun g : GateId => s.gates[g].activateStaged) = fun g => s.gates[g] :=
    funext fun g => Gate.activateStaged_of_absent (gates g)
  rw [activateStaged_eq, sameCameras, sameGates, ofFn_getElem, ofFn_getElem]

/-! ## Clamps (R10) -/

/-- PHASE_CLAMPED of one phase, with its unit. -/
def tellClamp (len : Nat) (x : Nat × Nat) (s : State) : State := raiseEvent .phaseClamped x.1 (detail x.2) (detail (len - 1)) s

/-- PHASE_CLAMPED of every phase of a list that is at or above P. -/
def tellClamps (len : Nat) (xs : List (Nat × Nat)) (s : State) : State :=
  forEach (xs.filter fun x => decide (len ≤ x.2)) (tellClamp len) s

theorem tellClamps_append (len : Nat) (xs ys : List (Nat × Nat)) (s : State) :
    tellClamps len (xs ++ ys) s = tellClamps len ys (tellClamps len xs s) := by
  unfold tellClamps forEach
  rw [List.filter_append, List.foldl_append]

theorem tellClamps_single (len : Nat) (x : Nat × Nat) (s : State) :
    tellClamps len [x] s = if len ≤ x.2 then tellClamp len x s else s := by
  unfold tellClamps
  by_cases above : len ≤ x.2
  · simp only [List.filter_cons, List.filter_nil, decide_eq_true above, if_pos above]
    rfl
  · simp only [List.filter_cons, List.filter_nil, decide_eq_false above, if_neg above]
    rfl

theorem tellClamps_keepsBut (len : Nat) (xs : List (Nat × Nat)) (s : State) : keepsBut [.events] s (tellClamps len xs s) :=
  forEach_invariant (keepsBut _ s) _ _ (fun _ t kept => keepsBut_trans kept (raiseEvent_keepsBut _ _ _ _ t)) s (keepsBut_refl _ s)

/-- The events of the clamps depend on the queue and machine time alone. -/
theorem tellClamps_events_congr {s t : State} (events : t.events = s.events) (time : t.time = s.time) (len : Nat)
    (xs : List (Nat × Nat)) : (tellClamps len xs t).events = (tellClamps len xs s).events := by
  unfold tellClamps
  induction xs.filter fun x => decide (len ≤ x.2) generalizing s t with
  | nil => exact events
  | cons x xs ih =>
    rw [forEach_cons, forEach_cons]
    exact ih (raiseEvent_events_congr events time _ _ _ _) ((raiseEvent_time ..).trans (time.trans (raiseEvent_time ..).symm))

/-- A clamp of some unit's phase: it raises the phase's event and keeps machine time, P and the other units' phases. -/
structure Clamps {n : Nat} (clamp : Fin n → State → State) (phase : State → Fin n → Nat) (unit : Fin n → Nat) : Prop where
  events : ∀ u t, (clamp u t).events = (tellClamps t.pitch.length [(unit u, phase t u)] t).events
  time : ∀ u t, (clamp u t).time = t.time
  pitch : ∀ u t, (clamp u t).pitch = t.pitch
  others : ∀ u v t, v ≠ u → phase (clamp u t) v = phase t v

theorem Clamps.all_events {n : Nat} {clamp : Fin n → State → State} {phase : State → Fin n → Nat} {unit : Fin n → Nat}
    (clamps : Clamps clamp phase unit) {us : List (Fin n)} (once : us.Nodup) (t : State) :
    (forEach us clamp t).events = (tellClamps t.pitch.length (us.map fun u => (unit u, phase t u)) t).events := by
  induction us generalizing t with
  | nil => rfl
  | cons u us ih =>
    obtain ⟨fresh, rest⟩ := List.nodup_cons.1 once
    have same : (us.map fun v => (unit v, phase (clamp u t) v)) = us.map fun v => (unit v, phase t v) :=
      List.map_congr_left fun v listed => by rw [clamps.others u v t fun is => fresh (is ▸ listed)]
    have told := tellClamps_keepsBut t.pitch.length [(unit u, phase t u)] t
    rw [forEach_cons, ih rest, clamps.pitch, same, List.map_cons, ← List.singleton_append, tellClamps_append]
    exact tellClamps_events_congr (clamps.events u t) ((clamps.time u t).trans (told .time (by decide)).symm) _ _

theorem Clamps.all_time {n : Nat} {clamp : Fin n → State → State} {phase : State → Fin n → Nat} {unit : Fin n → Nat}
    (clamps : Clamps clamp phase unit) (us : List (Fin n)) (t : State) : (forEach us clamp t).time = t.time :=
  forEach_keeps State.time us clamp clamps.time t

theorem Clamps.all_pitch {n : Nat} {clamp : Fin n → State → State} {phase : State → Fin n → Nat} {unit : Fin n → Nat}
    (clamps : Clamps clamp phase unit) (us : List (Fin n)) (t : State) : (forEach us clamp t).pitch = t.pitch :=
  forEach_keeps State.pitch us clamp clamps.pitch t

/-- A phase at or above P is set to P − 1, and another is kept. -/
theorem clamp_min (len phase : Nat) : (if len ≤ phase then len - 1 else phase) = min phase (len - 1) := by
  split <;> omega

/-- A camera's record with its active phase clamped. -/
def Camera.clamped (len : Nat) (c : Camera) : Camera := { c with cfg := { c.cfg with phase := min c.cfg.phase (len - 1) } }

/-- A gate's record with its active phase clamped. -/
def Gate.clamped (len : Nat) (g : Gate) : Gate := { g with cfg := { g.cfg with phase := min g.cfg.phase (len - 1) } }

theorem clampCamera_eq (n : CameraId) (s : State) :
    clampCamera n s = tellClamps s.pitch.length [(n.val, s.cameras[n].cfg.phase)] (s.mapCamera n (Camera.clamped s.pitch.length)) := by
  have clamped : s.cameras[n].clamped s.pitch.length =
      { s.cameras[n] with cfg := { s.cameras[n].cfg with
          phase := if s.pitch.length ≤ s.cameras[n].cfg.phase then s.pitch.length - 1 else s.cameras[n].cfg.phase } } := by
    rw [clamp_min]
    rfl
  rw [tellClamps_single]
  unfold clampCamera State.mapCamera updateAt
  rw [clamped]
  dsimp only
  split
  · rfl
  · exact (congrArg (fun v => ({ s with cameras := v } : State)) (Vector.set_getElem_self _)).symm

theorem clampGate_eq (g : GateId) (s : State) :
    clampGate g s = tellClamps s.pitch.length [(6 + g.val, s.gates[g].cfg.phase)] (s.mapGate g (Gate.clamped s.pitch.length)) := by
  have clamped : s.gates[g].clamped s.pitch.length =
      { s.gates[g] with cfg := { s.gates[g].cfg with
          phase := if s.pitch.length ≤ s.gates[g].cfg.phase then s.pitch.length - 1 else s.gates[g].cfg.phase } } := by
    rw [clamp_min]
    rfl
  rw [tellClamps_single]
  unfold clampGate State.mapGate updateAt
  rw [clamped]
  dsimp only
  split
  · rfl
  · exact (congrArg (fun v => ({ s with gates := v } : State)) (Vector.set_getElem_self _)).symm

theorem clampWindowStart_eq (s : State) :
    clampWindowStart s =
      tellClamps s.pitch.length [(8, s.pitch.windowStart)]
        { s with pitch := { s.pitch with windowStart := min s.pitch.windowStart (s.pitch.length - 1) } } := by
  rw [tellClamps_single, ← clamp_min]
  unfold clampWindowStart
  dsimp only
  split <;> rfl

theorem clampWindowEnd_eq (s : State) :
    clampWindowEnd s =
      tellClamps s.pitch.length [(9, s.pitch.windowEnd)]
        { s with pitch := { s.pitch with windowEnd := min s.pitch.windowEnd (s.pitch.length - 1) } } := by
  rw [tellClamps_single, ← clamp_min]
  unfold clampWindowEnd
  dsimp only
  split <;> rfl

theorem clampCamera_keepsBut (n : CameraId) (s : State) : keepsBut [.cameras, .events] s (clampCamera n s) := by
  rw [clampCamera_eq]
  refine keepsBut_trans (t := s.mapCamera n (Camera.clamped s.pitch.length)) ?_ (keepsBut_mono (tellClamps_keepsBut _ _ _) (by decide))
  intro part other
  cases part <;> simp [Part.same] at other ⊢

theorem clampGate_keepsBut (g : GateId) (s : State) : keepsBut [.gates, .events] s (clampGate g s) := by
  rw [clampGate_eq]
  refine keepsBut_trans (t := s.mapGate g (Gate.clamped s.pitch.length)) ?_ (keepsBut_mono (tellClamps_keepsBut _ _ _) (by decide))
  intro part other
  cases part <;> simp [Part.same] at other ⊢

theorem clampCamera_camera (n k : CameraId) (s : State) :
    (clampCamera n s).cameras[k] = if k = n then s.cameras[n].clamped s.pitch.length else s.cameras[k] := by
  have cameras : (clampCamera n s).cameras = (s.mapCamera n (Camera.clamped s.pitch.length)).cameras := by
    rw [clampCamera_eq]
    exact (tellClamps_keepsBut _ _ _) .cameras (by decide)
  rw [cameras, mapCamera_get]

theorem clampGate_gate (g k : GateId) (s : State) :
    (clampGate g s).gates[k] = if k = g then s.gates[g].clamped s.pitch.length else s.gates[k] := by
  have gates : (clampGate g s).gates = (s.mapGate g (Gate.clamped s.pitch.length)).gates := by
    rw [clampGate_eq]
    exact (tellClamps_keepsBut _ _ _) .gates (by decide)
  rw [gates, mapGate_get]

theorem clampCamera_clamps : Clamps clampCamera (fun t n => t.cameras[n].cfg.phase) Fin.val where
  events n t := by
    rw [clampCamera_eq]
    exact tellClamps_events_congr (s := t) (t := t.mapCamera n _) rfl rfl _ _
  time n t := (clampCamera_keepsBut n t) .time (by decide)
  pitch n t := (clampCamera_keepsBut n t) .pitch (by decide)
  others n k t other := by rw [clampCamera_camera, if_neg other]

theorem clampGate_clamps : Clamps clampGate (fun t g => t.gates[g].cfg.phase) (fun g => 6 + g.val) where
  events g t := by
    rw [clampGate_eq]
    exact tellClamps_events_congr (s := t) (t := t.mapGate g _) rfl rfl _ _
  time g t := (clampGate_keepsBut g t) .time (by decide)
  pitch g t := (clampGate_keepsBut g t) .pitch (by decide)
  others g k t other := by rw [clampGate_gate, if_neg other]

/-- The active phases with their units, in the order of the clamps. -/
def activePhases (s : State) : List (Nat × Nat) :=
  ((allUnits 6).map fun n : CameraId => (n.val, s.cameras[n].cfg.phase))
    ++ ((allUnits 2).map fun g : GateId => (6 + g.val, s.gates[g].cfg.phase)) ++ [(8, s.pitch.windowStart), (9, s.pitch.windowEnd)]

section
variable (s : State)

theorem clampCameras_keepsBut : keepsBut [.cameras, .events] s (forEach (allUnits 6) clampCamera s) :=
  forEach_invariant (keepsBut _ s) _ _ (fun n t kept => keepsBut_trans kept (clampCamera_keepsBut n t)) s (keepsBut_refl _ s)

theorem clampGates_keepsBut : keepsBut [.gates, .events] s (forEach (allUnits 2) clampGate s) :=
  forEach_invariant (keepsBut _ s) _ _ (fun g t kept => keepsBut_trans kept (clampGate_keepsBut g t)) s (keepsBut_refl _ s)

theorem clampCameras_cameras :
    (forEach (allUnits 6) clampCamera s).cameras = Vector.ofFn fun n : CameraId => s.cameras[n].clamped s.pitch.length := by
  refine Vector.ext fun k bound => ?_
  have each := forEach_own (fun t => t.pitch = s.pitch) (fun t (n : CameraId) => t.cameras[n]) (act := clampCamera)
    (f := fun _ => Camera.clamped s.pitch.length) (fun n t same => (clampCamera_clamps.pitch n t).trans same)
    (fun n t same => by rw [clampCamera_camera, if_pos rfl, same]) (fun n k t _ other => by rw [clampCamera_camera, if_neg other])
    (allUnits_nodup 6) (s := s) rfl ⟨k, bound⟩
  rw [if_pos (mem_allUnits _)] at each
  rw [Vector.getElem_ofFn]
  exact each

theorem clampGates_gates :
    (forEach (allUnits 2) clampGate s).gates = Vector.ofFn fun g : GateId => s.gates[g].clamped s.pitch.length := by
  refine Vector.ext fun k bound => ?_
  have each := forEach_own (fun t => t.pitch = s.pitch) (fun t (g : GateId) => t.gates[g]) (act := clampGate)
    (f := fun _ => Gate.clamped s.pitch.length) (fun g t same => (clampGate_clamps.pitch g t).trans same)
    (fun g t same => by rw [clampGate_gate, if_pos rfl, same]) (fun g k t _ other => by rw [clampGate_gate, if_neg other])
    (allUnits_nodup 2) (s := s) rfl ⟨k, bound⟩
  rw [if_pos (mem_allUnits _)] at each
  rw [Vector.getElem_ofFn]
  exact each

/-- Two states that agree but for four parts are one with those parts replaced. -/
theorem state_of_keepsBut {s t : State} (kept : keepsBut [.pitch, .cameras, .gates, .events] s t) :
    t = { s with pitch := t.pitch, cameras := t.cameras, gates := t.gates, events := t.events } := by
  have pins := kept .pins (by decide)
  have track := kept .track (by decide)
  have stops := kept .stops (by decide)
  have fill := kept .fill (by decide)
  have robots := kept .robots (by decide)
  have doses := kept .doses (by decide)
  have bus := kept .bus (by decide)
  have mainSwitch := kept .mainSwitch (by decide)
  have groups := kept .groups (by decide)
  have access := kept .access (by decide)
  have time := kept .time (by decide)
  have counters := kept .counters (by decide)
  have link := kept .link (by decide)
  have pending := kept .pending (by decide)
  cases s
  cases t
  simp_all [Part.same]

theorem clampWindows_parts :
    (clampWindowEnd (clampWindowStart s)).pitch =
        { s.pitch with
          windowStart := min s.pitch.windowStart (s.pitch.length - 1), windowEnd := min s.pitch.windowEnd (s.pitch.length - 1) }
      ∧ (clampWindowEnd (clampWindowStart s)).events =
        (tellClamps s.pitch.length [(8, s.pitch.windowStart), (9, s.pitch.windowEnd)] s).events
      ∧ keepsBut [.pitch, .events] s (clampWindowEnd (clampWindowStart s)) := by
  let placed : State := { s with pitch := { s.pitch with windowStart := min s.pitch.windowStart (s.pitch.length - 1) } }
  have first := tellClamps_keepsBut s.pitch.length [(8, s.pitch.windowStart)] placed
  have firstEvents : (tellClamps s.pitch.length [(8, s.pitch.windowStart)] placed).events =
      (tellClamps s.pitch.length [(8, s.pitch.windowStart)] s).events := tellClamps_events_congr (s := s) (t := placed) rfl rfl _ _
  have own := tellClamps_keepsBut s.pitch.length [(8, s.pitch.windowStart)] s
  rw [clampWindowStart_eq, clampWindowEnd_eq]
  change keepsBut _ _ _ at first
  generalize tellClamps s.pitch.length [(8, s.pitch.windowStart)] placed = u at first firstEvents ⊢
  have pitch : u.pitch = placed.pitch := first .pitch (by decide)
  have length : u.pitch.length = s.pitch.length := by rw [pitch]
  have stop : u.pitch.windowEnd = s.pitch.windowEnd := by rw [pitch]
  have time : u.time = s.time := first .time (by decide)
  let ended : State := { u with pitch := { u.pitch with windowEnd := min u.pitch.windowEnd (u.pitch.length - 1) } }
  have last := tellClamps_keepsBut u.pitch.length [(9, u.pitch.windowEnd)] ended
  refine ⟨(last .pitch (by decide)).trans ?_, ?_, ?_⟩
  · show ({ u.pitch with windowEnd := min u.pitch.windowEnd (u.pitch.length - 1) } : PitchUnit) = _
    rw [pitch]
  · change (tellClamps u.pitch.length [(9, u.pitch.windowEnd)] ended).events = _
    rw [length, stop, show [(8, s.pitch.windowStart), (9, s.pitch.windowEnd)] = [(8, s.pitch.windowStart)] ++ [(9, s.pitch.windowEnd)] from rfl,
      tellClamps_append]
    exact tellClamps_events_congr (t := ended) firstEvents (time.trans (own .time (by decide)).symm) s.pitch.length
      [(9, s.pitch.windowEnd)]
  · refine keepsBut_trans ?_ (keepsBut_mono last (by decide))
    intro part other
    have placedKept := first part
    cases part <;> simp [Part.same, placed, ended] at other placedKept ⊢ <;> exact placedKept

/-- The clamps before the counter's: the windows', the gates' and the cameras'. -/
theorem clampPhases_parts :
    let t := clampWindowEnd (clampWindowStart (forEach (allUnits 2) clampGate (forEach (allUnits 6) clampCamera s)))
    t.pitch =
        { s.pitch with
          windowStart := min s.pitch.windowStart (s.pitch.length - 1), windowEnd := min s.pitch.windowEnd (s.pitch.length - 1) }
      ∧ t.cameras = (Vector.ofFn fun n : CameraId => s.cameras[n].clamped s.pitch.length)
      ∧ t.gates = (Vector.ofFn fun g : GateId => s.gates[g].clamped s.pitch.length)
      ∧ t.events = (tellClamps s.pitch.length (activePhases s) s).events
      ∧ keepsBut [.pitch, .cameras, .gates, .events] s t := by
  have cams := clampCameras_keepsBut s
  have camsPitch : (forEach (allUnits 6) clampCamera s).pitch = s.pitch := cams .pitch (by decide)
  have camsEvents := clampCamera_clamps.all_events (allUnits_nodup 6) s
  have camsCameras := clampCameras_cameras s
  generalize forEach (allUnits 6) clampCamera s = c at *
  have gts := clampGates_keepsBut c
  have gtsPitch : (forEach (allUnits 2) clampGate c).pitch = s.pitch := (gts .pitch (by decide)).trans camsPitch
  have gtsEvents := clampGate_clamps.all_events (allUnits_nodup 2) c
  have gtsGates := clampGates_gates c
  generalize forEach (allUnits 2) clampGate c = g at *
  have gates : c.gates = s.gates := cams .gates (by decide)
  have time : c.time = s.time := cams .time (by decide)
  have timeG : g.time = s.time := (gts .time (by decide)).trans time
  have all : keepsBut [.pitch, .cameras, .gates, .events] s g :=
    keepsBut_trans (keepsBut_mono cams (by decide)) (keepsBut_mono gts (by decide))
  have windows := clampWindows_parts g
  generalize clampWindowEnd (clampWindowStart g) = t at windows ⊢
  obtain ⟨pitch, events, kept⟩ := windows
  refine ⟨by rw [pitch, gtsPitch], (kept .cameras (by decide)).trans ((gts .cameras (by decide)).trans camsCameras), ?_, ?_,
    keepsBut_trans all (keepsBut_mono kept (by decide))⟩
  · rw [(show t.gates = g.gates from kept .gates (by decide)), gtsGates, camsPitch, gates]
  · have first := tellClamps_keepsBut s.pitch.length ((allUnits 6).map fun n : CameraId => (n.val, s.cameras[n].cfg.phase)) s
    have second := tellClamps_keepsBut s.pitch.length ((allUnits 2).map fun k : GateId => (6 + k.val, s.gates[k].cfg.phase))
      (tellClamps s.pitch.length ((allUnits 6).map fun n : CameraId => (n.val, s.cameras[n].cfg.phase)) s)
    unfold activePhases
    rw [tellClamps_append, tellClamps_append, events, gtsPitch]
    refine tellClamps_events_congr ?_ (timeG.trans ((second .time (by decide)).trans (first .time (by decide))).symm) _ _
    rw [gtsEvents, camsPitch, gates]
    exact tellClamps_events_congr camsEvents (time.trans (first .time (by decide)).symm) _ _

/-- The clamps in one record: every phase, P and the counter clamped, and their events (R10). -/
theorem clampAll_eq :
    clampAll s =
      { s with
        pitch :=
          { s.pitch with
            counter := min s.pitch.counter (s.pitch.length - 1)
            windowStart := min s.pitch.windowStart (s.pitch.length - 1)
            windowEnd := min s.pitch.windowEnd (s.pitch.length - 1) }
        cameras := Vector.ofFn fun n : CameraId => s.cameras[n].clamped s.pitch.length
        gates := Vector.ofFn fun g : GateId => s.gates[g].clamped s.pitch.length
        events := (tellClamps s.pitch.length (activePhases s) s).events } := by
  have parts := clampPhases_parts s
  unfold clampAll clampCounter setPitchCounter
  generalize clampWindowEnd (clampWindowStart (forEach (allUnits 2) clampGate (forEach (allUnits 6) clampCamera s))) = t at parts ⊢
  obtain ⟨pitch, cameras, gates, events, kept⟩ := parts
  rw [← cameras, ← gates, ← events, pitch]
  conv_lhs => rw [state_of_keepsBut kept]

/-- With every phase below P the clamps bring the counter below P and nothing else (R10). -/
theorem clampAll_of_below (cameras : ∀ n : CameraId, s.cameras[n].cfg.phase < s.pitch.length)
    (gates : ∀ g : GateId, s.gates[g].cfg.phase < s.pitch.length) (start : s.pitch.windowStart < s.pitch.length)
    (stop : s.pitch.windowEnd < s.pitch.length) :
    clampAll s = { s with pitch := { s.pitch with counter := min s.pitch.counter (s.pitch.length - 1) } } := by
  have sameCameras : (fun n : CameraId => s.cameras[n].clamped s.pitch.length) = fun n => s.cameras[n] := by
    refine funext fun n => ?_
    unfold Camera.clamped
    rw [Nat.min_eq_left (Nat.le_sub_one_of_lt (cameras n))]
  have sameGates : (fun g : GateId => s.gates[g].clamped s.pitch.length) = fun g => s.gates[g] := by
    refine funext fun g => ?_
    unfold Gate.clamped
    rw [Nat.min_eq_left (Nat.le_sub_one_of_lt (gates g))]
  have quiet : ((activePhases s).filter fun x => decide (s.pitch.length ≤ x.2)) = [] := by
    refine List.filter_eq_nil_iff.2 fun x listed => ?_
    rw [decide_eq_true_eq, Nat.not_le]
    unfold activePhases at listed
    rcases List.mem_append.1 listed with units | window
    · rcases List.mem_append.1 units with camera | gate
      · obtain ⟨n, -, rfl⟩ := List.mem_map.1 camera
        exact cameras n
      · obtain ⟨g, -, rfl⟩ := List.mem_map.1 gate
        exact gates g
    · rcases List.mem_cons.1 window with rfl | last
      · exact start
      · rw [List.mem_singleton.1 last]
        exact stop
  rw [clampAll_eq, sameCameras, sameGates, ofFn_getElem, ofFn_getElem, Nat.min_eq_left (Nat.le_sub_one_of_lt start),
    Nat.min_eq_left (Nat.le_sub_one_of_lt stop)]
  unfold tellClamps
  rw [quiet]
  rfl

/-! ## Limits (R42, R52) -/

variable {s}

theorem deadlineCheck_of_settled {n : CameraId}
    (settled : ∀ p : Nat, s.cameras[n].cfg.position + s.cameras[n].cfg.deadline ≤ p → p < s.track.length →
      (s.slotAt p).awaits n = false) : deadlineCheck n s = s := by
  by_cases enabled : s.cameras[n].cfg.enabled = true
  · rw [deadlineCheck_of_enabled enabled]
    refine forEach_of_fixed_mem fun p listed => ?_
    obtain ⟨past, onTrack⟩ := mem_surplus.1 listed
    unfold deadlineAt
    rw [settled p past onTrack]
    exact if_neg Bool.false_ne_true
  · exact deadlineCheck_of_disabled (Bool.eq_false_iff.2 enabled)

theorem checkLimits_of_settled
    (settled : ∀ (n : CameraId) (p : Nat), s.cameras[n].cfg.position + s.cameras[n].cfg.deadline ≤ p → p < s.track.length →
      (s.slotAt p).awaits n = false)
    (young : ∀ (g : GateId), ∀ e ∈ s.gates[g].confirm, e.age < s.gates[g].cfg.window) : checkLimits s = s := by
  unfold checkLimits
  rw [forEach_of_fixed fun n => deadlineCheck_of_settled (settled n), forEach_of_fixed fun g => expireConfirm_of_young (young g)]

theorem clampedCounter_limits (counter : Nat)
    (settled : ∀ (n : CameraId) (p : Nat), s.cameras[n].cfg.position + s.cameras[n].cfg.deadline ≤ p → p < s.track.length →
      (s.slotAt p).awaits n = false)
    (young : ∀ (g : GateId), ∀ e ∈ s.gates[g].confirm, e.age < s.gates[g].cfg.window) :
    checkLimits { s with pitch := { s.pitch with counter := counter } } = { s with pitch := { s.pitch with counter := counter } } :=
  checkLimits_of_settled settled young

/-- A change of layout with every phase below P and nothing past a limit clamps the counter and nothing else. -/
theorem layout_of_calm (cameras : ∀ n : CameraId, s.cameras[n].cfg.phase < s.pitch.length)
    (gates : ∀ g : GateId, s.gates[g].cfg.phase < s.pitch.length) (start : s.pitch.windowStart < s.pitch.length)
    (stop : s.pitch.windowEnd < s.pitch.length)
    (settled : ∀ (n : CameraId) (p : Nat), s.cameras[n].cfg.position + s.cameras[n].cfg.deadline ≤ p → p < s.track.length →
      (s.slotAt p).awaits n = false)
    (young : ∀ (g : GateId), ∀ e ∈ s.gates[g].confirm, e.age < s.gates[g].cfg.window) :
    changeLength s.track.length (checkLimits (clampAll s)) =
      { s with pitch := { s.pitch with counter := min s.pitch.counter (s.pitch.length - 1) } } := by
  rw [clampAll_of_below s cameras gates start stop, clampedCounter_limits _ settled young]
  exact changeLength_self { s with pitch := { s.pitch with counter := min s.pitch.counter (s.pitch.length - 1) } }

/-! ## TRACK_CONFIG (R8 to R11) -/

section
variable {tag pitch start stop : Half} {length : Byte}

theorem trackConfig_of_same (pitchSame : pitch.toNat = s.pitch.length) (lengthSame : length.toNat = s.track.length)
    (startSame : start.toNat = s.pitch.windowStart) (stopSame : stop.toNat = s.pitch.windowEnd) (ok : settingsOk s = true) :
    trackConfig tag pitch length start stop s = accept 0x10 tag [] s := by
  unfold trackConfig writeTrack layoutBase
  dsimp only
  rw [pitchSame, lengthSame, startSame, stopSame, decide_eq_false (by simp), Bool.and_false, if_neg Bool.false_ne_true,
    if_neg Bool.false_ne_true, if_neg Bool.false_ne_true]
  exact if_pos ok

variable (differs : pitch.toNat ≠ s.pitch.length ∨ length.toNat ≠ s.track.length ∨ start.toNat ≠ s.pitch.windowStart
  ∨ stop.toNat ≠ s.pitch.windowEnd)
include differs

theorem trackConfig_of_running (run : s.pins.run = true) :
    trackConfig tag pitch length start stop s = refuse 0x10 tag .running s := by
  unfold trackConfig
  dsimp only
  rw [decide_eq_true differs, run]
  exact if_pos rfl

theorem trackConfig_of_stopped (stopped : s.pins.run = false) :
    trackConfig tag pitch length start stop s =
      let written := writeTrack pitch.toNat start.toNat stop.toNat (activateStaged s)
      if settingsOk { written with track := { s.track with length := length.toNat } } = true then
        accept 0x10 tag [] (changeLength length.toNat (checkLimits (clampAll written)))
      else refuse 0x10 tag .badField s := by
  unfold trackConfig layoutBase
  dsimp only
  have track : (writeTrack pitch.toNat start.toNat stop.toNat (activateStaged s)).track = s.track := by
    rw [activateStaged_eq]
    rfl
  rw [decide_eq_true differs, stopped, Bool.false_and, if_neg Bool.false_ne_true, if_pos rfl, if_pos rfl, track]

end

/-- Settles O47: the refusals in their order, the writing by its stages, and the clamps in one record. -/
theorem trackConfigSetsThePitch : Obligations.TrackConfigSetsThePitch := by
  refine ⟨fun s tag pitch start stop length idle => ?_, fun s => clampAll_eq s⟩
  intro request differs pitched written passes
  have rule (t : State) (is : trackConfig tag pitch length start stop s = t) : exec request s = .next t :=
    (hostRequest_of_idle idle (.trackConfig tag pitch length start stop) _).trans (congrArg Host.Outcome.next is)
  have base : writeTrack pitch.toNat start.toNat stop.toNat (activateStaged s) = written := by
    rw [activateStaged_eq]
    rfl
  have applied (change : differs) (stopped : s.pins.run = false) (ok : passes) :
      exec request s = .next (accept 0x10 tag [] (changeLength length.toNat (checkLimits (clampAll written)))) := by
    refine rule _ ((trackConfig_of_stopped change stopped).trans ?_)
    rw [base]
    exact if_pos ok
  refine ⟨fun same ok => rule _ ?_, fun change run => rule _ (trackConfig_of_running change run), fun change stopped fails =>
    rule _ ((trackConfig_of_stopped change stopped).trans ?_), applied, fun change stopped lengthSame ok startIn stopIn
      cameras gates => ?_⟩
  · have each := not_or.1 same
    obtain ⟨lengthSame, startSame, stopSame⟩ : _ ∧ _ ∧ _ := ⟨not_not.1 (not_or.1 each.2).1, not_not.1 (not_or.1 (not_or.1 each.2).2).1,
      not_not.1 (not_or.1 (not_or.1 each.2).2).2⟩
    exact trackConfig_of_same (not_not.1 each.1) lengthSame startSame stopSame ok
  · rw [base]
    exact if_neg fails
  · have plain : written = pitched s := by
      rw [← base, activateStaged_of_absent (fun n => (cameras n).1) fun g => (gates g).1]
      rfl
    have passed : passes := by
      show settingsOk { written with track := { s.track with length := length.toNat } } = true
      rw [plain, lengthSame]
      exact ok
    have calm := layout_of_calm (s := pitched s) (fun n => (cameras n).2.1) (fun g => (gates g).2.1) startIn stopIn
      (fun n => (cameras n).2.2) fun g => (gates g).2.2
    rw [applied change stopped passed, plain, lengthSame]
    exact congrArg (fun t => Host.Outcome.next (accept 0x10 tag [] t)) calm

end

end Sys2Proof.Machine
end


section
/-! CAMERA_CONFIG (O48): settings staged or made active, and what a change of the camera's place does. -/

set_option Elab.async false

namespace Sys2Proof.Machine

/-! ## Clamps of one unit (R10) -/

/-- An act that leaves every state of a kind as it is at the other units runs at its own unit alone. -/
theorem forEach_only_of (kind : State → Prop) {n : Nat} {act : Fin n → State → State} {u : Fin n}
    (others : ∀ v t, v ≠ u → kind t → act v t = t) (own : ∀ t, kind t → kind (act u t)) {us : List (Fin n)} (once : us.Nodup)
    (listed : u ∈ us) {s : State} (is : kind s) : forEach us act s = act u s := by
  induction us with
  | nil => cases listed
  | cons v us ih =>
    obtain ⟨fresh, rest⟩ := List.nodup_cons.1 once
    rw [forEach_cons]
    by_cases same : v = u
    · rw [same]
      exact forEach_of_fixed_mem fun w later => others w _ (fun again => fresh (same ▸ again ▸ later)) (own s is)
    · rw [others v s same is]
      exact ih rest ((List.mem_cons.1 listed).resolve_left fun first => same first.symm)

/-- The phases of some cameras and gates, the infeed window and the counter are below P. -/
structure Below (cameras : CameraId → Prop) (gates : GateId → Prop) (s : State) : Prop where
  cameras : ∀ k : CameraId, cameras k → s.cameras[k].cfg.phase < s.pitch.length
  gates : ∀ k : GateId, gates k → s.gates[k].cfg.phase < s.pitch.length
  start : s.pitch.windowStart < s.pitch.length
  stop : s.pitch.windowEnd < s.pitch.length
  counter : s.pitch.counter < s.pitch.length

theorem clampCamera_of_below {n : CameraId} {s : State} (below : s.cameras[n].cfg.phase < s.pitch.length) : clampCamera n s = s := by
  unfold clampCamera
  exact if_neg (Nat.not_le.2 below)

theorem clampGate_of_below {g : GateId} {s : State} (below : s.gates[g].cfg.phase < s.pitch.length) : clampGate g s = s := by
  unfold clampGate
  exact if_neg (Nat.not_le.2 below)

theorem clampPitch_of_below {s : State} (start : s.pitch.windowStart < s.pitch.length) (stop : s.pitch.windowEnd < s.pitch.length)
    (counter : s.pitch.counter < s.pitch.length) : clampCounter (clampWindowEnd (clampWindowStart s)) = s := by
  have first : clampWindowStart s = s := by
    unfold clampWindowStart
    exact if_neg (Nat.not_le.2 start)
  have second : clampWindowEnd s = s := by
    unfold clampWindowEnd
    exact if_neg (Nat.not_le.2 stop)
  rw [first, second]
  unfold clampCounter setPitchCounter
  rw [Nat.min_eq_left (Nat.le_sub_one_of_lt counter)]

theorem clampAll_of_camera {n : CameraId} {s : State} (below : Below (· ≠ n) (fun _ => True) s) : clampAll s = clampCamera n s := by
  have own (t : State) (is : Below (· ≠ n) (fun _ => True) t) : Below (· ≠ n) (fun _ => True) (clampCamera n t) := by
    have kept := clampCamera_keepsBut n t
    have pitch : (clampCamera n t).pitch = t.pitch := kept .pitch (by decide)
    have gates : (clampCamera n t).gates = t.gates := kept .gates (by decide)
    constructor
    · intro k other
      rw [pitch, clampCamera_camera, if_neg other]
      exact is.cameras k other
    · rw [pitch, gates]
      exact is.gates
    · rw [pitch]
      exact is.start
    · rw [pitch]
      exact is.stop
    · rw [pitch]
      exact is.counter
  have cameras : forEach (allUnits 6) clampCamera s = clampCamera n s :=
    forEach_only_of (Below (· ≠ n) (fun _ => True)) (fun k t other is => clampCamera_of_below (is.cameras k other)) own
      (allUnits_nodup 6) (mem_allUnits n) below
  have clamped := own s below
  unfold clampAll
  rw [cameras, forEach_of_fixed fun g => clampGate_of_below (clamped.gates g trivial)]
  exact clampPitch_of_below clamped.start clamped.stop clamped.counter

theorem clampAll_of_gate {g : GateId} {s : State} (below : Below (fun _ => True) (· ≠ g) s) : clampAll s = clampGate g s := by
  have own (t : State) (is : Below (fun _ => True) (· ≠ g) t) : Below (fun _ => True) (· ≠ g) (clampGate g t) := by
    have kept := clampGate_keepsBut g t
    have pitch : (clampGate g t).pitch = t.pitch := kept .pitch (by decide)
    have cameras : (clampGate g t).cameras = t.cameras := kept .cameras (by decide)
    constructor
    · rw [pitch, cameras]
      exact is.cameras
    · intro k other
      rw [pitch, clampGate_gate, if_neg other]
      exact is.gates k other
    · rw [pitch]
      exact is.start
    · rw [pitch]
      exact is.stop
    · rw [pitch]
      exact is.counter
  have gates : forEach (allUnits 2) clampGate s = clampGate g s :=
    forEach_only_of (Below (fun _ => True) (· ≠ g)) (fun k t other is => clampGate_of_below (is.gates k other)) own
      (allUnits_nodup 2) (mem_allUnits g) below
  have clamped := own s below
  unfold clampAll
  rw [forEach_of_fixed fun n => clampCamera_of_below (below.cameras n trivial), gates]
  exact clampPitch_of_below clamped.start clamped.stop clamped.counter

/-! ## Units with nothing past a limit -/

/-- No slot on the track that has reached the camera's deadline still awaits it (R42). -/
def settledAt (s : State) (n : CameraId) : Prop :=
  ∀ p : Nat, s.cameras[n].cfg.position + s.cameras[n].cfg.deadline ≤ p → p < s.track.length → (s.slotAt p).awaits n = false

/-- No confirm entry of the gate has reached the window (R52). -/
def youngAt (s : State) (g : GateId) : Prop := ∀ e ∈ s.gates[g].confirm, e.age < s.gates[g].cfg.window

section
variable {s t : State}

theorem settledAt_of_same {n : CameraId} (track : t.track = s.track) (position : t.cameras[n].cfg.position = s.cameras[n].cfg.position)
    (deadline : t.cameras[n].cfg.deadline = s.cameras[n].cfg.deadline) (settled : settledAt s n) : settledAt t n := by
  intro p past onTrack
  rw [position, deadline] at past
  rw [slotAt_of_track track]
  exact settled p past (track ▸ onTrack)

theorem checkLimits_of_calm (settled : ∀ n, settledAt s n) (young : ∀ g, youngAt s g) : checkLimits s = s :=
  checkLimits_of_settled settled young

end

/-! ## Slots edited one after another -/

theorem editSlotAt_slotAt {f : Slot → Slot} (ticket : ∀ sl, (f sl).ticket = sl.ticket) {p q : Nat} (pIn : p < 128) (qIn : q < 128)
    (s : State) : (editSlotAt p f s).slotAt q = if q = p then f (s.slotAt p) else s.slotAt q := by
  rw [editSlotAt_eq (ticket _), slotAt_putSlot p q _ s pIn qIn]

theorem forEach_editSlotAt {f : Slot → Slot} (ticket : ∀ sl, (f sl).ticket = sl.ticket) {ps : List Nat} (once : ps.Nodup)
    (onRing : ∀ p ∈ ps, p < 128) (s : State) {q : Nat} (small : q < 128) :
    (forEach ps (fun p => editSlotAt p f) s).slotAt q = if q ∈ ps then f (s.slotAt q) else s.slotAt q := by
  induction ps generalizing s with
  | nil => rfl
  | cons p ps ih =>
    obtain ⟨fresh, rest⟩ := List.nodup_cons.1 once
    rw [forEach_cons, ih rest fun r later => onRing r (List.mem_cons_of_mem p later),
      editSlotAt_slotAt ticket (onRing p List.mem_cons_self) small]
    by_cases same : q = p
    · rw [if_pos same, if_neg (same ▸ fresh), if_pos (same ▸ List.mem_cons_self), same]
    · simp only [List.mem_cons, same, false_or, if_false]

/-- Editing slots changes the ring of slots alone. -/
theorem forEach_editSlotAt_rest (f : Slot → Slot) (ps : List Nat) (s : State) :
    forEach ps (fun p => editSlotAt p f) s =
      { s with track := { s.track with ring := (forEach ps (fun p => editSlotAt p f) s).track.ring } } := by
  have rest := forEach_keeps (fun t : State => { t with track := { t.track with ring := s.track.ring } }) ps
    (fun p => editSlotAt p f) (fun _ _ => rfl) s
  generalize forEach ps (fun p => editSlotAt p f) s = t at rest ⊢
  exact congrArg (fun u : State => { u with track := { u.track with ring := t.track.ring } }) rest

section
variable {n : CameraId} {required : Bool} {s : State}

theorem missAll_slotAt (onRing : s.track.length ≤ 128) {p : Nat} (small : p < 128) :
    (missAll n required s).slotAt p = if p < s.track.length then (s.slotAt p).miss n required else s.slotAt p := by
  unfold missAll
  rw [forEach_editSlotAt (fun sl => sl.miss_ticket n required) List.nodup_range
    (fun q listed => Nat.lt_of_lt_of_le (List.mem_range.1 listed) onRing) s small]
  simp only [List.mem_range]

theorem missAll_rest : missAll n required s = { s with track := { s.track with ring := (missAll n required s).track.ring } } :=
  forEach_editSlotAt_rest _ _ s

theorem Slot.miss_awaits_other {sl : Slot} {k : CameraId} (other : k ≠ n) : (sl.miss n required).awaits k = sl.awaits k := by
  unfold Slot.miss
  split
  · rfl
  · unfold Slot.awaits Slot.settleEntry
    rw [List.any_map]
    refine List.any_congr rfl fun e => ?_
    show ((if e.camera = n ∧ e.verdict = .awaited then { e with verdict := Verdict.missing } else e).camera == k
      && (if e.camera = n ∧ e.verdict = .awaited then { e with verdict := Verdict.missing } else e).verdict == .awaited) = _
    by_cases own : e.camera = n ∧ e.verdict = .awaited
    · rw [if_pos own]
      have away : (e.camera == k) = false := beq_eq_false_iff_ne.2 fun same => other (same.symm.trans own.1)
      rw [away]
      rfl
    · rw [if_neg own]

theorem Slot.miss_awaits_own {sl : Slot} (stays : sl.occupancy ≠ .removed) : (sl.miss n required).awaits n = false := by
  by_cases awaits : sl.awaits n = true
  · rw [Slot.miss_of_awaiting stays awaits]
    unfold Slot.awaits
    rw [List.any_map, List.any_eq_false]
    intro e _
    show ¬((if e.camera = n ∧ e.verdict = .awaited then { camera := n, verdict := Verdict.missing } else e : VerdictEntry).camera == n
      && (if e.camera = n ∧ e.verdict = .awaited then { camera := n, verdict := Verdict.missing } else e : VerdictEntry).verdict
        == .awaited) = true
    by_cases own : e.camera = n ∧ e.verdict = .awaited
    · rw [if_pos own]
      simp
    · rw [if_neg own, Bool.and_eq_true, beq_iff_eq, beq_iff_eq]
      exact own
  · rw [Slot.miss_of_not_awaiting (Bool.eq_false_iff.2 awaits)]
    exact Bool.eq_false_iff.2 awaits

/-- The deadline of a camera with empty lists, at a slot that has been made MISSING, changes nothing. -/
theorem deadlineAt_of_emptied {p : Nat} (outstanding : s.cameras[n].outstanding = [])
    (missed : (s.slotAt p).awaits n = true → (s.slotAt p).occupancy = .removed) : deadlineAt n p s = s := by
  unfold deadlineAt
  by_cases awaits : (s.slotAt p).awaits n = true
  · rw [if_pos awaits]
    have kept : missAt n p s = s := by
      unfold missAt
      rw [editSlotAt_eq (Slot.miss_ticket _ n _), Slot.miss_of_removed (missed awaits)]
      unfold putSlot State.slotAt
      have ring : s.track.ring.set (ringIndex s.track.head p) s.track.ring[ringIndex s.track.head p] = s.track.ring :=
        Vector.set_getElem_self ..
      exact congrArg (fun v => ({ s with track := { s.track with ring := v } } : State)) ring
    have retired : s.cameras[n].retire (s.slotAt p).ticket = s.cameras[n] := by
      unfold Camera.retire
      generalize s.cameras[n] = c at outstanding
      cases c
      obtain rfl : _ = [] := outstanding
      rfl
    have cameras : s.cameras.set n (s.cameras[n].retire (s.slotAt p).ticket) = s.cameras := by
      rw [retired]
      exact Vector.set_getElem_self ..
    rw [kept]
    exact congrArg (fun v => ({ s with cameras := v } : State)) cameras
  · exact if_neg awaits

end

/-! ## CAMERA_CONFIG (R24, R25) -/

theorem flagField_of_bool (b : Bool) : flagField (if b = true then 1 else 0) = some b := by
  cases b <;> rfl

section
variable {s : State} {tag : Half} {n : CameraId} {new : CameraSettings}

/-- No value is staged but at the camera. -/
def othersUnstaged (n : CameraId) (s : State) : Prop :=
  (∀ k : CameraId, k ≠ n → s.cameras[k].staged = CameraStaged.absent) ∧ ∀ g : GateId, s.gates[g].staged = GateStaged.absent

/-- Written settings replace the camera's own, made active or not. -/
theorem writeCamera_layoutBase {layout : Bool} (unstaged : layout = true → othersUnstaged n s) :
    writeCamera n new (layoutBase layout s) = writeCamera n new s := by
  cases layout with
  | false => rfl
  | true =>
    obtain ⟨cameras, gates⟩ := unstaged rfl
    have sameGates : (Vector.ofFn fun g : GateId => s.gates[g].activateStaged) = s.gates := by
      rw [show (fun g : GateId => s.gates[g].activateStaged) = fun g => s.gates[g] from
        funext fun g => Gate.activateStaged_of_absent (gates g), ofFn_getElem]
    have sameCameras : (writeCamera n new (activateStaged s)).cameras = (writeCamera n new s).cameras := by
      have each (c : CameraId) : (writeCamera n new (activateStaged s)).cameras[c] = (writeCamera n new s).cameras[c] := by
        unfold writeCamera
        have staged (d : CameraId) : (activateStaged s).cameras[d] = s.cameras[d].activateStaged := activateStaged_camera s d
        rw [mapCamera_get, mapCamera_get]
        by_cases own : c = n
        · rw [if_pos own, if_pos own, staged]
          rfl
        · rw [if_neg own, if_neg own, staged, Camera.activateStaged_of_absent (cameras c own)]
      exact Vector.ext fun k bound => each ⟨k, bound⟩
    show writeCamera n new (activateStaged s) = _
    have plain : writeCamera n new (activateStaged s) = { s with
        cameras := (writeCamera n new (activateStaged s)).cameras
        gates := Vector.ofFn fun g : GateId => s.gates[g].activateStaged } := by
      conv_lhs => rw [activateStaged_eq]
      conv_rhs => rw [activateStaged_eq]
      rfl
    rw [plain, sameCameras, sameGates]
    rfl

theorem configureCamera_of_running (run : s.pins.run = true)
    (layout : new.enabled ≠ s.cameras[n].cfg.enabled ∨ new.position ≠ s.cameras[n].cfg.position) :
    configureCamera tag n new s = refuse 0x11 tag .running s := by
  unfold configureCamera
  dsimp only
  rw [decide_eq_true layout, run]
  exact if_pos rfl

theorem configureCamera_of_allowed
    (allowed : s.pins.run = false
      ∨ (new.enabled = s.cameras[n].cfg.enabled ∧ new.position = s.cameras[n].cfg.position))
    (unstaged : new.enabled ≠ s.cameras[n].cfg.enabled ∨ new.position ≠ s.cameras[n].cfg.position → othersUnstaged n s) :
    configureCamera tag n new s =
      if settingsOk (writeCamera n new s) = true then
        accept 0x11 tag []
          (if s.pins.run = true then stageCamera n new s
          else checkLimits (reconfigureCamera n s.cameras[n].cfg new (clampAll (writeCamera n new s))))
      else refuse 0x11 tag .badField s := by
  unfold configureCamera
  dsimp only
  rw [writeCamera_layoutBase fun layout => unstaged (of_decide_eq_true layout)]
  refine if_neg ?_
  rw [Bool.and_eq_true, decide_eq_true_eq]
  rintro ⟨run, layout⟩
  rcases allowed with stopped | ⟨enabled, position⟩
  · exact Bool.false_ne_true (stopped.symm.trans run)
  · exact layout.elim (fun h => h enabled) fun h => h position

theorem cameraConfig_of_range {enabled required : Bool} {position deadline : Byte} {phase mask : Half} (low : 1 ≤ deadline.toNat)
    (high : deadline.toNat ≤ 15) (classes : mask &&& 0xF000 = 0) :
    cameraConfig tag (BitVec.ofNat 8 n.val) (if enabled = true then 1 else 0) position phase mask
        (if required = true then 1 else 0) deadline s =
      configureCamera tag n
        { enabled := enabled, position := max 1 position.toNat, phase := phase.toNat, mask := mask, required := required
          deadline := deadline.toNat } s := by
  unfold cameraConfig
  rw [unitField_ofNat (by decide), flagField_of_bool, flagField_of_bool]
  refine if_neg ?_
  rintro (under | past | classes')
  · exact absurd low (Nat.not_le.2 under)
  · exact absurd high (Nat.not_le.2 past)
  · exact classes' classes

/-- Accepted settings with RUN low: written, clamped, and the camera's change and the limits judged. -/
theorem configureCamera_of_stopped (stopped : s.pins.run = false)
    (unstaged : new.enabled ≠ s.cameras[n].cfg.enabled ∨ new.position ≠ s.cameras[n].cfg.position → othersUnstaged n s)
    (ok : settingsOk (writeCamera n new s) = true) :
    configureCamera tag n new s =
      accept 0x11 tag [] (checkLimits (reconfigureCamera n s.cameras[n].cfg new (clampAll (writeCamera n new s)))) := by
  rw [configureCamera_of_allowed (.inl stopped) unstaged, if_pos ok, stopped, if_neg Bool.false_ne_true]

/-- Accepted settings with RUN high are staged. -/
theorem configureCamera_of_staging (run : s.pins.run = true) (enabled : new.enabled = s.cameras[n].cfg.enabled)
    (position : new.position = s.cameras[n].cfg.position) (ok : settingsOk (writeCamera n new s) = true) :
    configureCamera tag n new s = accept 0x11 tag [] (stageCamera n new s) := by
  rw [configureCamera_of_allowed (.inr ⟨enabled, position⟩) fun layout =>
    layout.elim (absurd enabled) (absurd position), if_pos ok, if_pos run]

theorem reconfigureCamera_of_same {old : CameraSettings} (enabled : new.enabled = old.enabled) (position : new.position = old.position) :
    reconfigureCamera n old new s = s := by
  unfold reconfigureCamera
  rw [enabled, position]
  cases old.enabled <;> simp

theorem reconfigureCamera_of_enabling {old : CameraSettings} (off : old.enabled = false) (on : new.enabled = true) :
    reconfigureCamera n old new s =
      s.mapCamera n fun c =>
        { c.emptyLists with
          state := .waiting, trigger := 0, silence := 0, receiver := .idle, bits := [], strayCount := 0 } := by
  unfold reconfigureCamera
  rw [off, on]
  rfl

/-- The record of a camera that was enabled and is disabled or moved. -/
def Camera.released (enabled : Bool) (c : Camera) : Camera :=
  if enabled = true then c.emptyLists else { c.emptyLists with state := .off, receiver := .idle, bits := [], pulse := false }

theorem reconfigureCamera_of_change {old : CameraSettings} (on : old.enabled = true)
    (change : new.enabled = false ∨ new.position ≠ old.position) :
    reconfigureCamera n old new s =
      (missAll n (if new.enabled = true then new.required else old.required) s).mapCamera n (Camera.released new.enabled) := by
  unfold reconfigureCamera Camera.released
  by_cases stays : new.enabled = true
  · have moved : old.position ≠ new.position := (change.resolve_left fun off => Bool.false_ne_true (off.symm.trans stays)).symm
    rw [on, stays, decide_eq_true moved]
    rfl
  · rw [on, Bool.eq_false_iff.2 stays]
    rfl

/-- Settings that leave camera, gates and pitch below P keep what waits for a limit where it is. -/
theorem checkLimits_clampCamera (settled : ∀ k, settledAt s k) (young : ∀ g, youngAt s g) :
    checkLimits (clampCamera n s) = clampCamera n s := by
  have kept := clampCamera_keepsBut n s
  have track : (clampCamera n s).track = s.track := kept .track (by decide)
  have gates : (clampCamera n s).gates = s.gates := kept .gates (by decide)
  refine checkLimits_of_calm (fun k => settledAt_of_same track ?_ ?_ (settled k)) fun g => ?_
  · rw [clampCamera_camera]
    split
    · next same => rw [same]; rfl
    · rfl
  · rw [clampCamera_camera]
    split
    · next same => rw [same]; rfl
    · rfl
  · unfold youngAt
    rw [gates]
    exact young g

/-- The camera's lists are empty and each of its slots has been made MISSING: no limit is past. -/
theorem checkLimits_of_emptied {required : Bool} {u : State} (onRing : s.track.length ≤ 128) (ring : u.track = (missAll n required s).track)
    (outstanding : u.cameras[n].outstanding = []) (settled : ∀ k : CameraId, k ≠ n → settledAt s k)
    (others : ∀ k : CameraId, k ≠ n → u.cameras[k] = s.cameras[k]) (young : ∀ g, youngAt u g) : checkLimits u = u := by
  have length : u.track.length = s.track.length := by
    rw [ring, missAll_rest]
  have slot {p : Nat} (onTrack : p < u.track.length) : u.slotAt p = (s.slotAt p).miss n required := by
    rw [length] at onTrack
    rw [slotAt_of_track ring, missAll_slotAt onRing (Nat.lt_of_lt_of_le onTrack onRing), if_pos onTrack]
  have deadline (k : CameraId) : deadlineCheck k u = u := by
    by_cases own : k = n
    · subst own
      by_cases enabled : u.cameras[k].cfg.enabled = true
      · rw [deadlineCheck_of_enabled enabled]
        refine forEach_of_fixed_mem fun p listed => deadlineAt_of_emptied outstanding fun awaits => ?_
        rw [slot (mem_surplus.1 listed).2] at awaits ⊢
        rw [Slot.miss_occupancy]
        by_contra stays
        exact Bool.false_ne_true ((Slot.miss_awaits_own stays).symm.trans awaits)
      · exact deadlineCheck_of_disabled (Bool.eq_false_iff.2 enabled)
    · refine deadlineCheck_of_settled fun p past onTrack => ?_
      rw [slot onTrack, Slot.miss_awaits_other own]
      rw [others k own] at past
      exact settled k own p past (length ▸ onTrack)
  unfold checkLimits
  rw [forEach_of_fixed deadline, forEach_of_fixed fun g => expireConfirm_of_young (young g)]

end

theorem length_of_settingsOk {s : State} (ok : settingsOk s = true) : s.track.length ≤ 128 := by
  unfold settingsOk trackSettingsOk at ok
  simp only [Bool.and_eq_true, decide_eq_true_eq] at ok
  obtain ⟨⟨⟨⟨⟨⟨⟨_, _, high⟩, _⟩, _⟩, _⟩, _⟩, _⟩, _⟩ := ok
  exact high

theorem mapCamera_mapCamera (n : CameraId) (f g : Camera → Camera) (s : State) :
    (s.mapCamera n f).mapCamera n g = s.mapCamera n fun c => g (f c) := by
  have own : (s.mapCamera n f).cameras[n] = f s.cameras[n] := by
    rw [mapCamera_get, if_pos rfl]
  have cameras : (s.mapCamera n f).cameras.set n (g (s.mapCamera n f).cameras[n]) = s.cameras.set n (g (f s.cameras[n])) := by
    rw [own]
    exact Vector.set_set ..
  exact congrArg (fun v => ({ s with cameras := v } : State)) cameras

section
variable {s : State} {n : CameraId} {new : CameraSettings}

theorem writeCamera_camera (k : CameraId) :
    (writeCamera n new s).cameras[k] =
      if k = n then { s.cameras[n] with cfg := new, staged := CameraStaged.absent } else s.cameras[k] := mapCamera_get ..

theorem writeCamera_keepsBut (n : CameraId) (new : CameraSettings) (s : State) : keepsBut [.cameras] s (writeCamera n new s) := by
  unfold writeCamera
  intro part other
  cases part <;> simp [Part.same] at other ⊢

theorem writeCamera_below (below : Below (· ≠ n) (fun _ => True) s) : Below (· ≠ n) (fun _ => True) (writeCamera n new s) where
  cameras k other := by
    rw [writeCamera_camera, if_neg other]
    exact below.cameras k other
  gates := below.gates
  start := below.start
  stop := below.stop
  counter := below.counter

theorem writeCamera_settled {k : CameraId} (other : k ≠ n) (settled : settledAt s k) : settledAt (writeCamera n new s) k :=
  settledAt_of_same (s := s) (t := writeCamera n new s) rfl (by rw [writeCamera_camera, if_neg other])
    (by rw [writeCamera_camera, if_neg other]) settled

theorem writeCamera_settled_own
    (settled : ∀ p : Nat, new.position + new.deadline ≤ p → p < s.track.length → (s.slotAt p).awaits n = false) :
    settledAt (writeCamera n new s) n := by
  unfold settledAt
  rw [writeCamera_camera, if_pos rfl]
  exact settled

theorem stageCamera_of_below (phase : new.phase < s.pitch.length) :
    stageCamera n new s =
      s.mapCamera n fun c => { c with staged :=
        { phase := some new.phase, mask := some new.mask, required := some new.required, deadline := some new.deadline } } := by
  unfold stageCamera
  dsimp only
  rw [Nat.min_eq_left (Nat.le_sub_one_of_lt phase)]
  exact if_neg (Nat.not_le.2 phase)

theorem stageCamera_of_above (phase : s.pitch.length ≤ new.phase) :
    stageCamera n new s =
      raiseEvent .phaseClamped n.val (detail new.phase) (detail (s.pitch.length - 1))
        (s.mapCamera n fun c => { c with staged :=
          { phase := some (s.pitch.length - 1), mask := some new.mask, required := some new.required
            deadline := some new.deadline } }) := by
  unfold stageCamera
  dsimp only
  rw [Nat.min_eq_right (Nat.le_trans (Nat.sub_le _ _) phase)]
  exact if_pos phase

/-- Written settings with a phase below P meet no clamp where the others are below P. -/
theorem clampAll_writeCamera (below : Below (· ≠ n) (fun _ => True) s) (phase : new.phase < s.pitch.length) :
    clampAll (writeCamera n new s) = writeCamera n new s := by
  rw [clampAll_of_camera (writeCamera_below below)]
  refine clampCamera_of_below ?_
  rw [writeCamera_camera, if_pos rfl]
  exact phase

theorem clampCamera_writeCamera_above (phase : s.pitch.length ≤ new.phase) :
    clampCamera n (writeCamera n new s) =
      raiseEvent .phaseClamped n.val (detail new.phase) (detail (s.pitch.length - 1))
        (writeCamera n { new with phase := s.pitch.length - 1 } s) := by
  have own : (writeCamera n new s).cameras[n] = { s.cameras[n] with cfg := new, staged := CameraStaged.absent } := by
    rw [writeCamera_camera, if_pos rfl]
  have again : (writeCamera n new s).mapCamera n (fun c => { c with cfg := { c.cfg with phase := s.pitch.length - 1 } }) =
      writeCamera n { new with phase := s.pitch.length - 1 } s := mapCamera_mapCamera ..
  unfold clampCamera
  rw [own]
  refine (if_pos phase).trans ?_
  exact congrArg (raiseClamped n.val new.phase) again

end

/-! ## What a change of the camera's place does (R25) -/

section
variable {u : State} {n : CameraId} {f : Camera → Camera}

theorem checkLimits_mapCamera (cfg : ∀ c, (f c).cfg = c.cfg) (settled : ∀ k, settledAt u k) (young : ∀ g, youngAt u g) :
    checkLimits (u.mapCamera n f) = u.mapCamera n f := by
  have same (k : CameraId) : (u.mapCamera n f).cameras[k].cfg = u.cameras[k].cfg := by
    rw [mapCamera_get]
    split
    · next own => rw [cfg, own]
    · rfl
  refine checkLimits_of_calm (fun k => settledAt_of_same (s := u) (t := u.mapCamera n f) rfl ?_ ?_ (settled k)) young
  · rw [same]
  · rw [same]

variable {required : Bool}

theorem missAll_cameras : (missAll n required u).cameras = u.cameras := (missAll_frame n required u).2.2.1

theorem missAll_mapCamera_cameras : ((missAll n required u).mapCamera n f).cameras = u.cameras.set n (f u.cameras[n]) := by
  show (missAll n required u).cameras.set n (f (missAll n required u).cameras[n]) = _
  simp only [missAll_cameras]

theorem missAll_mapCamera_keepsBut : keepsBut [.track, .cameras] u ((missAll n required u).mapCamera n f) := by
  intro part other
  cases part <;> simp [Part.same, missAll_frame] at other ⊢

theorem missAll_track :
    (missAll n required u).track.head = u.track.head ∧ (missAll n required u).track.nextTicket = u.track.nextTicket
      ∧ (missAll n required u).track.length = u.track.length ∧ (missAll n required u).track.tallies = u.track.tallies := by
  rw [missAll_rest]
  exact ⟨rfl, rfl, rfl, rfl⟩

/-- An enabled camera that is disabled or moved: its slots MISSING, its lists empty, and no limit past. -/
theorem checkLimits_missAll (onRing : u.track.length ≤ 128) (outstanding : ∀ c, (f c).outstanding = [])
    (settled : ∀ k : CameraId, k ≠ n → settledAt u k) (young : ∀ g, youngAt u g) :
    checkLimits ((missAll n required u).mapCamera n f) = (missAll n required u).mapCamera n f := by
  refine checkLimits_of_emptied (n := n) (s := u) (required := required) onRing rfl ?_ settled (fun k other => ?_) fun g => ?_
  · rw [mapCamera_get, if_pos rfl]
    exact outstanding _
  · rw [mapCamera_get, if_neg other]
    exact congrArg (fun v : Vector Camera 6 => v[k]) missAll_cameras
  · unfold youngAt
    rw [show ((missAll n required u).mapCamera n f).gates = u.gates from missAll_mapCamera_keepsBut .gates (by decide)]
    exact young g

end

section
variable {s : State} {tag : Half} {n : CameraId} {new : CameraSettings}

section
variable (stopped : s.pins.run = false) (below : Below (· ≠ n) (fun _ => True) s)
  (settled : ∀ k : CameraId, k ≠ n → settledAt s k) (young : ∀ g, youngAt s g) (ok : settingsOk (writeCamera n new s) = true)
include stopped below settled young ok

section
variable (own : ∀ p : Nat, new.position + new.deadline ≤ p → p < s.track.length → (s.slotAt p).awaits n = false)
include own

theorem configureCamera_of_left (enabled : new.enabled = s.cameras[n].cfg.enabled)
    (position : new.position = s.cameras[n].cfg.position) :
    configureCamera tag n new s = accept 0x11 tag [] (clampCamera n (writeCamera n new s)) := by
  have calm (k : CameraId) : settledAt (writeCamera n new s) k := by
    by_cases same : k = n
    · rw [same]
      exact writeCamera_settled_own own
    · exact writeCamera_settled same (settled k same)
  rw [configureCamera_of_stopped stopped (fun layout => layout.elim (absurd enabled) (absurd position)) ok,
    reconfigureCamera_of_same enabled position, clampAll_of_camera (writeCamera_below below), checkLimits_clampCamera calm young]

theorem configureCamera_of_enabling (off : s.cameras[n].cfg.enabled = false) (on : new.enabled = true)
    (phase : new.phase < s.pitch.length) (unstaged : othersUnstaged n s) :
    configureCamera tag n new s = accept 0x11 tag []
      ((writeCamera n new s).mapCamera n fun c =>
        { c.emptyLists with
          state := .waiting, trigger := 0, silence := 0, receiver := .idle, bits := [], strayCount := 0 }) := by
  have calm (k : CameraId) : settledAt (writeCamera n new s) k := by
    by_cases same : k = n
    · rw [same]
      exact writeCamera_settled_own own
    · exact writeCamera_settled same (settled k same)
  rw [configureCamera_of_stopped stopped (fun _ => unstaged) ok, reconfigureCamera_of_enabling off on,
    clampAll_writeCamera below phase]
  exact congrArg (accept 0x11 tag []) (checkLimits_mapCamera (f := fun c => { c.emptyLists with
    state := .waiting, trigger := 0, silence := 0, receiver := .idle, bits := [], strayCount := 0 }) (fun _ => rfl) calm young)

end

theorem configureCamera_of_change (on : s.cameras[n].cfg.enabled = true)
    (change : new.enabled = false ∨ new.position ≠ s.cameras[n].cfg.position) (phase : new.phase < s.pitch.length)
    (unstaged : othersUnstaged n s) :
    configureCamera tag n new s = accept 0x11 tag []
      ((missAll n (if new.enabled = true then new.required else s.cameras[n].cfg.required) (writeCamera n new s)).mapCamera n
        (Camera.released new.enabled)) := by
  have emptied (c : Camera) : (c.released new.enabled).outstanding = [] := by
    unfold Camera.released
    split <;> rfl
  rw [configureCamera_of_stopped stopped (fun _ => unstaged) ok, reconfigureCamera_of_change on change,
    clampAll_writeCamera below phase, checkLimits_missAll (length_of_settingsOk ok) emptied
      (fun k other => writeCamera_settled other (settled k other)) young]

end

end

/-- Settles O48: the refusals, the staging, and the written settings with the camera left, enabled, disabled or moved. -/
theorem cameraConfigStagesOrActs : Obligations.CameraConfigStagesOrActs := by
  intro s tag n position deadline phase mask required idle low high classes place old flag request settings withSettings
    unstagedOthers calmOthers ownCalm
  have rule (enabled : Bool) (t : State) (is : configureCamera tag n (settings enabled) s = t) :
      exec (request enabled) s = .next t :=
    (hostRequest_of_idle idle (request enabled) _).trans
      (congrArg Host.Outcome.next ((cameraConfig_of_range low high classes).trans is))
  have below (calm : calmOthers) : Below (· ≠ n) (fun _ => True) s :=
    ⟨fun k other => (calm.1 k other).1, fun g _ => (calm.2.1 g).1, calm.2.2.1, calm.2.2.2.1, calm.2.2.2.2⟩
  have settled (calm : calmOthers) (k : CameraId) (other : k ≠ n) : settledAt s k := (calm.1 k other).2
  have young (calm : calmOthers) (g : GateId) : youngAt s g := (calm.2.1 g).2
  refine ⟨fun enabled run layout => rule enabled _ (configureCamera_of_running run layout),
    fun enabled allowed unstaged fails => rule enabled _ ((configureCamera_of_allowed allowed fun _ => unstaged).trans ?_),
    fun run same ok => ?_, fun stopped same calm own ok => ?_, fun stopped off phaseIn unstaged calm own ok => ?_,
    fun enabled stopped on change phaseIn unstaged calm ok => ?_⟩
  · exact if_neg (Bool.eq_false_iff.1 fails)
  · intro staged
    have staging := rule _ _ (configureCamera_of_staging run rfl same ok)
    exact ⟨fun under => staging.trans (congrArg (fun t => Host.Outcome.next (accept 0x11 tag [] t)) (stageCamera_of_below under)),
      fun above => staging.trans (congrArg (fun t => Host.Outcome.next (accept 0x11 tag [] t)) (stageCamera_of_above above))⟩
  · intro active
    have left := rule _ _ (configureCamera_of_left stopped (below calm) (settled calm) (young calm) ok own rfl same)
    refine ⟨fun under => left.trans (congrArg (fun t => Host.Outcome.next (accept 0x11 tag [] t)) (clampCamera_of_below ?_)),
      fun above => left.trans (congrArg (fun t => Host.Outcome.next (accept 0x11 tag [] t)) (clampCamera_writeCamera_above above))⟩
    rw [writeCamera_camera, if_pos rfl]
    exact under
  · exact (rule true _ (configureCamera_of_enabling stopped (below calm) (settled calm) (young calm) ok own off rfl phaseIn
      unstaged)).trans (congrArg (fun t => Host.Outcome.next (accept 0x11 tag [] t)) (mapCamera_mapCamera ..))
  · refine ⟨_, rule enabled _ (configureCamera_of_change stopped (below calm) (settled calm) (young calm) ok on change phaseIn
      unstaged), ?_, fun p small => ?_, ?_⟩
    · have own : (writeCamera n (settings enabled) s).cameras[n] =
          { s.cameras[n] with cfg := settings enabled, staged := CameraStaged.absent } := by
        rw [writeCamera_camera, if_pos rfl]
      rw [missAll_mapCamera_cameras, own]
      refine (Vector.set_set ..).trans (congrArg (s.cameras.set n) ?_)
      cases enabled <;> rfl
    · exact missAll_slotAt (s := writeCamera n (settings enabled) s) (length_of_settingsOk ok) small
    · obtain ⟨head, nextTicket, length, tallies⟩ := missAll_track (u := writeCamera n (settings enabled) s) (n := n)
        (required := if enabled = true then required else old.cfg.required)
      exact ⟨head, nextTicket, length, tallies, keepsBut_trans
        (keepsBut_mono (many := [.track, .cameras]) (writeCamera_keepsBut n (settings enabled) s) (by decide)) missAll_mapCamera_keepsBut⟩

end Sys2Proof.Machine
end


section
/-! GATE_CONFIG and FILLER_CONFIG (O49): settings staged or made active, and the rejects that a change of the gate drops. -/

set_option Elab.async false

namespace Sys2Proof.Machine

/-! ## Rejects dropped one after another (R46) -/

theorem unconfirm_reconfigured (g : GateId) (k : Half) (s : State) :
    unconfirm g .reconfigured k s =
      raiseEvent .rejectUnconfirmed g.val k 3 (editSlot k (fun sl => { sl with reject := .unconfirmed }) s) := rfl

theorem unconfirm_reconfigured_keepsBut (g : GateId) (k : Half) (s : State) :
    keepsBut [.track, .events] s (unconfirm g .reconfigured k s) := by
  have marked : keepsBut [.track] s (editSlot k (fun sl => { sl with reject := .unconfirmed }) s) := by
    unfold editSlot
    split
    · intro part other
      cases part <;> simp [Part.same] at other ⊢
    · exact keepsBut_refl _ s
  rw [unconfirm_reconfigured]
  exact keepsBut_trans (keepsBut_mono marked (by decide)) (keepsBut_mono (raiseEvent_keepsBut _ _ _ _ _) (by decide))

section
variable {s : State} {g : GateId} {k : Half}

theorem unconfirm_reconfigured_of_missing (gone : s.positionOf k = none) :
    (unconfirm g .reconfigured k s).track = s.track := by
  rw [unconfirm_track]
  unfold editSlot
  rw [gone]

/-- A dropped reject keeps the track's shape. -/
theorem unconfirm_reconfigured_rest :
    (unconfirm g .reconfigured k s).track.head = s.track.head
      ∧ (unconfirm g .reconfigured k s).track.nextTicket = s.track.nextTicket
      ∧ (unconfirm g .reconfigured k s).track.length = s.track.length
      ∧ (unconfirm g .reconfigured k s).track.tallies = s.track.tallies := by
  rw [unconfirm_track]
  unfold editSlot
  split <;> exact ⟨rfl, rfl, rfl, rfl⟩

/-- A dropped reject marks the slot on the track that carries its ticket (R55). -/
theorem unconfirm_reconfigured_slotAt (consecutive : ticketsConsecutive s) {p : Nat} (onTrack : p < s.track.length) :
    (unconfirm g .reconfigured k s).slotAt p =
      if (s.slotAt p).ticket = k then { s.slotAt p with reject := .unconfirmed } else s.slotAt p := by
  rw [slotAt_of_track (unconfirm_track g .reconfigured k s)]
  by_cases own : (s.slotAt p).ticket = k
  · rw [if_pos own, editSlot_of_positionOf _ (own ▸ positionOf_slotAt consecutive onTrack)]
    exact (congrArg (fun t : State => t.slotAt p) (editSlotAt_eq rfl)).trans (slotAt_putSlot_same ..)
  · rw [if_neg own]
    unfold editSlot
    split
    · next q place =>
      have carries : (s.slotAt q).ticket = k := beq_iff_eq.1 (List.find?_some place :)
      have inTrack : q < s.track.length := List.mem_range.1 (List.mem_of_find?_eq_some place)
      have small := consecutive.2.1
      rw [editSlotAt_slotAt (f := fun sl => { sl with reject := .unconfirmed }) (fun _ => rfl) (Nat.lt_of_lt_of_le inTrack small) (Nat.lt_of_lt_of_le onTrack small), if_neg]
      rintro rfl
      exact own carries
    · rfl

theorem unconfirm_reconfigured_consecutive (consecutive : ticketsConsecutive s) :
    ticketsConsecutive (unconfirm g .reconfigured k s) := by
  obtain ⟨-, nextTicket, length, -⟩ := unconfirm_reconfigured_rest (s := s) (g := g) (k := k)
  obtain ⟨low, high, tickets⟩ := consecutive
  refine ⟨length.symm ▸ low, length.symm ▸ high, fun p onTrack => ?_⟩
  rw [length] at onTrack
  rw [nextTicket, unconfirm_reconfigured_slotAt ⟨low, high, tickets⟩ onTrack, ← tickets p onTrack]
  split <;> rfl

end

section
variable {g : GateId} {ks : List Half} {s : State}

theorem dropAll_keepsBut : keepsBut [.track, .events] s (forEach ks (unconfirm g .reconfigured) s) :=
  forEach_invariant (keepsBut _ s) _ _ (fun k t kept => keepsBut_trans kept (unconfirm_reconfigured_keepsBut g k t)) s
    (keepsBut_refl _ s)

theorem dropAll_rest :
    (forEach ks (unconfirm g .reconfigured) s).track.head = s.track.head
      ∧ (forEach ks (unconfirm g .reconfigured) s).track.nextTicket = s.track.nextTicket
      ∧ (forEach ks (unconfirm g .reconfigured) s).track.length = s.track.length
      ∧ (forEach ks (unconfirm g .reconfigured) s).track.tallies = s.track.tallies := by
  induction ks generalizing s with
  | nil => exact ⟨rfl, rfl, rfl, rfl⟩
  | cons k ks ih =>
    obtain ⟨head, nextTicket, length, tallies⟩ := unconfirm_reconfigured_rest (s := s) (g := g) (k := k)
    obtain ⟨heads, nextTickets, lengths, allTallies⟩ := ih (s := unconfirm g .reconfigured k s)
    exact ⟨heads.trans head, nextTickets.trans nextTicket, lengths.trans length, allTallies.trans tallies⟩

theorem dropAll_slotAt (consecutive : ticketsConsecutive s) {p : Nat} (onTrack : p < s.track.length) :
    (forEach ks (unconfirm g .reconfigured) s).slotAt p =
      if (s.slotAt p).ticket ∈ ks then { s.slotAt p with reject := .unconfirmed } else s.slotAt p := by
  induction ks generalizing s with
  | nil => exact (if_neg List.not_mem_nil).symm
  | cons k ks ih =>
    have length : (unconfirm g .reconfigured k s).track.length = s.track.length := unconfirm_reconfigured_rest.2.2.1
    rw [forEach_cons, ih (unconfirm_reconfigured_consecutive consecutive) (length ▸ onTrack),
      unconfirm_reconfigured_slotAt consecutive onTrack]
    by_cases own : (s.slotAt p).ticket = k
    · rw [if_pos own, if_pos (List.mem_cons.2 (.inl own))]
      split <;> rfl
    · simp only [own, if_false, List.mem_cons, false_or]

/-- The dropped rejects raise REJECT_UNCONFIRMED one after another while the queue has room (R55). -/
theorem dropAll_events {k : Nat} {ticket : Half} (names : ks[k]? = some ticket) (room : s.events.queue.length + k < 64) :
    (forEach ks (unconfirm g .reconfigured) s).events.queue[s.events.queue.length + k]? = some
      { s.recordOf .rejectUnconfirmed g.val ticket 3 with sequence := s.events.nextSequence + BitVec.ofNat 16 k } := by
  induction ks generalizing s k with
  | nil => cases names
  | cons first ks ih =>
    have events : (editSlot first (fun sl => { sl with reject := .unconfirmed }) s).events = s.events := by
      unfold editSlot
      split <;> rfl
    have time : (editSlot first (fun sl => { sl with reject := .unconfirmed }) s).time = s.time := by
      unfold editSlot
      split <;> rfl
    have entered : (unconfirm g .reconfigured first s).events =
        { s.events with
          queue := s.events.queue ++ [s.recordOf .rejectUnconfirmed g.val first 3]
          nextSequence := s.events.nextSequence + 1
          account := { s.events.account with raised := s.events.account.raised + 1 } } := by
      rw [unconfirm_reconfigured, raiseEvent_events_of_room (by rw [events]; omega)]
      simp only [State.recordOf, events, time]
    have length : (unconfirm g .reconfigured first s).events.queue.length = s.events.queue.length + 1 := by
      rw [entered]
      exact List.length_append
    rw [forEach_cons]
    cases k with
    | zero =>
      obtain rfl : first = ticket := Option.some.inj names
      have kept : s.events.queue ++ [s.recordOf .rejectUnconfirmed g.val first 3] <+:
          (forEach ks (unconfirm g .reconfigured) (unconfirm g .reconfigured first s)).events.queue :=
        forEach_appends ks (unconfirm_appends g .reconfigured) (by rw [entered])
      obtain ⟨later, is⟩ := kept
      rw [← is, List.getElem?_append_left (by simp)]
      exact List.getElem?_concat_length.trans (by simp [State.recordOf])
    | succ k =>
      have later := ih (s := unconfirm g .reconfigured first s) (k := k) names (by omega)
      have stamps : (unconfirm g .reconfigured first s).time = s.time :=
        (unconfirm_reconfigured_keepsBut g first s) .time (by decide)
      rw [length, Nat.add_right_comm, Nat.add_assoc, entered] at later
      rw [later]
      unfold State.recordOf
      rw [stamps, BitVec.add_assoc, Nat.add_comm k 1, BitVec.ofNat_add]
      rfl

end

/-! ## GATE_CONFIG (R45, R46) -/

section
variable {s : State} {tag : Half} {g : GateId} {new : GateSettings}

/-- No value is staged but at the gate. -/
def othersUnstagedGate (g : GateId) (s : State) : Prop :=
  (∀ k : CameraId, s.cameras[k].staged = CameraStaged.absent) ∧ ∀ k : GateId, k ≠ g → s.gates[k].staged = GateStaged.absent

theorem writeGate_gate (k : GateId) :
    (writeGate g new s).gates[k] =
      if k = g then { s.gates[g] with cfg := new, staged := GateStaged.absent } else s.gates[k] := mapGate_get ..

/-- Written settings replace the gate's own, made active or not. -/
theorem writeGate_layoutBase {layout : Bool} (unstaged : layout = true → othersUnstagedGate g s) :
    writeGate g new (layoutBase layout s) = writeGate g new s := by
  cases layout with
  | false => rfl
  | true =>
    obtain ⟨cameras, gates⟩ := unstaged rfl
    have sameCameras : (Vector.ofFn fun n : CameraId => s.cameras[n].activateStaged) = s.cameras := by
      rw [show (fun n : CameraId => s.cameras[n].activateStaged) = fun n => s.cameras[n] from
        funext fun n => Camera.activateStaged_of_absent (cameras n), ofFn_getElem]
    have sameGates : (writeGate g new (activateStaged s)).gates = (writeGate g new s).gates := by
      have each (c : GateId) : (writeGate g new (activateStaged s)).gates[c] = (writeGate g new s).gates[c] := by
        have staged (d : GateId) : (activateStaged s).gates[d] = s.gates[d].activateStaged := activateStaged_gate s d
        rw [writeGate_gate, writeGate_gate]
        by_cases own : c = g
        · rw [if_pos own, if_pos own, staged]
          rfl
        · rw [if_neg own, if_neg own, staged, Gate.activateStaged_of_absent (gates c own)]
      exact Vector.ext fun k bound => each ⟨k, bound⟩
    show writeGate g new (activateStaged s) = _
    have plain : writeGate g new (activateStaged s) = { s with
        gates := (writeGate g new (activateStaged s)).gates
        cameras := Vector.ofFn fun n : CameraId => s.cameras[n].activateStaged } := by
      conv_lhs => rw [activateStaged_eq]
      conv_rhs => rw [activateStaged_eq]
      rfl
    rw [plain, sameGates, sameCameras]
    rfl

/-- The checks of written settings: R9's, and gate A's window against gate B (R45). -/
def gateChecked (g : GateId) (new : GateSettings) (s : State) : Prop :=
  settingsOk (writeGate g new s) = true ∧ gateWindowOk (writeGate g new s) = true

theorem configureGate_of_running (run : s.pins.run = true)
    (layout : new.enabled ≠ s.gates[g].cfg.enabled ∨ new.position ≠ s.gates[g].cfg.position) :
    configureGate tag g new s = refuse 0x12 tag .running s := by
  unfold configureGate
  dsimp only
  rw [decide_eq_true layout, run]
  exact if_pos rfl

theorem configureGate_of_allowed
    (allowed : s.pins.run = false ∨ (new.enabled = s.gates[g].cfg.enabled ∧ new.position = s.gates[g].cfg.position))
    (unstaged : new.enabled ≠ s.gates[g].cfg.enabled ∨ new.position ≠ s.gates[g].cfg.position → othersUnstagedGate g s) :
    configureGate tag g new s =
      if (settingsOk (writeGate g new s) && gateWindowOk (writeGate g new s)) = true then
        accept 0x12 tag []
          (if s.pins.run = true then stageGate g new s
          else checkLimits (reconfigureGate g s.gates[g].cfg new (clampAll (writeGate g new s))))
      else refuse 0x12 tag .badField s := by
  unfold configureGate
  dsimp only
  rw [writeGate_layoutBase fun layout => unstaged (of_decide_eq_true layout)]
  refine if_neg ?_
  rw [Bool.and_eq_true, decide_eq_true_eq]
  rintro ⟨run, layout⟩
  rcases allowed with stopped | ⟨enabled, position⟩
  · exact Bool.false_ne_true (stopped.symm.trans run)
  · exact layout.elim (fun h => h enabled) fun h => h position

theorem configureGate_of_unchecked
    (allowed : s.pins.run = false ∨ (new.enabled = s.gates[g].cfg.enabled ∧ new.position = s.gates[g].cfg.position))
    (unstaged : othersUnstagedGate g s) (fails : ¬ gateChecked g new s) :
    configureGate tag g new s = refuse 0x12 tag .badField s := by
  rw [configureGate_of_allowed allowed fun _ => unstaged, if_neg]
  rw [Bool.and_eq_true]
  exact fails

/-- Accepted settings with RUN low: written, clamped, and the gate's change and the limits judged. -/
theorem configureGate_of_stopped (stopped : s.pins.run = false)
    (unstaged : new.enabled ≠ s.gates[g].cfg.enabled ∨ new.position ≠ s.gates[g].cfg.position → othersUnstagedGate g s)
    (checked : gateChecked g new s) :
    configureGate tag g new s =
      accept 0x12 tag [] (checkLimits (reconfigureGate g s.gates[g].cfg new (clampAll (writeGate g new s)))) := by
  rw [configureGate_of_allowed (.inl stopped) unstaged, if_pos (Bool.and_eq_true _ _ ▸ checked), stopped, if_neg Bool.false_ne_true]

/-- Accepted settings with RUN high are staged. -/
theorem configureGate_of_staging (run : s.pins.run = true) (enabled : new.enabled = s.gates[g].cfg.enabled)
    (position : new.position = s.gates[g].cfg.position) (checked : gateChecked g new s) :
    configureGate tag g new s = accept 0x12 tag [] (stageGate g new s) := by
  rw [configureGate_of_allowed (.inr ⟨enabled, position⟩) fun layout => layout.elim (absurd enabled) (absurd position),
    if_pos (Bool.and_eq_true _ _ ▸ checked), if_pos run]

theorem gateConfig_of_range {enabled : Bool} {position width window : Byte} {phase mask : Half} (widthLow : 1 ≤ width.toNat)
    (widthHigh : width.toNat ≤ 250) (windowLow : 1 ≤ window.toNat) (windowHigh : window.toNat ≤ 8) :
    gateConfig tag (BitVec.ofNat 8 g.val) (if enabled = true then 1 else 0) position phase width mask window s =
      configureGate tag g
        { enabled := enabled, position := position.toNat, phase := phase.toNat, width := width.toNat, mask := mask
          window := window.toNat } s := by
  unfold gateConfig
  rw [unitField_ofNat (by decide), flagField_of_bool]
  refine if_neg ?_
  omega

theorem stageGate_of_below (phase : new.phase < s.pitch.length) :
    stageGate g new s =
      s.mapGate g fun gt => { gt with staged :=
        { phase := some new.phase, width := some new.width, mask := some new.mask, window := some new.window } } := by
  unfold stageGate
  dsimp only
  rw [Nat.min_eq_left (Nat.le_sub_one_of_lt phase)]
  exact if_neg (Nat.not_le.2 phase)

theorem stageGate_of_above (phase : s.pitch.length ≤ new.phase) :
    stageGate g new s =
      raiseEvent .phaseClamped (6 + g.val) (detail new.phase) (detail (s.pitch.length - 1))
        (s.mapGate g fun gt => { gt with staged :=
          { phase := some (s.pitch.length - 1), width := some new.width, mask := some new.mask
            window := some new.window } }) := by
  unfold stageGate
  dsimp only
  rw [Nat.min_eq_right (Nat.le_trans (Nat.sub_le _ _) phase)]
  exact if_pos phase

theorem writeGate_below (below : Below (fun _ => True) (· ≠ g) s) : Below (fun _ => True) (· ≠ g) (writeGate g new s) where
  cameras := below.cameras
  gates k other := by
    rw [writeGate_gate, if_neg other]
    exact below.gates k other
  start := below.start
  stop := below.stop
  counter := below.counter

theorem clampAll_writeGate (below : Below (fun _ => True) (· ≠ g) s) (phase : new.phase < s.pitch.length) :
    clampAll (writeGate g new s) = writeGate g new s := by
  rw [clampAll_of_gate (writeGate_below below)]
  refine clampGate_of_below ?_
  rw [writeGate_gate, if_pos rfl]
  exact phase

theorem reconfigureGate_of_same {old : GateSettings} (enabled : new.enabled = old.enabled) (position : new.position = old.position) :
    reconfigureGate g old new s = s := by
  unfold reconfigureGate
  rw [enabled, position]
  cases old.enabled <;> simp

theorem reconfigureGate_of_disabled {old : GateSettings} (off : old.enabled = false) : reconfigureGate g old new s = s := by
  unfold reconfigureGate
  rw [off]
  rfl

theorem reconfigureGate_of_change {old : GateSettings} (on : old.enabled = true)
    (change : new.enabled = false ∨ new.position ≠ old.position) :
    reconfigureGate g old new s =
      (dropRejects g s).mapGate g fun gt => { gt with output := if new.enabled = true then gt.output else none } := by
  unfold reconfigureGate
  by_cases stays : new.enabled = true
  · have moved : old.position ≠ new.position := (change.resolve_left fun off => Bool.false_ne_true (off.symm.trans stays)).symm
    rw [on, stays, decide_eq_true moved]
    refine Eq.trans ?_ (congrArg (fun v => ({ dropRejects g s with gates := v } : State)) (Vector.set_getElem_self ..)).symm
    rfl
  · rw [on, Bool.eq_false_iff.2 stays]
    rfl

/-- The tickets of a gate's confirm entries and of its pending fire, in the order in which they leave (R46). -/
def Gate.rejects (gt : Gate) : List Half := gt.confirm.map ConfirmEntry.ticket ++ gt.pendingFire.toList

/-- The state of a gate's change before its rejects are judged: settings written, lists empty. -/
def emptiedGate (g : GateId) (new : GateSettings) (s : State) : State :=
  (writeGate g new s).mapGate g fun gt => { gt with confirm := [], pendingFire := none }

theorem emptiedGate_eq :
    emptiedGate g new s =
      { s with
        gates := s.gates.set g
          { s.gates[g] with cfg := new, staged := GateStaged.absent, confirm := [], pendingFire := none } } :=
  mapGate_mapGate ..

theorem dropRejects_writeGate :
    dropRejects g (writeGate g new s) = forEach s.gates[g].rejects (unconfirm g .reconfigured) (emptiedGate g new s) := by
  have own : (writeGate g new s).gates[g] = { s.gates[g] with cfg := new, staged := GateStaged.absent } := by
    rw [writeGate_gate, if_pos rfl]
  unfold dropRejects
  dsimp only
  rw [own]
  rfl

/-- The gate's change with its rejects dropped, and the output of a disabled gate de-energised (R46). -/
def droppedGate (g : GateId) (new : GateSettings) (s : State) : State :=
  (dropRejects g (writeGate g new s)).mapGate g fun gt => { gt with output := if new.enabled = true then gt.output else none }

theorem droppedGate_told :
    (droppedGate g new s).track = (forEach s.gates[g].rejects (unconfirm g .reconfigured) (emptiedGate g new s)).track
      ∧ (droppedGate g new s).events = (forEach s.gates[g].rejects (unconfirm g .reconfigured) (emptiedGate g new s)).events := by
  rw [← dropRejects_writeGate]
  exact ⟨rfl, rfl⟩

theorem droppedGate_gates :
    (droppedGate g new s).gates = s.gates.set g
      { s.gates[g] with
        cfg := new, staged := GateStaged.absent, confirm := [], pendingFire := none
        output := if new.enabled = true then s.gates[g].output else none } := by
  have dropped : (dropRejects g (writeGate g new s)).gates = (emptiedGate g new s).gates := by
    rw [dropRejects_writeGate]
    exact dropAll_keepsBut .gates (by decide)
  have own : (emptiedGate g new s).gates[g] =
      { s.gates[g] with cfg := new, staged := GateStaged.absent, confirm := [], pendingFire := none } := by
    rw [emptiedGate_eq, set_get, if_pos rfl]
  unfold droppedGate State.mapGate updateAt
  dsimp only
  simp only [dropped, own]
  rw [emptiedGate_eq]
  exact Vector.set_set ..

theorem droppedGate_keepsBut : keepsBut [.track, .gates, .events] s (droppedGate g new s) := by
  have emptied : keepsBut [.gates] s (emptiedGate g new s) := by
    rw [emptiedGate_eq]
    intro part other
    cases part <;> simp [Part.same] at other ⊢
  have dropped : keepsBut [.track, .events] (emptiedGate g new s) (dropRejects g (writeGate g new s)) := by
    rw [dropRejects_writeGate]
    exact dropAll_keepsBut
  have last : keepsBut [.gates] (dropRejects g (writeGate g new s)) (droppedGate g new s) := by
    unfold droppedGate
    intro part other
    cases part <;> simp [Part.same] at other ⊢
  exact keepsBut_trans (keepsBut_trans (keepsBut_mono emptied (by decide)) (keepsBut_mono dropped (by decide)))
    (keepsBut_mono last (by decide))

theorem droppedGate_track :
    (droppedGate g new s).track.head = s.track.head ∧ (droppedGate g new s).track.nextTicket = s.track.nextTicket
      ∧ (droppedGate g new s).track.length = s.track.length ∧ (droppedGate g new s).track.tallies = s.track.tallies := by
  rw [droppedGate_told.1]
  exact dropAll_rest (s := emptiedGate g new s)

theorem droppedGate_slotAt (consecutive : ticketsConsecutive s) {p : Nat} (onTrack : p < s.track.length) :
    (droppedGate g new s).slotAt p =
      if (s.slotAt p).ticket ∈ s.gates[g].rejects then { s.slotAt p with reject := .unconfirmed } else s.slotAt p := by
  rw [slotAt_of_track droppedGate_told.1]
  exact dropAll_slotAt (s := emptiedGate g new s) consecutive onTrack

theorem droppedGate_events {k : Nat} {ticket : Half} (names : s.gates[g].rejects[k]? = some ticket)
    (room : s.events.queue.length + k < 64) :
    (droppedGate g new s).events.queue[s.events.queue.length + k]? = some
      { s.recordOf .rejectUnconfirmed g.val ticket 3 with sequence := s.events.nextSequence + BitVec.ofNat 16 k } := by
  rw [droppedGate_told.2]
  exact dropAll_events (s := emptiedGate g new s) names room

section
variable (stopped : s.pins.run = false) (below : Below (fun _ => True) (· ≠ g) s) (phase : new.phase < s.pitch.length)
  (settled : ∀ k : CameraId, settledAt s k) (young : ∀ k : GateId, k ≠ g → youngAt s k) (checked : gateChecked g new s)
include stopped below phase settled young checked

theorem configureGate_of_left
    (left : (new.enabled = s.gates[g].cfg.enabled ∧ new.position = s.gates[g].cfg.position)
      ∨ (s.gates[g].cfg.enabled = false ∧ othersUnstagedGate g s))
    (own : ∀ e ∈ s.gates[g].confirm, e.age < new.window) :
    configureGate tag g new s = accept 0x12 tag [] (writeGate g new s) := by
  have calm (k : GateId) : youngAt (writeGate g new s) k := by
    unfold youngAt
    rw [writeGate_gate]
    by_cases same : k = g
    · rw [if_pos same]
      exact own
    · rw [if_neg same]
      exact young k same
  have unstaged (layout : new.enabled ≠ s.gates[g].cfg.enabled ∨ new.position ≠ s.gates[g].cfg.position) :
      othersUnstagedGate g s := by
    rcases left with ⟨enabled, position⟩ | ⟨-, unstaged⟩
    · exact layout.elim (absurd enabled) (absurd position)
    · exact unstaged
  have kept : reconfigureGate g s.gates[g].cfg new (writeGate g new s) = writeGate g new s := by
    rcases left with ⟨enabled, position⟩ | ⟨off, -⟩
    · exact reconfigureGate_of_same enabled position
    · exact reconfigureGate_of_disabled off
  rw [configureGate_of_stopped stopped unstaged checked, clampAll_writeGate below phase, kept]
  exact congrArg (accept 0x12 tag []) (checkLimits_of_calm settled calm)

theorem configureGate_of_change (consecutive : ticketsConsecutive s) (on : s.gates[g].cfg.enabled = true)
    (change : new.enabled = false ∨ new.position ≠ s.gates[g].cfg.position) (unstaged : othersUnstagedGate g s) :
    configureGate tag g new s = accept 0x12 tag [] (droppedGate g new s) := by
  have calm (k : GateId) : youngAt (droppedGate g new s) k := by
    unfold youngAt
    rw [droppedGate_gates, set_get]
    by_cases same : k = g
    · rw [if_pos same]
      exact fun e none => absurd none List.not_mem_nil
    · rw [if_neg same]
      exact young k same
  have cameras : (droppedGate g new s).cameras = s.cameras := droppedGate_keepsBut .cameras (by decide)
  have waiting (k : CameraId) : settledAt (droppedGate g new s) k := by
    intro p past onTrack
    rw [cameras] at past
    rw [droppedGate_track.2.2.1] at onTrack
    rw [droppedGate_slotAt consecutive onTrack]
    have awaits := settled k p past onTrack
    split
    · exact awaits
    · exact awaits
  rw [configureGate_of_stopped stopped (fun _ => unstaged) checked, clampAll_writeGate below phase,
    reconfigureGate_of_change on change]
  exact congrArg (accept 0x12 tag []) (checkLimits_of_calm waiting calm)

end

end

/-! ## FILLER_CONFIG (R71) -/

section
variable {s : State} {tag : Half} {entry exit approach : Byte}

/-- The values that a FILLER_CONFIG carries. -/
def carriedFill (entry exit approach : Byte) : FillSection := { entry := entry.toNat, exit := exit.toNat, approach := approach.toNat }

theorem anyJob_iff : anyJob s = true ↔ ∃ r : RobotId, s.robots[r].job ≠ none := by
  unfold anyJob
  simp only [List.any_eq_true, Option.isSome_iff_ne_none]
  exact ⟨fun ⟨r, _, holds⟩ => ⟨r, holds⟩, fun ⟨r, holds⟩ => ⟨r, mem_allUnits r, holds⟩⟩

theorem fillerConfig_of_same (same : carriedFill entry exit approach = s.fill) (ok : settingsOk s = true) :
    fillerConfig tag entry exit approach s = accept 0x13 tag [] s := by
  unfold carriedFill at same
  unfold fillerConfig layoutBase
  dsimp only
  rw [same, decide_eq_false (not_not.2 rfl), Bool.and_false, Bool.false_and, if_neg Bool.false_ne_true, if_neg Bool.false_ne_true,
    if_neg Bool.false_ne_true, if_neg Bool.false_ne_true]
  exact if_pos ok

variable (differs : carriedFill entry exit approach ≠ s.fill)
include differs

theorem fillerConfig_of_running (run : s.pins.run = true) :
    fillerConfig tag entry exit approach s = refuse 0x13 tag .running s := by
  unfold carriedFill at differs
  unfold fillerConfig
  dsimp only
  rw [decide_eq_true differs, run]
  exact if_pos rfl

theorem fillerConfig_of_filling (stopped : s.pins.run = false) {r : RobotId} (job : s.robots[r].job ≠ none) :
    fillerConfig tag entry exit approach s = refuse 0x13 tag .state s := by
  unfold carriedFill at differs
  unfold fillerConfig
  dsimp only
  rw [decide_eq_true differs, stopped, anyJob_iff.2 ⟨r, job⟩, Bool.false_and, if_neg Bool.false_ne_true]
  exact if_pos rfl

theorem fillerConfig_of_calm (stopped : s.pins.run = false) (idle : ∀ r : RobotId, s.robots[r].job = none)
    (cameras : ∀ k : CameraId, s.cameras[k].staged = CameraStaged.absent) (gates : ∀ g : GateId, s.gates[g].staged = GateStaged.absent)
    (below : Below (fun _ => True) (fun _ => True) s)
    (waiting : ∀ (k : CameraId) (p : Nat), p < s.track.length → (s.slotAt p).awaits k = false)
    (confirm : ∀ g : GateId, s.gates[g].confirm = []) :
    fillerConfig tag entry exit approach s =
      if settingsOk { s with fill := carriedFill entry exit approach } = true then
        accept 0x13 tag [] { s with fill := carriedFill entry exit approach }
      else refuse 0x13 tag .badField s := by
  have none : anyJob s = false := Bool.eq_false_iff.2 fun some => by
    obtain ⟨r, holds⟩ := anyJob_iff.1 some
    exact holds (idle r)
  have clamped : clampAll { s with fill := carriedFill entry exit approach } = { s with fill := carriedFill entry exit approach } := by
    have first : Below (fun _ => True) (· ≠ (0 : GateId)) { s with fill := carriedFill entry exit approach } :=
      ⟨below.cameras, fun k _ => below.gates k trivial, below.start, below.stop, below.counter⟩
    rw [clampAll_of_gate first]
    exact clampGate_of_below (below.gates 0 trivial)
  have limits : checkLimits { s with fill := carriedFill entry exit approach } = { s with fill := carriedFill entry exit approach } := by
    refine checkLimits_of_calm (fun k p _ onTrack => waiting k p onTrack) fun g => ?_
    unfold youngAt
    rw [show ({ s with fill := carriedFill entry exit approach } : State).gates[g].confirm = [] from confirm g]
    exact fun e absent => absurd absent List.not_mem_nil
  unfold carriedFill at *
  unfold fillerConfig layoutBase
  dsimp only
  rw [decide_eq_true differs, stopped, none, Bool.false_and, Bool.and_false, if_neg Bool.false_ne_true, if_neg Bool.false_ne_true,
    if_pos rfl, activateStaged_of_absent cameras gates, if_pos rfl, clamped, limits]

end

/-- Settles O49: GATE_CONFIG by refusals, staging and the written gate left or changed; FILLER_CONFIG by its checks. -/
theorem gateAndFillerConfig : Obligations.GateAndFillerConfig := by
  refine ⟨?_, ?_⟩
  · intro s tag g position width window phase mask idle widthLow widthHigh windowLow windowHigh old flag request settings
      withSettings checked unstagedOthers calmOthers
    have rule (enabled : Bool) (t : State) (is : configureGate tag g (settings enabled) s = t) :
        exec (request enabled) s = .next t :=
      (hostRequest_of_idle idle (request enabled) _).trans
        (congrArg Host.Outcome.next ((gateConfig_of_range widthLow widthHigh windowLow windowHigh).trans is))
    have below (calm : calmOthers) : Below (fun _ => True) (· ≠ g) s :=
      ⟨fun k _ => (calm.1 k).1, fun k other => (calm.2.1 k other).1, calm.2.2.1, calm.2.2.2.1, calm.2.2.2.2⟩
    have settled (calm : calmOthers) (k : CameraId) : settledAt s k := (calm.1 k).2
    have young (calm : calmOthers) (k : GateId) (other : k ≠ g) : youngAt s k := (calm.2.1 k other).2
    refine ⟨fun enabled run layout => rule enabled _ (configureGate_of_running run layout),
      fun enabled allowed unstaged fails => rule enabled _ (configureGate_of_unchecked allowed unstaged fails),
      fun run same ok => ?_, fun enabled stopped left phaseIn calm own ok => rule enabled _ (configureGate_of_left stopped
        (below calm) phaseIn (settled calm) (young calm) ok left own), fun enabled stopped on change phaseIn unstaged calm ok
        consecutive => ?_⟩
    · intro staged
      have staging := rule _ _ (configureGate_of_staging run rfl same ok)
      exact ⟨fun under => staging.trans (congrArg (fun t => Host.Outcome.next (accept 0x12 tag [] t)) (stageGate_of_below under)),
        fun above => staging.trans (congrArg (fun t => Host.Outcome.next (accept 0x12 tag [] t)) (stageGate_of_above above))⟩
    · obtain ⟨head, nextTicket, length, tallies⟩ := droppedGate_track (s := s) (g := g) (new := settings enabled)
      exact ⟨_, rule enabled _ (configureGate_of_change stopped (below calm) phaseIn (settled calm) (young calm) ok consecutive on
        change unstaged), droppedGate_gates, fun p onTrack => droppedGate_slotAt consecutive onTrack,
        fun k ticket names room => droppedGate_events names room, head, nextTicket, length, tallies, droppedGate_keepsBut⟩
  · intro s tag entry exit approach idle new request
    have rule (t : State) (is : fillerConfig tag entry exit approach s = t) : exec request s = .next t :=
      (hostRequest_of_idle idle request _).trans (congrArg Host.Outcome.next is)
    exact ⟨fun same ok => rule _ (fillerConfig_of_same same ok), fun differs run => rule _ (fillerConfig_of_running differs run),
      fun r differs stopped job => rule _ (fillerConfig_of_filling differs stopped job),
      fun differs stopped jobs cameras gates start stop counter => rule _ (fillerConfig_of_calm differs stopped jobs
        (fun k => (cameras k).1) (fun g => (gates g).1)
        ⟨fun k _ => (cameras k).2.1, fun g _ => (gates g).2.1, start, stop, counter⟩ (fun k => (cameras k).2.2)
        fun g => (gates g).2.2)⟩

end Sys2Proof.Machine
end


section
/-! TRACK_TALLY and TRACK_FLUSH (O50). -/

set_option Elab.async false

namespace Sys2Proof.Machine

section
variable {s : State}

/-! ## Every job aborted (R22, R78) -/

theorem abortAll_aborts : Aborts (fun _ => true) s (forEach (allUnits 8) abortJob s) := by
  refine (forEach_aborts (P := fun _ => True) (c := fun _ => true) (fun _ _ _ => trivial)
    (fun r t _ => (abortJob_aborts r t).congr fun q => (Bool.and_true _).symm) (allUnits 8) trivial).congr fun q => ?_
  rw [decide_eq_true (mem_allUnits q), Bool.true_and]

theorem abortAll_robot (r : RobotId) : (forEach (allUnits 8) abortJob s).robots[r] = { s.robots[r] with job := none } := by
  have each := forEach_own (fun _ => True) (fun t (r : RobotId) => t.robots[r]) (act := abortJob)
    (f := fun _ rb => { rb with job := none }) (fun _ _ _ => trivial) (fun u t _ => failJob_robot u _ _ t)
    (fun u v t _ other => by unfold abortJob; rw [failJob_robots, set_get, if_neg other]) (allUnits_nodup 8) (s := s) trivial r
  rwa [if_pos (mem_allUnits r)] at each

theorem abortAll_keepsBut :
    keepsBut [.track, .robots, .doses, .bus, .counters, .events] s (forEach (allUnits 8) abortJob s) :=
  forEach_invariant (keepsBut _ s) _ _ (fun r t kept => keepsBut_trans kept (failJob_keepsBut r _ _ t)) s (keepsBut_refl _ s)

/-- Aborted jobs leave their slots' tickets. -/
theorem slotsAborted_ticket {aborted : RobotId → Bool} {t : State} (slots : slotsAborted aborted s t) {p : Nat} (small : p < 128) :
    (t.slotAt p).ticket = (s.slotAt p).ticket := by
  obtain ⟨-, -, -, -, each⟩ := slots
  obtain ⟨marked, kept⟩ := each p small
  by_cases named : ∃ r : RobotId, aborted r = true ∧ ∃ j ∈ s.robots[r].job, s.positionOf j.ticket = some p
  · obtain ⟨r, is, j, holds, place⟩ := named
    obtain ⟨q, -, k, -, -, slot⟩ := marked r is j holds place
    rw [slot]
    rfl
  · rw [kept fun r is j holds place => named ⟨r, is, j, holds, place⟩]

/-! ## The track and the lists emptied (R22, R43, R61) -/

theorem emptySlots_slotAt (onRing : s.track.length ≤ 128) {p : Nat} (onTrack : p < s.track.length) :
    (emptySlots s).slotAt p = Slot.fresh (s.slotAt p).ticket := by
  have slot := forEach_editSlotAt (f := fun sl => Slot.fresh sl.ticket) (fun _ => rfl) List.nodup_range
    (fun q listed => Nat.lt_of_lt_of_le (List.mem_range.1 listed) onRing) s (Nat.lt_of_lt_of_le onTrack onRing)
  rw [if_pos (List.mem_range.2 onTrack)] at slot
  exact slot

theorem emptySlots_rest : emptySlots s = { s with track := { s.track with ring := (emptySlots s).track.ring } } :=
  forEach_editSlotAt_rest (fun sl => Slot.fresh sl.ticket) _ s

theorem emptyUnitLists_eq :
    emptyUnitLists s =
      { s with
        cameras := Vector.ofFn fun n : CameraId => s.cameras[n].emptyLists
        gates := Vector.ofFn fun g : GateId => { s.gates[g] with confirm := [], pendingFire := none } } := by
  unfold emptyUnitLists
  rw [forEach_mapCamera_eq, forEach_mapGate_eq]

/-- The track and the lists emptied, as a flush leaves them once the jobs are aborted. -/
def emptied (s : State) : State := emptyUnitLists (emptySlots s)

theorem emptied_eq :
    emptied s =
      { s with
        track := { s.track with ring := (emptySlots s).track.ring }
        cameras := Vector.ofFn fun n : CameraId => s.cameras[n].emptyLists
        gates := Vector.ofFn fun g : GateId => { s.gates[g] with confirm := [], pendingFire := none } } := by
  unfold emptied
  rw [emptyUnitLists_eq]
  conv_lhs => rw [emptySlots_rest]

theorem emptied_track :
    (emptied s).track.head = s.track.head ∧ (emptied s).track.nextTicket = s.track.nextTicket
      ∧ (emptied s).track.length = s.track.length ∧ (emptied s).track.tallies = s.track.tallies := by
  rw [emptied_eq]
  exact ⟨rfl, rfl, rfl, rfl⟩

theorem emptied_slotAt (onRing : s.track.length ≤ 128) {p : Nat} (onTrack : p < s.track.length) :
    (emptied s).slotAt p = Slot.fresh (s.slotAt p).ticket := by
  have track : (emptied s).track = (emptySlots s).track := by
    unfold emptied
    rw [emptyUnitLists_eq]
  rw [slotAt_of_track track, emptySlots_slotAt onRing onTrack]

theorem emptied_keepsBut : keepsBut [.track, .cameras, .gates] s (emptied s) := by
  rw [emptied_eq]
  intro part other
  cases part <;> simp [Part.same] at other ⊢

theorem emptied_camera (n : CameraId) : (emptied s).cameras[n] = { s.cameras[n] with outstanding := [], late := [] } := by
  rw [emptied_eq]
  exact Vector.getElem_ofFn ..

theorem emptied_gate (g : GateId) : (emptied s).gates[g] = { s.gates[g] with confirm := [], pendingFire := none } := by
  rw [emptied_eq]
  exact Vector.getElem_ofFn ..

theorem fillsAborted_emptied {aborted : RobotId → Bool} {t : State} (fills : fillsAborted aborted s t) :
    fillsAborted aborted s (emptied t) := by
  rw [emptied_eq]
  exact fills

/-! ## TRACK_FLUSH (R22) -/

/-- What the statement says of a flush, once every job is aborted in a state t. -/
theorem emptied_of_aborted {t : State} (aborts : Aborts (fun _ => true) s t)
    (kept : keepsBut [.track, .robots, .doses, .bus, .counters, .events] s t)
    (robots : ∀ r : RobotId, t.robots[r] = { s.robots[r] with job := none }) (onRing : s.track.length ≤ 128) :
    (∀ p : Nat, p < s.track.length → (emptied t).slotAt p = Slot.fresh (s.slotAt p).ticket)
      ∧ (emptied t).track.head = s.track.head ∧ (emptied t).track.nextTicket = s.track.nextTicket
      ∧ (emptied t).track.length = s.track.length ∧ (emptied t).track.tallies = s.track.tallies
      ∧ (∀ n : CameraId, (emptied t).cameras[n] = { s.cameras[n] with outstanding := [], late := [] })
      ∧ (∀ g : GateId, (emptied t).gates[g] = { s.gates[g] with confirm := [], pendingFire := none })
      ∧ (∀ r : RobotId, (emptied t).robots[r] = { s.robots[r] with job := none }) ∧ fillsAborted (fun _ => true) s (emptied t)
      ∧ keepsBut [.track, .cameras, .gates, .robots, .doses, .bus, .counters, .events] s (emptied t) := by
  have slots := aborts.left.2
  have shape := slots
  obtain ⟨head, nextTicket, length, tallies, -⟩ := shape
  obtain ⟨heads, nextTickets, lengths, allTallies⟩ := emptied_track (s := t)
  have cameras : t.cameras = s.cameras := kept .cameras (by decide)
  have gates : t.gates = s.gates := kept .gates (by decide)
  have last : (emptied t).robots = t.robots := emptied_keepsBut .robots (by decide)
  refine ⟨fun p onTrack => ?_, heads.trans head, nextTickets.trans nextTicket, lengths.trans length, allTallies.trans tallies,
    fun n => ?_, fun g => ?_, fun r => ?_, fillsAborted_emptied aborts.left.1,
    keepsBut_trans (keepsBut_mono kept (by decide)) (keepsBut_mono emptied_keepsBut (by decide))⟩
  · rw [emptied_slotAt (length ▸ onRing) (length ▸ onTrack), slotsAborted_ticket slots (Nat.lt_of_lt_of_le onTrack onRing)]
  · rw [emptied_camera, cameras]
  · rw [emptied_gate, gates]
  · rw [last, robots]

theorem heldSlots_length :
    (heldSlots s).length = (List.range s.track.length).countP fun p => (s.slotAt p).occupancy != .empty := by
  unfold heldSlots State.slots
  rw [← List.countP_eq_length_filter, List.countP_map]
  rfl

theorem heldSlots_rejected :
    ((heldSlots s).filter fun sl => sl.decision.isSome).length =
      (List.range s.track.length).countP fun p => (s.slotAt p).occupancy != .empty && (s.slotAt p).decision.isSome := by
  unfold heldSlots State.slots
  rw [List.filter_filter, ← List.countP_eq_length_filter, List.countP_map]
  exact List.countP_congr fun p _ => by rw [Function.comp_apply, Bool.and_comm]

end

/-- Settles O50: the tallies at each flag, and the flush by its aborts, its slots and its lists. -/
theorem tallyAndFlush : Obligations.TallyAndFlush := by
  intro s tag idle
  refine ⟨hostRequest_of_idle idle (.trackTally tag 0) _, hostRequest_of_idle idle (.trackTally tag 1) _,
    fun run => (hostRequest_of_idle idle (.trackFlush tag) _).trans ?_, fun stopped onRing => ?_⟩
  · unfold trackFlush
    rw [if_pos run]
  · refine ⟨emptied (forEach (allUnits 8) abortJob s), _, (hostRequest_of_idle idle (.trackFlush tag) _).trans ?_, rfl,
      emptied_of_aborted abortAll_aborts abortAll_keepsBut abortAll_robot onRing⟩
    unfold trackFlush
    rw [if_neg (by rw [stopped]; decide)]
    dsimp only
    rw [heldSlots_length, heldSlots_rejected]
    rfl

end Sys2Proof.Machine
end


section
/-! ROBOT_CONFIG, RECIPE_LOAD and ROBOT_MODE (O51, O52). -/

set_option Elab.async false

namespace Sys2Proof.Machine

section
variable {s : State} {tag : Half} {r : RobotId}

/-! ## ROBOT_CONFIG (R62) -/

/-- The address lies in 1..30 and no other robot has it (R62). -/
def addressAllowed (s : State) (r : RobotId) (address : Nat) : Prop :=
  1 ≤ address ∧ address ≤ 30 ∧ ∀ q : RobotId, q ≠ r → s.robots[q].address ≠ address

theorem addressAllowed_iff (address : Nat) :
    addressAllowed s r address ↔ ¬(address < 1 ∨ 30 < address ∨ addressTaken s r address = true) := by
  rw [not_or, not_or, Nat.not_lt, Nat.not_lt, addressTaken_iff]
  unfold addressAllowed
  simp only [not_exists, not_and, ne_eq]

section
variable {z : GroupId} {address : Byte}

theorem robotConfig_of_bad (bad : ¬ addressAllowed s r address.toNat) :
    robotConfig tag (BitVec.ofNat 8 r.val) (BitVec.ofNat 8 z.val) address s = refuse 0x20 tag .badField s := by
  unfold robotConfig
  rw [unitField_ofNat (by decide), unitField_ofNat (by decide)]
  exact if_pos (not_not.1 (mt (addressAllowed_iff _).2 bad))

theorem robotConfig_of_use (fine : addressAllowed s r address.toNat) (use : s.robots[r].mode ≠ .off ∨ s.bus.queues[r].entries ≠ []) :
    robotConfig tag (BitVec.ofNat 8 r.val) (BitVec.ofNat 8 z.val) address s = refuse 0x20 tag .state s := by
  unfold robotConfig
  rw [unitField_ofNat (by decide), unitField_ofNat (by decide)]
  exact (if_neg ((addressAllowed_iff _).1 fine)).trans (if_pos use)

theorem robotConfig_of_free (fine : addressAllowed s r address.toNat) (off : s.robots[r].mode = .off)
    (empty : s.bus.queues[r].entries = []) :
    robotConfig tag (BitVec.ofNat 8 r.val) (BitVec.ofNat 8 z.val) address s =
      accept 0x20 tag [] (s.mapRobot r fun rb => { rb with zone := z, address := address.toNat }) := by
  unfold robotConfig
  rw [unitField_ofNat (by decide), unitField_ofNat (by decide)]
  exact (if_neg ((addressAllowed_iff _).1 fine)).trans
    (if_neg (not_or.2 ⟨not_not.2 off, not_not.2 empty⟩))

end

/-! ## RECIPE_LOAD (R91 to R93) -/

section
variable {new : Recipe}

theorem recipeLoad_of_outOfRange (out : new.inRange = false) :
    recipeLoad tag (BitVec.ofNat 8 r.val) new s = refuse 0x21 tag .badField s := by
  unfold recipeLoad
  rw [unitField_ofNat (by decide)]
  dsimp only
  rw [out]
  exact if_neg Bool.false_ne_true

theorem recipeLoad_of_first (inRange : new.inRange = true) (idle : s.robots[r].job = none) (first : s.doses[r].active = none) :
    recipeLoad tag (BitVec.ofNat 8 r.val) new s =
      accept 0x21 tag [1]
        { s with doses := s.doses.set r { s.doses[r] with active := some new, staged := none, estimate := 16 * new.initial } } := by
  have active : s.doses[r].activate new = { s.doses[r] with active := some new, staged := none, estimate := 16 * new.initial } := by
    unfold Dose.activate
    rw [first]
    rfl
  unfold recipeLoad takeRecipe
  rw [unitField_ofNat (by decide)]
  dsimp only
  rw [if_pos inRange, idle, first, ← active]
  rfl

theorem recipeLoad_of_later (inRange : new.inRange = true) (later : s.robots[r].job ≠ none ∨ s.doses[r].active ≠ none) :
    recipeLoad tag (BitVec.ofNat 8 r.val) new s =
      accept 0x21 tag [0] { s with doses := s.doses.set r { s.doses[r] with staged := some new } } := by
  have waits : (s.robots[r].job.isNone && s.doses[r].active.isNone) = false := by
    rw [Bool.and_eq_false_iff, Option.isNone_eq_false_iff, Option.isNone_eq_false_iff, Option.isSome_iff_ne_none,
      Option.isSome_iff_ne_none]
    exact later
  unfold recipeLoad takeRecipe
  rw [unitField_ofNat (by decide)]
  dsimp only
  rw [if_pos inRange, waits]
  rfl

end

/-! ## ROBOT_MODE (R64) -/

theorem requestedMode_of_past {mode : Byte} (past : 2 < mode.toNat) : requestedMode mode = none := by
  have differs (k : Byte) (low : k.toNat ≤ 2) : mode ≠ k := by
    rintro rfl
    exact absurd low (Nat.not_le.2 past)
  unfold requestedMode
  rw [if_neg (differs 0 (by decide)), if_neg (differs 1 (by decide)), if_neg (differs 2 (by decide))]

theorem robotMode_of_malformed {mode : Byte} (past : 2 < mode.toNat) :
    robotMode tag (BitVec.ofNat 8 r.val) mode s = refuse 0x22 tag .badField s := by
  unfold robotMode
  rw [requestedMode_of_past past, unitField_ofNat (by decide)]

section
variable {mode : Byte} {new : RobotMode} (asked : requestedMode mode = some new)
include asked

theorem robotMode_of_present (present : s.robots[r].mode = new) :
    robotMode tag (BitVec.ofNat 8 r.val) mode s = accept 0x22 tag [] s := by
  unfold robotMode
  rw [asked, unitField_ofNat (by decide)]
  exact if_pos present

theorem robotMode_of_error {code : ReplyCode} (other : s.robots[r].mode ≠ new) (error : modeChange s r new = .error code) :
    robotMode tag (BitVec.ofNat 8 r.val) mode s = refuse 0x22 tag code s := by
  unfold robotMode
  rw [asked, unitField_ofNat (by decide)]
  dsimp only
  rw [if_neg other, error]

theorem robotMode_of_change {change : State → State} (other : s.robots[r].mode ≠ new) (ok : modeChange s r new = .ok change) :
    robotMode tag (BitVec.ofNat 8 r.val) mode s = accept 0x22 tag [] (settle (change s)) := by
  unfold robotMode
  rw [asked, unitField_ofNat (by decide)]
  dsimp only
  rw [if_neg other, ok]

end

theorem modeChange_of_locked (isLocked : locked s s.robots[r].zone = true) (new : RobotMode) : modeChange s r new = .error .state := by
  unfold modeChange
  exact if_pos isLocked

/-- The table of mode changes in an unlocked zone (R64). -/
def modeTable (s : State) (r : RobotId) : RobotMode → RobotMode → Except ReplyCode (State → State)
  | .off, .manual => .ok (leaveOff r)
  | .manual, .off => .ok (enterOff r)
  | .manual, .production =>
    if robotCounterIs s r .unloaded then .error .unloaded
    else if readyForProduction s r then .ok (changeRobot r fun rb => { rb with mode := .production, armed := false })
    else .error .state
  | .production, .manual => .ok fun t => changeRobot r (fun rb => { rb with mode := .manual, armed := false }) (abortJob r t)
  | _, _ => .error .state

theorem modeChange_of_unlocked (unlocked : locked s s.robots[r].zone = false) (new : RobotMode) :
    modeChange s r new = modeTable s r s.robots[r].mode new := by
  unfold modeChange
  rw [unlocked, if_neg Bool.false_ne_true]
  generalize s.robots[r].mode = old
  cases old <;> cases new <;> rfl

theorem robotMode_of_locked {mode : Byte} {new : RobotMode} (asked : requestedMode mode = some new)
    (isLocked : locked s s.robots[r].zone = true) (other : s.robots[r].mode ≠ new) :
    robotMode tag (BitVec.ofNat 8 r.val) mode s = refuse 0x22 tag .state s :=
  robotMode_of_error asked other (modeChange_of_locked isLocked new)

section
variable {mode : Byte} {old new : RobotMode} (asked : requestedMode mode = some new)
  (unlocked : locked s s.robots[r].zone = false) (is : s.robots[r].mode = old) (other : old ≠ new)
include asked unlocked is other

theorem robotMode_of_refused {code : ReplyCode} (error : modeTable s r old new = .error code) :
    robotMode tag (BitVec.ofNat 8 r.val) mode s = refuse 0x22 tag code s :=
  robotMode_of_error asked (is ▸ other) ((modeChange_of_unlocked unlocked new).trans (is ▸ error))

theorem robotMode_of_changed {change : State → State} (ok : modeTable s r old new = .ok change) :
    robotMode tag (BitVec.ofNat 8 r.val) mode s = accept 0x22 tag [] (settle (change s)) :=
  robotMode_of_change asked (is ▸ other) ((modeChange_of_unlocked unlocked new).trans (is ▸ ok))

end

theorem modeCode_of_mode {rb : Robot} {mode : RobotMode} (is : rb.mode = mode) : rb.modeCode = mode.code rb.jog := by
  unfold Robot.modeCode
  rw [is]

/-! ## The changes of the table -/

theorem leaveOff_eq (off : s.robots[r].mode = .off) :
    leaveOff r s =
      raiseEvent .robotMode r.val 1 0
        { s with
          robots := s.robots.set r { s.robots[r] with mode := .manual, failures := 0, pollTimer := 0 }
          time := { s.time with ahead := s.time.ahead.filter fun share => share != .poll r } } :=
  changeRobot_of_codes (old := 0) (new := 1)
    (s := { s with time := { s.time with ahead := s.time.ahead.filter fun share => share != .poll r } })
    (modeCode_of_mode off) rfl (by decide)

theorem enterOff_eq (manual : s.robots[r].mode = .manual) :
    enterOff r s =
      raiseEvent .robotMode r.val 0 1
        { s with
          robots := s.robots.set r { s.robots[r] with mode := .off }
          bus := { s.bus with queues := s.bus.queues.set r (s.bus.queues[r].keep fun e => !e.command.isPoll) } } :=
  changeRobot_of_codes (old := 1) (new := 0) (s := s.mapQueue r fun q => q.keep fun e => !e.command.isPoll)
    (modeCode_of_mode manual) rfl (by decide)

theorem enterProduction_eq (manual : s.robots[r].mode = .manual) :
    changeRobot r (fun rb => { rb with mode := .production, armed := false }) s =
      raiseEvent .robotMode r.val 2 1
        { s with robots := s.robots.set r { s.robots[r] with mode := .production, armed := false } } :=
  changeRobot_of_codes (old := 1) (new := 2) (modeCode_of_mode manual) rfl (by decide)

/-- A robot that leaves PRODUCTION on request aborts its job first (R64, R78). -/
theorem leaveProduction_eq (production : s.robots[r].mode = .production) :
    changeRobot r (fun rb => { rb with mode := .manual, armed := false }) (abortJob r s) =
      raiseEvent .robotMode r.val 1 2
        { failJob r .aborted .aborted s with
          robots := s.robots.set r { s.robots[r] with mode := .manual, armed := false, job := none } } := by
  have robot : (abortJob r s).robots[r] = { s.robots[r] with job := none } := failJob_robot r .aborted .aborted s
  have robots : (abortJob r s).robots = s.robots.set r { s.robots[r] with job := none } := failJob_robots r .aborted .aborted s
  rw [changeRobot_of_codes (old := 2) (new := 1) (by rw [robot]; exact modeCode_of_mode production) rfl (by decide)]
  have left : (abortJob r s).robots.set r { (abortJob r s).robots[r] with mode := .manual, armed := false } =
      s.robots.set r { s.robots[r] with mode := .manual, armed := false, job := none } := by
    rw [robot, robots, Vector.set_set]
  exact congrArg (fun v => raiseEvent .robotMode r.val 1 2 { abortJob r s with robots := v }) left

end

/-- Settles O51: the address by its check and the robot's use, and the recipe by its range and what stands. -/
theorem robotConfigAndRecipes : Obligations.RobotConfigAndRecipes := by
  intro s tag r idle
  refine ⟨fun z address => ?_, fun target underTol overTol minOpen afterflowMax settle initial kFactor shift => ?_⟩
  · intro request allowed
    have rule (t : State) (is : robotConfig tag (BitVec.ofNat 8 r.val) (BitVec.ofNat 8 z.val) address s = t) :
        exec request s = .next t := (hostRequest_of_idle idle request _).trans (congrArg Host.Outcome.next is)
    exact ⟨fun bad => rule _ (robotConfig_of_bad bad), fun fine use => rule _ (robotConfig_of_use fine use),
      fun fine off empty => rule _ (robotConfig_of_free fine off empty)⟩
  · intro request recipe
    have rule (t : State) (is : recipeLoad tag (BitVec.ofNat 8 r.val) recipe s = t) : exec request s = .next t :=
      (hostRequest_of_idle idle request _).trans (congrArg Host.Outcome.next is)
    exact ⟨fun out => rule _ (recipeLoad_of_outOfRange out), fun inRange free first => rule _ (recipeLoad_of_first inRange free first),
      fun inRange later => rule _ (recipeLoad_of_later inRange later)⟩

/-- Settles O52: the table of mode changes, row by row. -/
theorem robotModeFollowsTheTable : Obligations.RobotModeFollowsTheTable := by
  intro s tag r idle request refused changed isLocked unloaded ready
  have rule (mode : Byte) (t : State) (is : robotMode tag (BitVec.ofNat 8 r.val) mode s = t) : exec (request mode) s = .next t :=
    (hostRequest_of_idle idle (request mode) _).trans (congrArg Host.Outcome.next is)
  have unloadedIff : unloaded ↔ robotCounterIs s r .unloaded = true := by
    unfold robotCounterIs
    rw [Bool.or_eq_true, beq_iff_eq, beq_iff_eq]
  have readyIff : ready ↔ readyForProduction s r = true := by
    unfold readyForProduction
    rw [Bool.and_eq_true, beq_iff_eq, Option.isSome_iff_ne_none]
  have off : requestedMode 0 = some .off := rfl
  have manual : requestedMode 1 = some .manual := rfl
  have production : requestedMode 2 = some .production := rfl
  refine ⟨⟨fun is => rule 0 _ (robotMode_of_present off is), fun is => rule 1 _ (robotMode_of_present manual is),
      fun is => rule 2 _ (robotMode_of_present production is)⟩, fun mode past => rule mode _ (robotMode_of_malformed past),
    fun shut => ⟨fun other => rule 0 _ (robotMode_of_locked off shut other), fun other => rule 1 _ (robotMode_of_locked manual shut other),
      fun other => rule 2 _ (robotMode_of_locked production shut other)⟩, fun free => ⟨fun is => ⟨?_, ?_⟩, fun is => ⟨?_, ?_, ?_, ?_⟩,
      fun is => ⟨?_, ?_⟩, ?_⟩⟩
  · exact rule 2 _ (robotMode_of_refused production free is (by decide) rfl)
  · exact rule 1 _ ((robotMode_of_changed manual free is (by decide) rfl).trans
      (congrArg (fun t => accept 0x22 tag [] (settle t)) (leaveOff_eq is)))
  · exact rule 0 _ ((robotMode_of_changed off free is (by decide) rfl).trans
      (congrArg (fun t => accept 0x22 tag [] (settle t)) (enterOff_eq is)))
  · exact fun un => rule 2 _ (robotMode_of_refused production free is (by decide) (if_pos (unloadedIff.1 un)))
  · exact fun loaded unready => rule 2 _ (robotMode_of_refused production free is (by decide)
      ((if_neg (mt unloadedIff.2 loaded)).trans (if_neg (mt readyIff.2 unready))))
  · exact fun loaded set => rule 2 _ ((robotMode_of_changed production free is (by decide)
      ((if_neg (mt unloadedIff.2 loaded)).trans (if_pos (readyIff.1 set)))).trans
        (congrArg (fun t => accept 0x22 tag [] (settle t)) (enterProduction_eq is)))
  · exact rule 0 _ (robotMode_of_refused off free is (by decide) rfl)
  · exact rule 1 _ ((robotMode_of_changed manual free is (by decide) rfl).trans
      (congrArg (fun t => accept 0x22 tag [] (settle t)) (leaveProduction_eq is)))
  · rintro (is | is | is)
    all_goals exact ⟨rule 0 _ (robotMode_of_refused off free is (by decide) rfl),
      rule 1 _ (robotMode_of_refused manual free is (by decide) rfl), rule 2 _ (robotMode_of_refused production free is (by decide) rfl)⟩

end Sys2Proof.Machine
end


section
/-! GROUP_CLOSE and GROUP_OPEN (O53). -/

set_option Elab.async false

namespace Sys2Proof.Machine

section
variable {s : State} {tag : Half} {g : GroupId}

/-! ## The checks of a close (R116) -/

theorem pair_onPair_iff : s.pair = .onPair ↔ s.pins.msa = true ∧ s.pins.msb = false := by
  unfold State.pair
  cases s.pins.msa <;> cases s.pins.msb <;> decide

/-- The switch permits a close: ON, its contacts at the ON pair, and its latch clear. -/
def switchedOn (s : State) : Prop :=
  s.mainSwitch.state = .on ∧ s.pins.msa = true ∧ s.pins.msb = false ∧ s.mainSwitch.latch = false

theorem switchPermits_iff : switchPermits s = true ↔ switchedOn s := by
  unfold switchPermits switchedOn
  rw [Bool.and_eq_true, Bool.and_eq_true, beq_iff_eq, decide_eq_true_eq, pair_onPair_iff, Bool.not_eq_true']
  simp only [and_assoc]

theorem groupClose_of_refusal {code : ReplyCode} (refusal : closeRefusal s g = some code) :
    groupClose tag (BitVec.ofNat 8 g.val) s = refuse 0x30 tag code s := by
  unfold groupClose
  rw [unitField_ofNat (by decide)]
  dsimp only
  rw [refusal]

theorem groupClose_of_passed (passed : closeRefusal s g = none) :
    groupClose tag (BitVec.ofNat 8 g.val) s =
      accept 0x30 tag [] (if s.groups[g].state = .isOpen then settle (closeGroup g s) else s) := by
  unfold groupClose
  rw [unitField_ofNat (by decide)]
  dsimp only
  rw [passed]

theorem closeRefusal_of_faulty (faulty : s.groups[g].state = .faultPullin ∨ s.groups[g].state = .faultWeld) :
    closeRefusal s g = some .state := by
  unfold closeRefusal
  exact if_pos faulty

section
variable (sound : ¬(s.groups[g].state = .faultPullin ∨ s.groups[g].state = .faultWeld))
include sound

theorem closeRefusal_of_barred (barred : locked s g = true ∨ ¬ switchedOn s) : closeRefusal s g = some .interlock := by
  unfold closeRefusal
  refine (if_neg sound).trans ?_
  by_cases shut : locked s g = true
  · exact if_pos shut
  · have forbids : switchPermits s = false :=
      Bool.eq_false_iff.2 fun permits => (barred.resolve_left shut) (switchPermits_iff.1 permits)
    refine (if_neg shut).trans ?_
    rw [forbids]
    rfl

variable (free : locked s g = false) (on : switchedOn s)
include free on

theorem closeRefusal_of_permitted :
    closeRefusal s g =
      if s.counters[contactorCounter g].state = .unloaded then some .unloaded
      else if s.counters[contactorCounter g].state = .overrun then some .interlock
      else if s.groups[g].state = .opening then some .state
      else none := by
  unfold closeRefusal
  refine (if_neg sound).trans ?_
  rw [free, switchPermits_iff.2 on]
  rfl

end

/-! ## The close of an open group (R116) -/

theorem closeGroup_eq (isOpen : s.groups[g].state = .isOpen) :
    closeGroup g s =
      let closing := countOn (contactorCounter g)
        (raiseEvent .groupState g.val 1 0 { s with groups := s.groups.set g { state := .closing, timer := some 0 } })
      if s.pins.mirror[g] = true then
        raiseEvent .groupState g.val 2 1 { closing with groups := s.groups.set g { state := .closed, timer := none } }
      else closing := by
  have entered : enterGroup g .closing s =
      raiseEvent .groupState g.val 1 0 { s with groups := s.groups.set g { state := .closing, timer := some 0 } } := by
    rw [enterGroup_eq, isOpen]
    rfl
  unfold closeGroup
  dsimp only
  rw [entered]
  by_cases reports : s.pins.mirror[g] = true
  · rw [if_pos reports, if_pos reports]
    have groups : (countOn (contactorCounter g) (raiseEvent .groupState g.val 1 0
        { s with groups := s.groups.set g { state := .closing, timer := some 0 } })).groups =
        s.groups.set g { state := .closing, timer := some 0 } := by simp [countOn_frame]
    have pins : (countOn (contactorCounter g) (raiseEvent .groupState g.val 1 0
        { s with groups := s.groups.set g { state := .closing, timer := some 0 } })).pins = s.pins := by simp [countOn_frame]
    generalize countOn (contactorCounter g) (raiseEvent .groupState g.val 1 0
        { s with groups := s.groups.set g { state := .closing, timer := some 0 } }) = t at groups pins ⊢
    rw [enterGroup_eq, groups, set_get, if_pos rfl, Vector.set_set, pins, reports]
    rfl
  · rw [if_neg reports, if_neg reports]

/-! ## GROUP_OPEN (R119) -/

theorem groupOpen_eq :
    groupOpen tag (BitVec.ofNat 8 g.val) s =
      accept 0x31 tag [BitVec.ofNat 8 (settle (openGroup g s)).groups[g].state.code] (settle (openGroup g s)) := by
  unfold groupOpen
  rw [unitField_ofNat (by decide)]
  rfl

theorem openGroup_of_off (off : coil s g = false) : openGroup g s = s := by
  have other : s.groups[g].state ≠ .closed := by
    intro closed
    unfold coil at off
    rw [closed] at off
    cases off
  rw [openGroup_of_other other]
  unfold dropCoil
  exact if_neg (Bool.eq_false_iff.1 off)

theorem openGroup_group : (openGroup g s).groups[g] = openedGroup s.pins.mirror[g] s.groups[g] := by
  rw [openGroup_groups, set_get, if_pos rfl]

theorem openGroup_state (on : coil s g = true) :
    (openGroup g s).groups[g].state = if s.pins.mirror[g] = true then .opening else .isOpen := by
  rw [openGroup_group]
  unfold openedGroup
  rw [show s.groups[g].state.coil = true from on, if_pos rfl]
  split <;> rfl

end

/-- Settles O53: the checks of a close in their order, the close of an open group, and the open by what it leaves. -/
theorem groupsCloseAndOpen : Obligations.GroupsCloseAndOpen := by
  intro s tag g idle request st counter refused faulty switched
  have rule (t : State) (is : groupClose tag (BitVec.ofNat 8 g.val) s = t) : exec request s = .next t :=
    (hostRequest_of_idle idle request _).trans (congrArg Host.Outcome.next is)
  have refusal (code : ReplyCode) (is : closeRefusal s g = some code) : exec request s = refused code :=
    rule _ (groupClose_of_refusal is)
  refine ⟨fun bad => refusal _ (closeRefusal_of_faulty bad), fun sound barred => refusal _ (closeRefusal_of_barred sound barred),
    fun sound free on => ?_, openGroup g s, (hostRequest_of_idle idle (.groupOpen tag (BitVec.ofNat 8 g.val)) _).trans
      (congrArg Host.Outcome.next groupOpen_eq), ?_, openGroup_of_off, openGroup_state, (openGroup_aborts g s).left,
    fun k other => ?_, fun r kept => ?_, fun r inZone closed => ?_, openGroup_keepsBut g s⟩
  · have checks := closeRefusal_of_permitted sound free on
    have passed (loaded : s.counters[contactorCounter g].state ≠ .unloaded) (within : s.counters[contactorCounter g].state ≠ .overrun)
        (steady : s.groups[g].state ≠ .opening) : closeRefusal s g = none :=
      checks.trans ((if_neg loaded).trans ((if_neg within).trans (if_neg steady)))
    refine ⟨fun un => refusal _ (checks.trans (if_pos un)), fun past => ?_, fun loaded within => ⟨fun opening => ?_, fun powered => ?_,
      fun isOpen => ?_⟩⟩
    · exact refusal _ (checks.trans ((if_neg (by rw [show s.counters[contactorCounter g].state = .overrun from past]; decide)).trans
        (if_pos past)))
    · exact refusal _ (checks.trans ((if_neg loaded).trans ((if_neg within).trans (if_pos opening))))
    · refine rule _ ((groupClose_of_passed (passed loaded within fun opening => ?_)).trans (congrArg (accept 0x30 tag []) (if_neg fun isOpen => ?_)))
      · rcases powered with closing | closed
        · cases closing.symm.trans opening
        · cases closed.symm.trans opening
      · rcases powered with closing | closed
        · cases closing.symm.trans isOpen
        · cases closed.symm.trans isOpen
    · refine rule _ ((groupClose_of_passed (passed loaded within fun opening => ?_)).trans (congrArg (accept 0x30 tag [])
        ((if_pos isOpen).trans (congrArg settle (closeGroup_eq isOpen)))))
      cases isOpen.symm.trans opening
  · unfold coil
    rw [openGroup_group]
    exact openedGroup_coil _ _
  · rw [openGroup_groups, set_get, if_neg other]
  · rw [openGroup_robot, if_neg fun both => kept.elim (fun away => away both.1) fun un => un both.2]
  · rw [openGroup_robot, if_pos ⟨inZone, closed⟩]

end Sys2Proof.Machine
end


section
/-! GRANT_REQUEST, GRANT_END and GRANT_EXTEND (O56, O57). -/

set_option Elab.async false

namespace Sys2Proof.Machine

/-! ## The checks of a request (R131) -/

/-- A zone byte names zones that there are exactly when its upper half is clear. -/
theorem zones_small_iff : ∀ zones : Byte, zones &&& 0xF0 = 0 ↔ zones.toNat < 16 := by decide

section
variable {s : State} {tag duration : Half} {kind zones : Byte} {badge : Long} {k : GrantKind}

/-- The duration lies in 1..480 and the zone set names zones that there are (R131). -/
def requestRanged (k : GrantKind) (zones : Byte) (duration : Nat) : Prop :=
  1 ≤ duration ∧ duration ≤ 480 ∧ (k = .cabinet ∨ zones.toNat < 16)

theorem liveGrants_full_iff : 8 ≤ liveGrants s ↔ ∀ i : PlaceId, s.access.grants[i] ≠ none := by
  unfold liveGrants
  have length : (allUnits 8).length = 8 := List.length_finRange
  constructor
  · intro full i
    have all := List.countP_eq_length.1 (Nat.le_antisymm List.countP_le_length (length.le.trans full)) i (mem_allUnits i)
    exact Option.isSome_iff_ne_none.1 all
  · intro held
    exact (length.symm.trans (List.countP_eq_length.2 fun i _ => Option.isSome_iff_ne_none.2 (held i)).symm).le

theorem anyWelded_iff (zones : ZoneSet) :
    anyWelded s zones = true ↔ ∃ z : GroupId, zones.getLsbD z.val = true ∧ s.groups[z].state = .faultWeld := by
  unfold anyWelded
  simp only [List.any_eq_true, Bool.and_eq_true, beq_iff_eq]
  exact ⟨fun ⟨z, _, both⟩ => ⟨z, both⟩, fun ⟨z, both⟩ => ⟨z, mem_allUnits z, both⟩⟩

theorem kindConflict_iff (zones : ZoneSet) :
    kindConflict s k zones = true ↔
      ∃ (i : PlaceId) (g : Grant), s.access.grants[i] = some g ∧ g.zones &&& zones ≠ 0
        ∧ ((k = .jog ∧ g.kind ≠ .jog) ∨ (k ≠ .jog ∧ g.kind = .jog)) := by
  cases k with
  | jog =>
    show coveredBy s zones (fun k => k != .jog) = true ↔ _
    simp only [coveredBy_iff, bne_iff_ne]
    refine exists_congr fun i => exists_congr fun g => and_congr_right fun _ => ?_
    simp [and_comm]
  | zoneEntry =>
    show coveredBy s zones (fun k => k == .jog) = true ↔ _
    simp only [coveredBy_iff, beq_iff_eq]
    refine exists_congr fun i => exists_congr fun g => and_congr_right fun _ => ?_
    simp [and_comm]
  | cabinet =>
    show coveredBy s zones (fun k => k == .jog) = true ↔ _
    simp only [coveredBy_iff, beq_iff_eq]
    refine exists_congr fun i => exists_congr fun g => and_congr_right fun _ => ?_
    simp [and_comm]

theorem grantRefusal_of_unranged (unranged : ¬ requestRanged k zones duration.toNat) :
    grantRefusal s k zones duration.toNat = some .badField := by
  unfold requestRanged at unranged
  unfold grantRefusal
  dsimp only
  by_cases outside : duration.toNat < 1 ∨ 480 < duration.toNat
  · exact if_pos outside
  · refine (if_neg outside).trans (if_pos ⟨fun cabinet => unranged ⟨by omega, by omega, .inl cabinet⟩, fun small => ?_⟩)
    exact unranged ⟨by omega, by omega, .inr ((zones_small_iff zones).1 small)⟩

theorem grantRefusal_of_ranged (ranged : requestRanged k zones duration.toNat) :
    grantRefusal s k zones duration.toNat =
      if 8 ≤ liveGrants s then some .full
      else if requestedZones k zones = 0 then some .state
      else if anyWelded s (requestedZones k zones) = true then some .interlock
      else if kindConflict s k (requestedZones k zones) = true then some .interlock
      else none := by
  obtain ⟨low, high, named⟩ := ranged
  unfold grantRefusal
  dsimp only
  refine (if_neg (by omega)).trans (if_neg ?_)
  rintro ⟨other, large⟩
  exact large ((zones_small_iff zones).2 (named.resolve_left other))

theorem grantRequest_of_refusal {code : ReplyCode} (asked : kindField kind = some k)
    (refusal : grantRefusal s k zones duration.toNat = some code) :
    grantRequest tag kind zones badge duration s = refuse 0x40 tag code s := by
  unfold grantRequest
  rw [asked]
  dsimp only
  rw [refusal]

theorem grantRequest_of_place {i : PlaceId} (asked : kindField kind = some k)
    (passed : grantRefusal s k zones duration.toNat = none) (place : freePlace s = some i) :
    grantRequest tag kind zones badge duration s =
      accept 0x40 tag
        (byte1 i.val ++ byte2 s.access.nextNumber.toNat
          ++ byte1 (stateAfter (settle (placeGrant i (newGrant s k (requestedZones k zones) badge duration.toNat) s)) i)
          ++ byte4 (s.time.uptime + BitVec.ofNat 32 (60 * duration.toNat)).toNat)
        (settle (placeGrant i (newGrant s k (requestedZones k zones) badge duration.toNat) s)) := by
  unfold grantRequest
  rw [asked]
  dsimp only
  rw [passed, place]
  rfl

theorem freePlace_of_first {i : PlaceId} (empty : s.access.grants[i] = none)
    (first : ∀ y : PlaceId, y < i → s.access.grants[y] ≠ none) : freePlace s = some i :=
  find_allUnits_eq_some (by rw [empty]; rfl) fun y before =>
    Option.isNone_eq_false_iff.2 (Option.isSome_iff_ne_none.2 (first y before))

/-! ## The grant's place (R129, R132) -/

theorem placeGrant_access (i : PlaceId) (g : Grant) (s : State) :
    (placeGrant i g s).access =
      { s.access with
        grants := s.access.grants.set i (some g), nextNumber := freeNumber (s.putGrant i (some g)) 9 (numberAfter g.number) } := by
  unfold placeGrant raiseGrantState
  simp
  rfl

theorem placeGrant_keepsBut (i : PlaceId) (g : Grant) (s : State) : keepsBut [.access, .events] s (placeGrant i g s) := by
  intro part other
  cases part <;> simp [Part.same, placeGrant, raiseGrantState] at other ⊢

theorem numberAfter_ne_zero (n : Half) : numberAfter n ≠ 0 := fun zero => by
  have value := numberAfter_toNat n
  rw [zero] at value
  exact absurd value (Nat.succ_ne_zero _).symm

theorem placeGrant_numberLive (i : PlaceId) (g : Grant) (s : State) :
    numberLive (placeGrant i g s) (placeGrant i g s).access.nextNumber = false := by
  have same (n : Half) : numberLive (placeGrant i g s) n = numberLive (s.putGrant i (some g)) n := by
    unfold numberLive
    rw [placeGrant_access]
    rfl
  rw [same, placeGrant_access]
  exact (freeNumber_free _ (numberAfter_ne_zero _)).2

end

/-- Settles O56: the checks in their order, and the placed grant with the number that follows. -/
theorem grantRequestsTakeAPlace : Obligations.GrantRequestsTakeAPlace := by
  intro s tag duration kind zones badge k idle asked request refused set ranged welded conflict
  have rule (t : State) (is : grantRequest tag kind zones badge duration s = t) : exec request s = .next t :=
    (hostRequest_of_idle idle request _).trans (congrArg Host.Outcome.next is)
  have refusal (code : ReplyCode) (is : grantRefusal s k zones duration.toNat = some code) : exec request s = refused code :=
    rule _ (grantRequest_of_refusal asked is)
  have named : requestedZones k zones = set := by
    show requestedZones k zones = if k = .cabinet then 0xF else zones.setWidth 4
    cases k <;> rfl
  refine ⟨fun unranged => refusal _ (grantRefusal_of_unranged unranged), fun fine full => ?_, fun i fine empty first => ?_⟩
  · exact refusal _ ((grantRefusal_of_ranged fine).trans (if_pos (liveGrants_full_iff.2 full)))
  · have checks := (grantRefusal_of_ranged (s := s) fine).trans (if_neg fun full => liveGrants_full_iff.1 full i empty)
    rw [named] at checks
    refine ⟨fun none => refusal _ (checks.trans (if_pos none)), fun some barred => ?_, fun some sound apart => ?_⟩
    · refine refusal _ (checks.trans ((if_neg some).trans ?_))
      by_cases weld : welded
      · exact if_pos ((anyWelded_iff _).2 weld)
      · exact (if_neg (mt (anyWelded_iff _).1 weld)).trans (if_pos ((kindConflict_iff _).2 (barred.resolve_left weld)))
    · intro g
      have passed := checks.trans ((if_neg some).trans ((if_neg (mt (anyWelded_iff _).1 sound)).trans
        (if_neg (mt (kindConflict_iff _).1 apart))))
      have grant : newGrant s k (requestedZones k zones) badge duration.toNat = g := by
        rw [named]
        rfl
      have access := placeGrant_access i g s
      refine ⟨placeGrant i g s, _, congrArg Access.grants access, by rw [access],
        by rw [access], placeGrant_numberLive i g s, placeGrant_keepsBut i g s, rfl, rule _ ?_⟩
      rw [grantRequest_of_place asked passed (freePlace_of_first empty first), grant]

/-! ## GRANT_END and GRANT_EXTEND by number (R140, R142) -/

section
variable {s : State} {tag number minutes : Half}

theorem placeOf_of_missing (missing : ∀ (i : PlaceId) (g : Grant), s.access.grants[i] = some g → g.number ≠ number) :
    placeOf s number = none := by
  refine find_allUnits_eq_none fun i => ?_
  cases held : s.access.grants[i] with
  | none => rfl
  | some g => exact beq_eq_false_iff_ne.2 (missing i g held)

theorem placeOf_of_held {i : PlaceId} {g : Grant} (distinct : grantsDistinct s) (held : s.access.grants[i] = some g)
    (carries : g.number = number) : placeOf s number = some i := by
  refine find_allUnits_eq_some (by rw [held]; exact beq_iff_eq.2 carries) fun y before => ?_
  cases other : s.access.grants[y] with
  | none => rfl
  | some h =>
    refine beq_eq_false_iff_ne.2 fun same => ?_
    obtain ⟨-, -, -, apart⟩ := distinct.2 i g held
    exact absurd ((apart y h other).1 (carries.trans same.symm)) (Fin.ne_of_gt before)

theorem grantEnd_of_missing (missing : ∀ (i : PlaceId) (g : Grant), s.access.grants[i] = some g → g.number ≠ number) :
    grantEnd tag number s = refuse 0x41 tag .notFound s := by
  unfold grantEnd
  rw [placeOf_of_missing missing]

theorem grantExtend_of_missing (missing : ∀ (i : PlaceId) (g : Grant), s.access.grants[i] = some g → g.number ≠ number)
    (low : 1 ≤ minutes.toNat) (high : minutes.toNat ≤ 480) :
    grantExtend tag number minutes s = refuse 0x42 tag .notFound s := by
  unfold grantExtend
  dsimp only
  rw [if_neg (by omega), placeOf_of_missing missing]

/-! ### The state a place shows afterwards -/

theorem stateAfter_of_none {t : State} {i : PlaceId} (empty : t.access.grants[i] = none) : stateAfter t i = 6 := by
  unfold stateAfter
  rw [empty]

theorem stateAfter_of_some {t : State} {i : PlaceId} {g : Grant} (held : t.access.grants[i] = some g) :
    stateAfter t i = g.state.code := by
  unfold stateAfter
  rw [held]

theorem stateAfter_endGrant (i : PlaceId) (g : Grant) : stateAfter (endGrant i g s) i = 6 := by
  refine stateAfter_of_none ?_
  have access : (endGrant i g s).access = (s.putGrant i none).access := by
    rw [endGrant_eq]
    exact (raiseEvent_keepsBut _ _ _ _ _ .access (by decide)).trans (released_keepsBut s i g .access (by decide))
  rw [access, putGrant_get, if_pos rfl]

theorem stateAfter_enterGrant (i : PlaceId) (g : Grant) (st : GrantState) : stateAfter (enterGrant i g st s) i = st.code := by
  have held : (enterGrant i g st s).access.grants[i] = some { g with state := st } := by
    rw [enterGrant_access, set_get, if_pos rfl]
  rw [stateAfter_of_some held]

section
variable {i : PlaceId} {g : Grant} (distinct : grantsDistinct s) (held : s.access.grants[i] = some g)
  (carries : g.number = number)
include distinct held carries

theorem grantEnd_of_held :
    grantEnd tag number s = accept 0x41 tag (byte1 (stateAfter (endByRequest i g s) i)) (settle (endByRequest i g s)) := by
  unfold grantEnd
  rw [placeOf_of_held distinct held carries]
  dsimp only
  rw [held]

theorem grantEnd_of_ended (ended : endByRequest i g s = endGrant i g s) :
    grantEnd tag number s = accept 0x41 tag [6] (settle (endGrant i g s)) := by
  rw [grantEnd_of_held distinct held carries, ended, stateAfter_endGrant]
  rfl

theorem grantEnd_of_waiting (waits : endByRequest i g s = enterGrant i g .awaitingClose s) :
    grantEnd tag number s = accept 0x41 tag [4] (settle (enterGrant i g .awaitingClose s)) := by
  rw [grantEnd_of_held distinct held carries, waits, stateAfter_enterGrant]
  rfl

theorem grantEnd_of_awaiting (awaiting : g.state = .awaitingClose) : grantEnd tag number s = accept 0x41 tag [4] (settle s) := by
  have same : endByRequest i g s = s := by
    unfold endByRequest
    rw [awaiting]
  rw [grantEnd_of_held distinct held carries, same, stateAfter_of_some held, awaiting]
  rfl

section
variable (low : 1 ≤ minutes.toNat) (high : minutes.toNat ≤ 480)
include low high

theorem grantExtend_of_refused (state : g.state = .awaitingClose ∨ g.state = .isolationFailed) :
    grantExtend tag number minutes s = refuse 0x42 tag .state s := by
  unfold grantExtend
  dsimp only
  rw [if_neg (by omega), placeOf_of_held distinct held carries]
  dsimp only
  rw [held]
  exact if_pos state

theorem grantExtend_of_allowed (state : ¬(g.state = .awaitingClose ∨ g.state = .isolationFailed)) :
    grantExtend tag number minutes s =
      accept 0x42 tag
        (byte1 (stateAfter (extendGrant i g minutes.toNat s) i)
          ++ byte4 (g.extended s.time.uptime minutes.toNat).expiry.toNat)
        (settle (extendGrant i g minutes.toNat s)) := by
  unfold grantExtend
  dsimp only
  rw [if_neg (by omega), placeOf_of_held distinct held carries]
  dsimp only
  rw [held]
  exact if_neg state

theorem grantExtend_of_running (state : g.state = .draining ∨ g.state = .isolating ∨ g.state = .isOpen) :
    let seconds := min ((g.expiry - s.time.uptime).toNat + 60 * minutes.toNat) 28800
    let expiry := s.time.uptime + BitVec.ofNat 32 seconds
    grantExtend tag number minutes s =
      accept 0x42 tag (byte1 g.state.code ++ byte4 expiry.toNat)
        (settle (s.putGrant i (some { g with expiry := expiry, duration := (seconds + 59) / 60 }))) := by
  intro seconds expiry
  have allowed : ¬(g.state = .awaitingClose ∨ g.state = .isolationFailed) := by
    rcases state with is | is | is <;> rw [is] <;> decide
  have other : g.state ≠ .overdue := by
    rcases state with is | is | is <;> rw [is] <;> decide
  have counted : extendedSeconds g s.time.uptime minutes.toNat = seconds := by
    unfold extendedSeconds
    split
    · next overdue => exact absurd overdue other
    · rfl
  have longer : g.extended s.time.uptime minutes.toNat = { g with expiry := expiry, duration := (seconds + 59) / 60 } := by
    unfold Grant.extended
    rw [counted]
  have done : extendGrant i g minutes.toNat s =
      s.putGrant i (some { g with expiry := expiry, duration := (seconds + 59) / 60 }) := by
    unfold extendGrant
    dsimp only
    rw [if_neg other, longer]
  have shown : stateAfter (s.putGrant i (some { g with expiry := expiry, duration := (seconds + 59) / 60 })) i = g.state.code :=
    stateAfter_of_some (g := { g with expiry := expiry, duration := (seconds + 59) / 60 }) (by rw [putGrant_get, if_pos rfl])
  rw [grantExtend_of_allowed distinct held carries low high allowed, done, longer, shown]

theorem grantExtend_of_overdue (overdue : g.state = .overdue) :
    let expiry := s.time.uptime + BitVec.ofNat 32 (60 * minutes.toNat)
    grantExtend tag number minutes s =
      accept 0x42 tag (2 :: byte4 expiry.toNat)
        (settle (enterGrant i { g with expiry := expiry, duration := minutes.toNat } .isOpen s)) := by
  intro expiry
  have allowed : ¬(g.state = .awaitingClose ∨ g.state = .isolationFailed) := by
    rw [overdue]
    decide
  have longer : g.extended s.time.uptime minutes.toNat = { g with expiry := expiry, duration := minutes.toNat } := by
    unfold Grant.extended extendedSeconds
    rw [overdue]
    dsimp only
    rw [show (60 * minutes.toNat + 59) / 60 = minutes.toNat by omega]
  have done : extendGrant i g minutes.toNat s =
      enterGrant i { g with expiry := expiry, duration := minutes.toNat } .isOpen s := by
    unfold extendGrant
    dsimp only
    rw [if_pos overdue, longer]
  rw [grantExtend_of_allowed distinct held carries low high allowed, done, longer, stateAfter_enterGrant]
  rfl

end

end

end

/-- Settles O57: by the grant that the number names, its state and its doors. -/
theorem grantsAreEndedAndExtended : Obligations.GrantsAreEndedAndExtended := by
  intro s tag number minutes idle
  have endRule (t : State) (is : grantEnd tag number s = t) : exec (.grantEnd tag number) s = .next t :=
    (hostRequest_of_idle idle (.grantEnd tag number) _).trans (congrArg Host.Outcome.next is)
  have extendRule (t : State) (is : grantExtend tag number minutes s = t) : exec (.grantExtend tag number minutes) s = .next t :=
    (hostRequest_of_idle idle (.grantExtend tag number minutes) _).trans (congrArg Host.Outcome.next is)
  refine ⟨fun missing => ⟨endRule _ (grantEnd_of_missing missing), fun low high => extendRule _ (grantExtend_of_missing missing low high)⟩,
    fun i g distinct held carries => ⟨fun state => ?_, fun state => ⟨fun shut => ?_, fun doors => ?_⟩,
      fun awaiting => endRule _ (grantEnd_of_awaiting distinct held carries awaiting), fun low high =>
      ⟨fun state => extendRule _ (grantExtend_of_refused distinct held carries low high state),
        fun state => extendRule _ (grantExtend_of_running distinct held carries low high state),
        fun overdue => extendRule _ (grantExtend_of_overdue distinct held carries low high overdue)⟩⟩⟩
  · refine endRule _ (grantEnd_of_ended distinct held carries ?_)
    unfold endByRequest
    rcases state with is | is <;> rw [is]
  · refine endRule _ (grantEnd_of_ended distinct held carries ?_)
    unfold endByRequest
    rcases state with is | is | is <;> rw [is] <;> exact if_pos shut
  · refine endRule _ (grantEnd_of_waiting distinct held carries ?_)
    unfold endByRequest
    rcases state with is | is | is <;> rw [is] <;> exact if_neg doors

end Sys2Proof.Machine
end


section
/-! Counts, COUNTER_LOAD, COUNTER_LIMITS and COUNTER_RESET (O58). -/

set_option Elab.async false

namespace Sys2Proof.Machine

section
variable {s : State} {tag : Half} {i : CounterId}

/-- A record stored and reported where its state's rank rises (R162). -/
theorem storeCounter_eq (i : CounterId) (c : Counter) (s : State) :
    storeCounter i c s =
      if s.counters[i].state.code < c.state.code then
        raiseEvent .counterState i.val (detail c.state.code) (detail s.counters[i].state.code)
          { s with counters := s.counters.set i c }
      else { s with counters := s.counters.set i c } := rfl

theorem refresh_eq (c : Counter) : c.refresh = { c with state := if c.state = .unloaded then .unloaded else c.computed } := by
  unfold Counter.refresh
  split
  · next unloaded => rw [← unloaded]
  · rfl

theorem countOn_eq (i : CounterId) (s : State) :
    countOn i s = storeCounter i { s.counters[i] with total := min (s.counters[i].total + 1) maxLong }.refresh s := rfl

theorem acceptCounter_eq (kind : Byte) (c : Counter) :
    acceptCounter kind tag i c s =
      accept kind tag (counterRecord (settle (storeCounter i c s)) i) (settle (storeCounter i c s)) := rfl

theorem counterField (i : CounterId) : unitField 28 (BitVec.ofNat 8 i.val) = some i := unitField_ofNat (by decide) i

/-! ## COUNTER_LOAD (R163) -/

theorem counterLoad_of_loaded {total : Long} (loaded : s.counters[i].state ≠ .unloaded) :
    counterLoad tag (BitVec.ofNat 8 i.val) total s = refuse 0x60 tag .state s := by
  unfold counterLoad
  rw [counterField]
  exact if_neg loaded

theorem counterLoad_of_unloaded {total : Long} (unloaded : s.counters[i].state = .unloaded) :
    counterLoad tag (BitVec.ofNat 8 i.val) total s = acceptCounter 0x60 tag i (s.counters[i].loaded total.toNat) s := by
  unfold counterLoad
  rw [counterField]
  exact if_pos unloaded

/-! ## COUNTER_LIMITS (R160) -/

section
variable {warn due : Long} {margin zone : Byte}

theorem counterLimits_of_bad (bad : 50 < margin.toNat ∨ due.toNat < warn.toNat) :
    counterLimits tag (BitVec.ofNat 8 i.val) warn due margin zone s = refuse 0x61 tag .badField s := by
  unfold counterLimits
  rw [counterField]
  exact if_pos bad

variable (sound : ¬(50 < margin.toNat ∨ due.toNat < warn.toNat))
include sound

theorem counterLimits_of_unzoned (unzoned : limitsZone i s.counters[i] zone = none) :
    counterLimits tag (BitVec.ofNat 8 i.val) warn due margin zone s = refuse 0x61 tag .badField s := by
  unfold counterLimits
  rw [counterField]
  dsimp only
  rw [if_neg sound, unzoned]

theorem counterLimits_of_zoned {z : GroupId} (zoned : limitsZone i s.counters[i] zone = some z) :
    counterLimits tag (BitVec.ofNat 8 i.val) warn due margin zone s =
      acceptCounter 0x61 tag i
        { s.counters[i] with warn := warn.toNat, due := due.toNat, margin := margin.toNat, zone := z }.refresh s := by
  unfold counterLimits
  rw [counterField]
  dsimp only
  rw [if_neg sound, zoned]

end

theorem limitsZone_of_out {c : Counter} {zone : Byte} (zoned : 20 ≤ i.val) (out : 4 ≤ zone.toNat) : limitsZone i c zone = none := by
  unfold limitsZone unitField
  rw [if_pos zoned]
  exact dif_neg (Nat.not_lt.2 out)

theorem limitsZone_of_zone {c : Counter} {zone : Byte} {z : GroupId}
    (named : 20 ≤ i.val ∧ zone.toNat = z.val ∨ i.val < 20 ∧ z = c.zone) : limitsZone i c zone = some z := by
  unfold limitsZone
  rcases named with ⟨zoned, same⟩ | ⟨robot, same⟩
  · rw [if_pos zoned]
    unfold unitField
    rw [dif_pos (same ▸ z.isLt)]
    exact congrArg some (Fin.ext same)
  · rw [if_neg (Nat.not_le.2 robot), same]

/-! ## COUNTER_RESET (R164) -/

theorem counterReset_of_unqualified (unqualified : (qualifyingPlace s i).isSome = false) :
    counterReset tag (BitVec.ofNat 8 i.val) s = refuse 0x62 tag .interlock s := by
  unfold counterReset
  rw [counterField]
  dsimp only
  rw [unqualified]
  exact if_neg Bool.false_ne_true

theorem counterReset_of_qualified (qualified : (qualifyingPlace s i).isSome = true) :
    counterReset tag (BitVec.ofNat 8 i.val) s =
      acceptCounter 0x62 tag i { s.counters[i] with total := 0, remainder := 0 }.refresh s := by
  unfold counterReset
  rw [counterField]
  exact if_pos qualified

end

/-- Settles O58: a count by the record it stores, and each request by its checks. -/
theorem countersCountAndAreSet : Obligations.CountersCountAndAreSet := by
  refine ⟨fun s i => ?_, fun s tag i idle => ?_⟩
  · intro c new counted
    rw [countOn_eq, refresh_eq]
    exact storeCounter_eq i _ s
  · intro number stored afresh
    have rule (request : Instr) (act : State → State) (isRule : exec request s = hostRequest request act s) (t : State)
        (is : act s = t) : exec request s = .next t :=
      (isRule.trans (hostRequest_of_idle idle request _)).trans (congrArg Host.Outcome.next is)
    refine ⟨fun total => ⟨fun loaded => rule _ _ rfl _ (counterLoad_of_loaded loaded),
        fun unloaded => rule _ _ rfl _ (counterLoad_of_unloaded unloaded)⟩,
      fun warn due margin zone => ⟨fun bad => rule _ _ rfl _ (counterLimits_of_bad bad), fun small ordered =>
        ⟨fun zoned out => rule _ _ rfl _ (counterLimits_of_unzoned (by omega) (limitsZone_of_out zoned out)),
          fun z named => rule _ _ rfl _ (counterLimits_of_zoned (by omega) (limitsZone_of_zone named))⟩⟩,
      fun unqualified => rule _ _ rfl _ (counterReset_of_unqualified unqualified),
      fun qualified => rule _ _ rfl _ (counterReset_of_qualified qualified)⟩

end Sys2Proof.Machine
end


section
/-! What every operation of the part keeps of power and access (O7, O8): coils need the switch, jobs and valves need power,
and a zone that a grant has isolated has no coil energised. One relation between two states says it, with its general
rules. -/

set_option Elab.async false

namespace Sys2Proof.Machine

/-! ## The relation -/

/-- A robot's valve and window stand as its job asks, and a job it holds is powered: what `fillsPowered` says of one robot. -/
def fillStands (mode : RobotMode) (group : GroupState) (valve window : Bool) : Option Job → Prop
  | none => valve = false ∧ window = false
  | some j =>
    mode = .production ∧ group = .closed ∧ (j.opened = true ↔ j.state ≠ .approach)
      ∧ (j.close.isSome = true ↔ j.state ≠ .approach) ∧ (valve = true ↔ j.state = .filling)
      ∧ (window = true ↔ j.state ≠ .approach)

/-- The fill of a robot of the part stands so. -/
def State.fillStands (s : State) (r : RobotId) : Prop :=
  Machine.fillStands s.robots[r].mode s.groups[s.robots[r].zone].state s.doses[r].valve s.doses[r].window s.robots[r].job

theorem fillsPowered_iff (s : State) : fillsPowered s ↔ ∀ r : RobotId, s.fillStands r := by
  refine forall_congr' fun r => ?_
  unfold State.fillStands fillStands
  cases s.robots[r].job with
  | none => simp
  | some j => simp [and_assoc]

/-- Coils, jobs and valves stand as power allows. -/
structure Powered (s : State) : Prop where
  coils : coilsSwitched s
  fills : ∀ r : RobotId, s.fillStands r

/-- From s to t power and the grants' isolation are kept. -/
structure Guarded (s t : State) : Prop where
  power : Powered s → Powered t
  zones : grantedZonesUnpowered s → grantedZonesUnpowered t

theorem Guarded.refl (s : State) : Guarded s s := ⟨id, id⟩

theorem Guarded.trans {s t u : State} (first : Guarded s t) (second : Guarded t u) : Guarded s u :=
  ⟨second.power ∘ first.power, second.zones ∘ first.zones⟩

/-- The operation keeps both properties. -/
abbrev Guarding (op : State → State) : Prop := ∀ ⦃s₀ s : State⦄, Guarded s₀ s → Guarded s₀ (op s)

theorem forEach_guarded {α : Type} (us : List α) {act : α → State → State} (each : ∀ u, Guarding (act u)) :
    Guarding (forEach us act) := fun s₀ s h =>
  forEach_invariant (Guarded s₀) us act (fun u _ before => each u before) s h

/-! ## The fill of one robot -/

section
variable {s t : State} {r : RobotId}

theorem fillStands_of_idle (job : s.robots[r].job = none) (valve : s.doses[r].valve = false)
    (window : s.doses[r].window = false) : s.fillStands r := by
  unfold State.fillStands
  rw [job]
  exact ⟨valve, window⟩

theorem State.fillStands.idle (own : s.fillStands r) (job : s.robots[r].job = none) :
    s.doses[r].valve = false ∧ s.doses[r].window = false := by
  unfold State.fillStands at own
  rwa [job] at own

/-- What stands of a robot that holds a job. -/
theorem State.fillStands.busy (own : s.fillStands r) {j : Job} (held : s.robots[r].job = some j) :
    s.robots[r].mode = .production ∧ s.groups[s.robots[r].zone].state = .closed ∧ (j.opened = true ↔ j.state ≠ .approach)
      ∧ (j.close.isSome = true ↔ j.state ≠ .approach) ∧ (s.doses[r].valve = true ↔ j.state = .filling)
      ∧ (s.doses[r].window = true ↔ j.state ≠ .approach) := by
  unfold State.fillStands at own
  rwa [held] at own

theorem fillStands_of_busy {j : Job} (held : t.robots[r].job = some j) (mode : t.robots[r].mode = .production)
    (group : t.groups[t.robots[r].zone].state = .closed) (opened : j.opened = true ↔ j.state ≠ .approach)
    (close : j.close.isSome = true ↔ j.state ≠ .approach) (valve : t.doses[r].valve = true ↔ j.state = .filling)
    (window : t.doses[r].window = true ↔ j.state ≠ .approach) : t.fillStands r := by
  unfold State.fillStands
  rw [held]
  exact ⟨mode, group, opened, close, valve, window⟩

/-- A robot that is not in PRODUCTION holds no job. -/
theorem Powered.no_job (powered : Powered s) (mode : s.robots[r].mode ≠ .production) : s.robots[r].job = none := by
  cases held : s.robots[r].job with
  | none => rfl
  | some j => exact absurd ((powered.fills r).busy held).1 mode

/-- A robot whose group is not CLOSED holds no job. -/
theorem Powered.no_job_of_group (powered : Powered s) (group : s.groups[s.robots[r].zone].state ≠ .closed) :
    s.robots[r].job = none := by
  cases held : s.robots[r].job with
  | none => rfl
  | some j => exact absurd ((powered.fills r).busy held).2.1 group

/-! ## Changes that leave the fills as they are -/

/-- What a fill asks of its job: the job's state, and whether its valve had opened and it has a close count. -/
def Job.stage (j : Job) : JobState × Bool × Bool := (j.state, j.opened, j.close.isSome)

/-- From s to t the jobs, the valves and the windows stand as they did, and a job that is held keeps its power. -/
structure SameFills (s t : State) : Prop where
  jobs : ∀ r : RobotId, t.robots[r].job.map Job.stage = s.robots[r].job.map Job.stage := by exact fun _ => rfl
  modes : ∀ r : RobotId, s.robots[r].job ≠ none → t.robots[r].mode = s.robots[r].mode := by exact fun _ _ => rfl
  zones : ∀ r : RobotId, s.robots[r].job ≠ none → t.robots[r].zone = s.robots[r].zone := by exact fun _ _ => rfl
  valves : ∀ r : RobotId, t.doses[r].valve = s.doses[r].valve := by exact fun _ => rfl
  windows : ∀ r : RobotId, t.doses[r].window = s.doses[r].window := by exact fun _ => rfl
  closed : ∀ g : GroupId, s.groups[g].state = .closed → t.groups[g].state = .closed := by exact fun _ => id

theorem SameFills.fillStands (same : SameFills s t) (own : s.fillStands r) : t.fillStands r := by
  have jobs := same.jobs r
  cases held : s.robots[r].job with
  | none =>
    rw [held, Option.map_none, Option.map_eq_none_iff] at jobs
    obtain ⟨valve, window⟩ := own.idle held
    exact fillStands_of_idle jobs (by rw [same.valves, valve]) (by rw [same.windows, window])
  | some j =>
    have busy : s.robots[r].job ≠ none := by
      rw [held]
      exact Option.some_ne_none j
    rw [held, Option.map_some, Option.map_eq_some_iff] at jobs
    obtain ⟨k, holds, stage⟩ := jobs
    simp only [Job.stage, Prod.mk.injEq] at stage
    obtain ⟨state, hasOpened, hasClose⟩ := stage
    obtain ⟨mode, group, opened, close, valve, window⟩ := own.busy held
    refine fillStands_of_busy holds (by rw [same.modes r busy, mode]) ?_ (by rw [hasOpened, state]; exact opened)
      (by rw [hasClose, state]; exact close) (by rw [same.valves, state]; exact valve)
      (by rw [same.windows, state]; exact window)
    have zone := congrArg (fun z : GroupId => t.groups[z].state) (same.zones r busy)
    exact zone.trans (same.closed _ group)

/-- Coils go off, or stand with the switch ON. -/
theorem coilsSwitched_of_lowered (lowered : ∀ g : GroupId, coil t g = true → coil s g = true)
    (switch : s.mainSwitch.state = .on → t.mainSwitch.state = .on) (switched : coilsSwitched s) : coilsSwitched t := fun g on =>
  switch (switched g (lowered g on))

/-- No grant of t is new to its zones: it had ended its drain in s, for the same kind and zones, or its zones have no coil
energised. -/
def grantsGoOn (s t : State) : Prop :=
  ∀ (i : PlaceId) (g : Grant), t.access.grants[i] = some g → g.kind ≠ .jog → g.state ≠ .draining →
    (∃ h : Grant, s.access.grants[i] = some h ∧ h.kind = g.kind ∧ h.state ≠ .draining ∧ h.zones = g.zones)
      ∨ ∀ z : GroupId, g.covers z = true → coil t z = false

theorem grantsGoOn_of_same (same : t.access.grants = s.access.grants) : grantsGoOn s t := fun _ g held _ ended =>
  .inl ⟨g, same ▸ held, rfl, ended, rfl⟩

/-- Coils that go off and grants that go on keep the isolated zones unpowered. -/
theorem isolated_of_lowered (lowered : ∀ g : GroupId, coil t g = true → coil s g = true) (goOn : grantsGoOn s t)
    (isolated : grantedZonesUnpowered s) : grantedZonesUnpowered t := by
  intro i g held notJog ended z covers
  obtain ⟨h, stood, kind, endedBefore, zones⟩ | off := goOn i g held notJog ended
  · refine Bool.eq_false_iff.2 fun on => ?_
    have off := isolated i h stood (kind ▸ notJog) endedBefore z (by unfold Grant.covers at covers ⊢; rwa [zones])
    exact Bool.false_ne_true (off.symm.trans (lowered z on))
  · exact off z covers

/-- The rule of every operation that touches no fill. -/
theorem guarded_of_same (fills : Powered s → SameFills s t)
    (lowered : ∀ g : GroupId, coil t g = true → coil s g = true := by exact fun _ => id)
    (switch : s.mainSwitch.state = .on → t.mainSwitch.state = .on := by exact id)
    (goOn : grantsGoOn s t := by exact grantsGoOn_of_same rfl) : Guarded s t where
  power powered := ⟨coilsSwitched_of_lowered lowered switch powered.coils, fun r => (fills powered).fillStands (powered.fills r)⟩
  zones := isolated_of_lowered lowered goOn

/-- The parts that the two properties speak of. -/
def State.core (s : State) : Vector Robot 8 × Vector Dose 8 × Vector Group 4 × MainSwitch × Access :=
  (s.robots, s.doses, s.groups, s.mainSwitch, s.access)

theorem guarded_of_core (same : t.core = s.core) : Guarded s t := by
  simp only [State.core, Prod.mk.injEq] at same
  obtain ⟨robots, doses, groups, mainSwitch, access⟩ := same
  refine guarded_of_same (fun _ => { jobs := ?_, modes := ?_, zones := ?_, valves := ?_, windows := ?_, closed := ?_ })
    (fun g on => by rwa [coil_congr groups] at on) (by rw [mainSwitch]; exact id) (grantsGoOn_of_same (by rw [access]))
  · intro r
    rw [robots]
  · intro r _
    rw [robots]
  · intro r _
    rw [robots]
  · intro r
    rw [doses]
  · intro r
    rw [doses]
  · intro g
    rw [groups]
    exact id

/-! ## Changes of one robot's fill -/

/-- Beside one robot's record and dose nothing that the properties speak of changes. -/
structure OnlyRobot (r : RobotId) (s t : State) : Prop where
  robots : ∀ q : RobotId, q ≠ r → t.robots[q] = s.robots[q]
  doses : ∀ q : RobotId, q ≠ r → t.doses[q] = s.doses[q]
  groups : t.groups = s.groups
  mainSwitch : t.mainSwitch = s.mainSwitch
  access : t.access = s.access

theorem OnlyRobot.guarded (only : OnlyRobot r s t) (own : Powered s → t.fillStands r) : Guarded s t := by
  obtain ⟨robots, doses, groups, mainSwitch, access⟩ := only
  have lowered (g : GroupId) (on : coil t g = true) : coil s g = true := by rwa [coil_congr groups] at on
  refine ⟨fun powered => ⟨coilsSwitched_of_lowered lowered (by rw [mainSwitch]; exact id) powered.coils, fun q => ?_⟩,
    isolated_of_lowered lowered (grantsGoOn_of_same (by rw [access]))⟩
  by_cases same : q = r
  · rw [same]
    exact own powered
  · have stands := powered.fills q
    unfold State.fillStands at stands ⊢
    simp only [robots q same, doses q same, groups]
    exact stands

end

/-! ## The basic updates -/

theorem raiseEvent_guarded (kind : EventKind) (unit : Nat) (detail1 detail2 : Half) : Guarding (raiseEvent kind unit detail1 detail2) :=
  fun _ _ h => h.trans (guarded_of_core (by simp [State.core]))

theorem raiseCommand_guarded (r : RobotId) (c : BusCommand) : Guarding (raiseCommand r c) :=
  fun _ _ h => h.trans (guarded_of_core (by simp [State.core, raiseCommand_frame]))

theorem countOn_guarded (i : CounterId) : Guarding (countOn i) := fun _ _ h => h.trans (guarded_of_core (by simp [State.core, countOn_frame]))

theorem accept_guarded (kind : Byte) (tag : Half) (fields : List Byte) : Guarding (accept kind tag fields) :=
  fun _ _ h => h.trans (guarded_of_core (by simp [State.core]))

theorem refuse_guarded (kind : Byte) (tag : Half) (code : ReplyCode) : Guarding (refuse kind tag code) :=
  fun _ _ h => h.trans (guarded_of_core (by simp [State.core]))

theorem judgeReleases_guarded : Guarding judgeReleases := fun _ _ h => h.trans (guarded_of_core (by simp [State.core, judgeReleases_frame]))

theorem raiseBroadcast_guarded : Guarding raiseBroadcast := fun _ _ h => h.trans (guarded_of_core rfl)

theorem mapRobot_only (r : RobotId) (f : Robot → Robot) (s : State) : OnlyRobot r s (s.mapRobot r f) :=
  ⟨fun q other => by rw [mapRobot_get, if_neg other], fun _ _ => rfl, rfl, rfl, rfl⟩

/-- A change of a robot's record that leaves its job's stage, and its mode and zone while it holds a job. -/
theorem mapRobot_guarded {r : RobotId} {f : Robot → Robot} {s : State}
    (job : (f s.robots[r]).job.map Job.stage = s.robots[r].job.map Job.stage)
    (stands : Powered s → s.robots[r].job ≠ none →
      (f s.robots[r]).mode = s.robots[r].mode ∧ (f s.robots[r]).zone = s.robots[r].zone) : Guarded s (s.mapRobot r f) :=
  guarded_of_same fun powered =>
    { jobs := fun q => by
        rw [mapRobot_get]
        split
        · next same => rw [same, job]
        · rfl
      modes := fun q busy => by
        rw [mapRobot_get]
        split
        · next same => rw [same]; exact (stands powered (same ▸ busy)).1
        · rfl
      zones := fun q busy => by
        rw [mapRobot_get]
        split
        · next same => rw [same]; exact (stands powered (same ▸ busy)).2
        · rfl }

theorem mapDose_guarded (r : RobotId) {f : Dose → Dose} ⦃s₀ s : State⦄ (h : Guarded s₀ s)
    (valve : ∀ d, (f d).valve = d.valve := by exact fun _ => rfl)
    (window : ∀ d, (f d).window = d.window := by exact fun _ => rfl) : Guarded s₀ (s.mapDose r f) :=
  h.trans <| guarded_of_same fun _ =>
    { valves := fun q => by
        rw [mapDose_get]
        split
        · next same => rw [valve, same]
        · rfl
      windows := fun q => by
        rw [mapDose_get]
        split
        · next same => rw [window, same]
        · rfl }

end Sys2Proof.Machine
end


section
/-! What the operations of the robots and their fills keep of power and access. -/

set_option Elab.async false

namespace Sys2Proof.Machine

/-! ## The ends of a job (R75 to R78) -/

theorem failJob_only (r : RobotId) (outcome : FillOutcome) (ending : Ending) (s : State) :
    OnlyRobot r s (failJob r outcome ending s) where
  robots q other := by rw [failJob_robots, set_get, if_neg other]
  doses q other := failJob_doses_other other outcome ending s
  groups := by simp only [failJob_frame]
  mainSwitch := by simp only [failJob_frame]
  access := by simp only [failJob_frame]

theorem failJob_guarded (r : RobotId) (outcome : FillOutcome) (ending : Ending) : Guarding (failJob r outcome ending) :=
  fun _ s h => h.trans <| (failJob_only r outcome ending s).guarded fun powered => by
    cases held : s.robots[r].job with
    | none =>
      rw [failJob_none held]
      exact powered.fills r
    | some j =>
      refine fillStands_of_idle ?_ ?_ ?_
      · rw [failJob_robots, set_get, if_pos rfl]
      · rw [failJob_doses held, set_get, if_pos rfl]
        rfl
      · rw [failJob_doses held, set_get, if_pos rfl]
        rfl

theorem abortJob_guarded (r : RobotId) : Guarding (abortJob r) := failJob_guarded r .aborted .aborted

theorem abortJob_job (r : RobotId) (s : State) : (abortJob r s).robots[r].job = none := by
  unfold abortJob
  rw [failJob_robots, set_get, if_pos rfl]

section
variable {r : RobotId} {j : Job} {s : State} (held : s.robots[r].job = some j) (cut : Bool)
include held

theorem reportJob_robots : (reportJob r cut s).robots = s.robots.set r { s.robots[r] with job := none } := by
  obtain ⟨robots, -⟩ := learning_frame r j cut s
  rw [reportJob_some held]
  unfold dropJob State.mapRobot updateAt
  dsimp only [State.mapDose]
  rw [robots]

theorem reportJob_doses_other {q : RobotId} (other : q ≠ r) : (reportJob r cut s).doses[q] = s.doses[q] := by
  obtain ⟨doses, -⟩ := learning_parts r j cut s
  rw [reportJob_some held]
  simp only [dropJob_frame]
  rw [mapDose_get, if_neg other, doses, set_get, if_neg other]

theorem reportJob_dose :
    (reportJob r cut s).doses[r].valve = s.doses[r].valve ∧ (reportJob r cut s).doses[r].window = false := by
  obtain ⟨doses, -⟩ := learning_parts r j cut s
  rw [reportJob_some held]
  simp only [dropJob_frame]
  rw [mapDose_get, doses, if_pos rfl, set_get, if_pos rfl]
  exact ⟨rfl, rfl⟩

theorem reportJob_only : OnlyRobot r s (reportJob r cut s) where
  robots q other := by rw [reportJob_robots held, set_get, if_neg other]
  doses q other := reportJob_doses_other held cut other
  groups := by simp only [reportJob_frame]
  mainSwitch := by simp only [reportJob_frame]
  access := by simp only [reportJob_frame]

/-- A job that has settled reports with its valve closed. -/
theorem reportJob_guarded (settling : j.state = .settling) ⦃s₀ : State⦄ (h : Guarded s₀ s) :
    Guarded s₀ (reportJob r cut s) :=
  h.trans <| (reportJob_only held cut).guarded fun powered => by
    obtain ⟨-, -, -, -, valve, -⟩ := (powered.fills r).busy held
    obtain ⟨same, window⟩ := reportJob_dose held cut
    refine fillStands_of_idle ?_ ?_ window
    · rw [reportJob_robots held, set_get, if_pos rfl]
    · rw [same]
      exact Bool.eq_false_iff.2 fun on => absurd (valve.1 on) (by rw [settling]; decide)

end

/-! ## The course of a fill (R74, R96) -/

theorem drive_valve (d : Dose) (on : Bool) : (d.drive on).valve = on := by
  unfold Dose.drive
  split
  · assumption
  · rfl

theorem startFilling_guarded (r : RobotId) : Guarding (startFilling r) := fun _ s h => by
  cases held : s.robots[r].job with
  | none => rwa [startFilling_of_other fun j holds => by rw [held] at holds; cases holds]
  | some j =>
    by_cases approach : j.state = .approach
    · rw [startFilling_of_approach held approach]
      refine h.trans <| OnlyRobot.guarded (r := r) ⟨fun q other => ?_, fun q other => ?_, rfl, rfl, rfl⟩ fun powered => ?_
      · dsimp only
        rw [set_get, if_neg other]
      · dsimp only
        rw [set_get, if_neg other]
      · obtain ⟨mode, group, -, -, -, -⟩ := (powered.fills r).busy held
        unfold State.fillStands
        simp only [set_get, if_true, drive_valve]
        exact ⟨mode, group, by simp, by simp, by simp, by simp⟩
    · rwa [startFilling_of_other fun k holds => by rw [held] at holds; cases holds; exact approach]

theorem flowing_guarded (r : RobotId) : Guarding (State.flowing r) := fun _ _ h => mapDose_guarded r h

/-- The job of a robot that closes its valve at the close count settles from there. -/
theorem settling_guarded {r : RobotId} {j k : Job} {s : State} (held : s.robots[r].job = some j) (filling : j.state = .filling)
    (settling : k.state = .settling) (opened : k.opened = j.opened) (close : k.close = j.close) :
    Guarded s ((s.mapDose r fun d => d.drive false).mapRobot r fun rb => { rb with job := some k }) := by
  refine OnlyRobot.guarded (r := r) ⟨fun q other => ?_, fun q other => ?_, rfl, rfl, rfl⟩ fun powered => ?_
  · rw [mapRobot_get, if_neg other]
    rfl
  · simp only [mapRobot_frame]
    rw [mapDose_get, if_neg other]
  · obtain ⟨mode, group, hasOpened, hasClose, -, window⟩ := (powered.fills r).busy held
    rw [filling] at hasOpened hasClose window
    unfold State.fillStands
    simp only [mapRobot_get, mapRobot_frame, mapDose_frame, mapDose_get, if_true, drive_valve]
    refine ⟨mode, group, ?_, ?_, ?_, ?_⟩
    · rw [opened, hasOpened, settling]
      decide
    · rw [close, hasClose, settling]
      decide
    · rw [settling]
      decide
    · rw [drive_false, settling]
      exact window.trans (by decide)

theorem countPulse_guarded (r : RobotId) : Guarding (countPulse r) := fun _ s h => by
  have counted := flowing_guarded r h
  cases held : s.robots[r].job with
  | none =>
    unfold countPulse
    rw [held]
    exact counted
  | some j =>
    have holds : (s.flowing r).robots[r].job = some j := held
    by_cases filling : j.state = .filling
    · by_cases reached : j.closing.count ≤ min (s.doses[r].flow + 1) 1048575
      · rw [countPulse_of_reached held filling reached]
        exact counted.trans (settling_guarded holds filling rfl rfl rfl)
      · rw [countPulse_of_below held filling (Nat.lt_of_not_le reached)]
        refine counted.trans (mapRobot_guarded ?_ fun _ _ => ⟨rfl, rfl⟩)
        rw [holds]
        rfl
    · rw [countPulse_of_settling held filling]
      exact counted

theorem countDrip_guarded (r : RobotId) : Guarding (countDrip r) := fun s₀ s h => by
  have counted (n : Nat) : Guarded s₀ (s.mapDose r fun d => { d with drip := n }) := mapDose_guarded r h
  unfold countDrip
  dsimp only
  split
  · exact raiseEvent_guarded _ _ _ _ (counted _)
  · exact counted _

theorem flowPulse_guarded (r : RobotId) : Guarding (flowPulse r) := by
  grind [flowPulse, countPulse_guarded, countDrip_guarded]

/-! ## Robots (R64 to R69, R79, R80) -/

/-- A change of a robot's record that leaves its job's stage, and its mode and zone while it holds a job. -/
theorem changeRobot_guarded {r : RobotId} {f : Robot → Robot} ⦃s₀ s : State⦄ (h : Guarded s₀ s)
    (stands : Powered s → s.robots[r].job ≠ none →
      (f s.robots[r]).mode = s.robots[r].mode ∧ (f s.robots[r]).zone = s.robots[r].zone)
    (job : ∀ rb, (f rb).job = rb.job := by exact fun _ => rfl) : Guarded s₀ (changeRobot r f s) := by
  have changed : Guarded s₀ (s.mapRobot r f) := h.trans (mapRobot_guarded (by rw [job]) stands)
  unfold changeRobot
  dsimp only
  split
  · exact changed
  · exact raiseEvent_guarded _ _ _ _ changed

/-- A change of the record of a robot that holds no job. -/
theorem changeRobot_guarded_of_idle {r : RobotId} {f : Robot → Robot} ⦃s₀ s : State⦄ (h : Guarded s₀ s)
    (idle : Powered s → s.robots[r].job = none) (job : ∀ rb, (f rb).job = rb.job := by exact fun _ => rfl) :
    Guarded s₀ (changeRobot r f s) := changeRobot_guarded h (fun powered busy => absurd (idle powered) busy) job

/-- A change of a robot's record beside its mode, its job and its zone. -/
theorem markRobot_guarded {r : RobotId} {f : Robot → Robot} ⦃s₀ s : State⦄ (h : Guarded s₀ s)
    (mode : ∀ rb, (f rb).mode = rb.mode := by exact fun _ => rfl) (zone : ∀ rb, (f rb).zone = rb.zone := by exact fun _ => rfl)
    (job : ∀ rb, (f rb).job = rb.job := by exact fun _ => rfl) : Guarded s₀ (s.mapRobot r f) :=
  h.trans (mapRobot_guarded (by rw [job]) fun _ _ => ⟨mode _, zone _⟩)

theorem enterFaulted_guarded (r : RobotId) (why : FaultReason) : Guarding (enterFaulted r why) := fun _ s h =>
  changeRobot_guarded_of_idle (abortJob_guarded r h) fun _ => abortJob_job r s

theorem dropLostCommands_guarded (r : RobotId) : Guarding (dropLostCommands r) := fun _ _ h => h.trans (guarded_of_core rfl)

theorem enterLost_guarded (r : RobotId) : Guarding (enterLost r) := fun _ s h =>
  dropLostCommands_guarded r <| changeRobot_guarded_of_idle (raiseEvent_guarded _ _ _ _ (abortJob_guarded r h)) fun _ => by
    simp only [raiseEvent_frame]
    exact abortJob_job r s

theorem countFailure_guarded (r : RobotId) : Guarding (countFailure r) := by
  intro s₀ s h
  have counted : Guarded s₀ (s.mapRobot r fun rb => { rb with failures := min (rb.failures + 1) 3 }) := markRobot_guarded h
  grind [countFailure, enterLost_guarded]

/-- A LOST robot holds no job as its loss ends. -/
theorem endLoss_guarded {r : RobotId} {s : State} (lost : s.robots[r].mode = .lost) (st : RobotStatus) ⦃s₀ : State⦄
    (h : Guarded s₀ s) : Guarded s₀ (endLoss r st s) :=
  changeRobot_guarded_of_idle h (fun powered => powered.no_job (by rw [lost]; decide)) fun _ => by
    split
    · rfl
    · rfl

theorem takePoll_guarded (r : RobotId) (st : RobotStatus) : Guarding (takePoll r st) := by
  intro s₀ s h
  have recorded : Guarded s₀ (s.mapRobot r fun rb => { rb with lastStatus := some st, failures := 0 }) := markRobot_guarded h
  dsimp only [takePoll]
  split
  case isTrue lost =>
    refine endLoss_guarded ?_ st recorded
    rw [mapRobot_get, if_pos rfl]
    exact lost
  case isFalse =>
    split
    · split
      · exact enterFaulted_guarded r _ recorded
      · exact recorded
    · exact startFilling_guarded r recorded
    · exact recorded

theorem valveFault_guarded (r : RobotId) (why : FaultReason) : Guarding (valveFault r why) := by
  grind [valveFault, enterFaulted_guarded, raiseEvent_guarded]

theorem endCheck_guarded (r : RobotId) : Guarding fun s => s.mapDose r fun d => { d with check := none } :=
  fun _ _ h => mapDose_guarded r h

theorem checkExpiry_guarded (r : RobotId) : Guarding (checkExpiry r) := by
  grind [checkExpiry, endCheck_guarded, valveFault_guarded]

theorem stuckValve_guarded (r : RobotId) : Guarding (stuckValve r) := by
  grind [stuckValve, valveFault_guarded]

theorem feedbackChange_guarded (r : RobotId) (showsOpen : Bool) : Guarding (feedbackChange r showsOpen) := by
  intro s₀ s h
  have read : Guarded s₀ { s with pins := { s.pins with feedback := s.pins.feedback.set r showsOpen } } :=
    h.trans (guarded_of_core rfl)
  grind [feedbackChange, endCheck_guarded, stuckValve_guarded]

theorem noFlowExpiry_guarded (r : RobotId) : Guarding (noFlowExpiry r) := by
  grind [noFlowExpiry, raiseEvent_guarded, abortJob_guarded]

theorem settleExpiry_guarded (r : RobotId) : Guarding (settleExpiry r) := by
  grind [settleExpiry, reportJob_guarded]

theorem valveSecond_guarded (r : RobotId) : Guarding (valveSecond r) := by
  intro s₀ s h
  have counted (c : Vector Counter 28) : Guarded s₀ { s with counters := c } := h.trans (guarded_of_core rfl)
  unfold valveSecond
  dsimp only
  split
  · exact countOn_guarded _ (counted _)
  · exact h

/-- A robot without a job enters SERVICE. -/
theorem enterService_guarded {r : RobotId} {s : State} (idle : s.robots[r].job = none) (jog : Bool) ⦃s₀ : State⦄
    (h : Guarded s₀ s) : Guarded s₀ (enterService jog r s) := by
  have entered := changeRobot_guarded_of_idle (r := r) (f := fun rb =>
    { rb with mode := .service, resume := s.robots[r].mode == .production, armed := false, jog := jog }) h fun _ => idle
  grind [enterService, raiseCommand_guarded]

theorem leaveService_guarded (r : RobotId) : Guarding (leaveService r) := by
  intro s₀ s h
  unfold leaveService
  dsimp only
  split
  case isFalse => exact h
  case isTrue serviced =>
    have left := changeRobot_guarded_of_idle (r := r) (f := fun rb =>
      { rb with mode := if rb.resume then .production else .manual, armed := false, resume := false, jog := false }) h
      fun powered => powered.no_job (by rw [serviced]; decide)
    split
    · exact raiseCommand_guarded _ _ left
    · exact left

theorem intrudeRobot_guarded (r : RobotId) : Guarding (intrudeRobot r) := by
  intro s₀ s h
  dsimp only [intrudeRobot]
  split
  case h_1 => exact changeRobot_guarded_of_idle (abortJob_guarded r h) fun _ => abortJob_job r s
  case h_2 serviced =>
    have left := changeRobot_guarded_of_idle (r := r) (f := fun rb =>
      { rb with resume := false, armed := false, mode := .manual, jog := false }) h
      fun powered => powered.no_job (by rw [serviced]; decide)
    split
    · exact raiseCommand_guarded _ _ left
    · exact left
  case h_3 => exact markRobot_guarded h

/-! ## The limits of the fill section and assignment (R70, R73, R75, R76) -/

theorem exitLimit_guarded (r : RobotId) : Guarding (exitLimit r) := by
  grind [exitLimit, reportJob_guarded, failJob_guarded]

theorem approachLimit_guarded (r : RobotId) : Guarding (approachLimit r) := by
  grind [approachLimit, failJob_guarded]

theorem armRobot_guarded (r : RobotId) : Guarding (armRobot r) := by
  intro s₀ s h
  have armed : Guarded s₀ (s.mapRobot r fun rb => { rb with armed := true }) := markRobot_guarded h
  grind [armRobot]

theorem editSlot_guarded (t : Half) (f : Slot → Slot) : Guarding (editSlot t f) := fun _ _ h =>
  h.trans (guarded_of_core (by simp [State.core, editSlot_frame]))

theorem activateStaged_valve (d : Dose) : d.activateStaged.valve = d.valve ∧ d.activateStaged.window = d.window := by
  unfold Dose.activateStaged
  split
  · exact ⟨rfl, rfl⟩
  · exact ⟨rfl, rfl⟩

/-- A job in APPROACH is given to an idle robot in PRODUCTION whose group is CLOSED. -/
theorem giveJob_guarded {r : RobotId} {j : Job} {s : State} (idle : s.robots[r].job = none)
    (mode : s.robots[r].mode = .production) (group : s.groups[s.robots[r].zone].state = .closed) (approach : j.state = .approach)
    (opened : j.opened = false) (close : j.close = none) : Guarded s (s.mapRobot r fun rb => { rb with job := some j }) :=
  (mapRobot_only r _ s).guarded fun powered => by
    obtain ⟨valve, window⟩ := (powered.fills r).idle idle
    unfold State.fillStands
    simp only [mapRobot_get, mapRobot_frame, if_true, valve, window]
    refine ⟨mode, group, ?_, ?_, ?_, ?_⟩
    · simp [opened, approach]
    · simp [close, approach]
    · simp [approach]
    · simp [approach]

theorem assign_guarded {r : RobotId} {s : State} (free : available s r = true) (t : Half) ⦃s₀ : State⦄ (h : Guarded s₀ s) :
    Guarded s₀ (assign r t s) := by
  obtain ⟨mode, -, idle, group, -⟩ := (available_iff s r).1 free
  have ready := mapDose_guarded r h (fun d => (activateStaged_valve d).1) fun d => (activateStaged_valve d).2
  exact raiseCommand_guarded _ _ (editSlot_guarded _ _ (ready.trans (giveJob_guarded idle mode group rfl rfl rfl)))

theorem assignEntry_guarded : Guarding assignEntry := by
  intro s₀ s h
  unfold assignEntry
  dsimp only
  split
  case isFalse => exact h
  case isTrue =>
    split
    case h_1 r found => exact assign_guarded (List.find?_some found) _ h
    case h_2 => exact (editSlot_guarded _ _ h).trans (guarded_of_core rfl)

end Sys2Proof.Machine
end


section
/-! What the operations of the bus, the power groups and the main switch keep of power and access. -/

set_option Elab.async false

namespace Sys2Proof.Machine

/-! ## The robot bus (4.7) -/

theorem startTransaction_guarded : Guarding startTransaction := fun _ _ h =>
  h.trans (guarded_of_core (by simp [State.core, startTransaction_frame]))

theorem endTransaction_guarded : Guarding endTransaction := fun _ _ h => h.trans (guarded_of_core rfl)

theorem removeEntry_guarded (r : RobotId) (serial : Nat) : Guarding (removeEntry r serial) := fun _ _ h =>
  h.trans (guarded_of_core rfl)

theorem broadcastSent_guarded : Guarding broadcastSent := by
  intro s₀ s h
  have ended : Guarded s₀ { s with bus := { s.bus with transaction := none, broadcast := false } } := h.trans (guarded_of_core rfl)
  unfold broadcastSent
  split
  · split
    · exact h
    · exact forEach_guarded _ (fun r _ t k => markRobot_guarded k) ended
  · exact h

theorem commandFailed_guarded (r : RobotId) (serial : Nat) : Guarding (commandFailed r serial) := fun _ _ h =>
  h.trans (guarded_of_core (by simp [State.core, commandFailed_frame]))

theorem commandSucceeded_guarded (r : RobotId) (serial : Nat) (c : BusCommand) : Guarding (commandSucceeded r serial c) :=
  fun _ _ h => markRobot_guarded (removeEntry_guarded r serial h)

theorem transactionFailed_guarded (r : RobotId) (serial : Nat) (c : BusCommand) : Guarding (transactionFailed r serial c) := by
  grind [transactionFailed, countFailure_guarded, removeEntry_guarded, commandFailed_guarded]

theorem commandDone_guarded (acked : Bool) : Guarding (commandDone acked) := by
  grind [commandDone, commandSucceeded_guarded, transactionFailed_guarded, endTransaction_guarded]

theorem pollDone_guarded (acked : Bool) (statusByte codeByte : Byte) : Guarding (pollDone acked statusByte codeByte) := by
  grind [pollDone, takePoll_guarded, removeEntry_guarded, transactionFailed_guarded, endTransaction_guarded]

theorem holdClock_guarded (r : RobotId) : Guarding fun s => { s with bus := { s.bus with clockHeldBy := some r } } := fun _ _ h =>
  h.trans (guarded_of_core rfl)

theorem clockHold_guarded (r : RobotId) : Guarding (clockHold r) := by
  intro s₀ s h
  unfold clockHold
  split
  · split
    · exact countFailure_guarded r h
    · exact h
  · dsimp only
    split
    · exact holdClock_guarded r (transactionFailed_guarded _ _ _ (endTransaction_guarded h))
    · exact holdClock_guarded r h
    · exact h

theorem clockRelease_guarded (r : RobotId) : Guarding (clockRelease r) := fun _ _ h =>
  h.trans (guarded_of_core (by simp [State.core, clockRelease_frame]))

theorem pollExpiry_guarded (r : RobotId) : Guarding (pollExpiry r) := by
  intro s₀ s h
  have polled : Guarded s₀ (s.mapRobot r fun rb => { rb with pollTimer := 0 }) := markRobot_guarded h
  unfold pollExpiry
  dsimp only
  split
  · exact polled.trans (guarded_of_core (by simp [State.core, raisePoll_frame]))
  · exact h

/-! ## The power groups (6.2) -/

/-- A change of a group that energises no coil and leaves no CLOSED group. -/
theorem mapGroup_guarded {g : GroupId} {f : Group → Group} ⦃s₀ s : State⦄ (h : Guarded s₀ s)
    (lowered : (f s.groups[g]).state.coil = true → s.groups[g].state.coil = true)
    (closed : s.groups[g].state = .closed → (f s.groups[g]).state = .closed) : Guarded s₀ (s.mapGroup g f) := by
  refine h.trans (guarded_of_same (fun _ => { closed := fun k isClosed => ?_ }) fun k on => ?_)
  · rw [mapGroup_get]
    split
    · next same => exact closed (same ▸ isClosed)
    · exact isClosed
  · unfold coil at on ⊢
    rw [mapGroup_get] at on
    split at on
    · next same => rw [same]; exact lowered on
    · exact on

theorem enterGroup_guarded {g : GroupId} {st : GroupState} ⦃s₀ s : State⦄ (h : Guarded s₀ s)
    (lowered : st.coil = true → s.groups[g].state.coil = true) (open_ : s.groups[g].state ≠ .closed) :
    Guarded s₀ (enterGroup g st s) :=
  raiseEvent_guarded _ _ _ _ (mapGroup_guarded h lowered fun closed => absurd closed open_)

theorem setGroupTimer_guarded (g : GroupId) (t : Option Nat) : Guarding (setGroupTimer g t) := fun _ _ h =>
  mapGroup_guarded h id id

/-- A supervision timer runs out in the state it runs in. -/
theorem state_of_supervised {s : State} {g : GroupId} {st : GroupState} {limit : Nat} (due : supervised s g st limit = true) :
    s.groups[g].state = st := by
  unfold supervised at due
  rw [Bool.and_eq_true, beq_iff_eq] at due
  exact due.1

theorem pullinExpiry_guarded (g : GroupId) : Guarding (pullinExpiry g) := by
  intro s₀ s h
  unfold pullinExpiry
  split
  · next due =>
    exact enterGroup_guarded (raiseEvent_guarded _ _ _ _ h) (by simp [GroupState.coil])
      (by simp only [raiseEvent_frame]; rw [state_of_supervised due]; decide)
  · exact h

theorem dropoutExpiry_guarded (g : GroupId) : Guarding (dropoutExpiry g) := by
  intro s₀ s h
  unfold dropoutExpiry
  split
  · next due =>
    exact enterGroup_guarded (raiseEvent_guarded _ _ _ _ h) (by simp [GroupState.coil])
      (by simp only [raiseEvent_frame]; rw [state_of_supervised due]; decide)
  · exact h

theorem weldExpiry_guarded (g : GroupId) : Guarding (weldExpiry g) := by
  intro s₀ s h
  unfold weldExpiry
  split
  · next due =>
    refine enterGroup_guarded (raiseEvent_guarded _ _ _ _ h) (by simp [GroupState.coil]) ?_
    simp only [raiseEvent_frame]
    obtain off | off := Bool.or_eq_true_iff.1 due
    · rw [state_of_supervised off]
      decide
    · rw [state_of_supervised off]
      decide
  · exact h

theorem mirrorChange_guarded (g : GroupId) (reportsClosed : Bool) : Guarding (mirrorChange g reportsClosed) := by
  intro s₀ s h
  unfold mirrorChange
  split
  · exact h
  · have read : Guarded s₀ { s with pins := { s.pins with mirror := s.pins.mirror.set g reportsClosed } } :=
      h.trans (guarded_of_core rfl)
    have timed (t : Option Nat) := setGroupTimer_guarded g t read
    dsimp only
    split
    case h_1 closing _ => exact enterGroup_guarded read (fun _ => by rw [closing]; rfl) (by rw [closing]; decide)
    case h_2 opening _ => exact enterGroup_guarded read (by simp [GroupState.coil]) (by rw [opening]; decide)
    case h_3 => exact timed _
    case h_4 => exact timed _
    case h_5 => exact timed _
    case h_6 => exact timed _
    case h_7 => exact timed _
    case h_8 => exact timed _
    case h_9 => exact read
    case h_10 => exact read
    case h_11 => exact read

/-! ## Groups that leave CLOSED (R124) -/

/-- Aborted jobs leave their robots idle; the others' jobs stand where their mode and their zone's group do. -/
theorem fillStands_of_aborts {a : RobotId → Bool} {s u t : State} (aborts : Aborts a u t) (robots : u.robots = s.robots)
    (doses : u.doses = s.doses) {r : RobotId} (own : s.fillStands r)
    (stands : a r = false → s.groups[s.robots[r].zone].state = .closed →
      t.robots[r].mode = s.robots[r].mode ∧ t.groups[s.robots[r].zone].state = .closed) : t.fillStands r := by
  obtain ⟨aborted, kept⟩ := aborts.left.1.2 r
  have job := aborts.jobs r
  have zone := aborts.zones r
  rw [robots] at aborted kept job zone
  rw [doses] at kept
  cases held : s.robots[r].job with
  | none =>
    have dose : t.doses[r] = s.doses[r] := (kept (.inr held)).1
    obtain ⟨valve, window⟩ := own.idle held
    rw [held, ite_self] at job
    exact fillStands_of_idle job (by rw [dose]; exact valve) (by rw [dose]; exact window)
  | some j =>
    cases is : a r with
    | true =>
      have dose := (aborted is j held).1
      rw [is, if_pos rfl] at job
      exact fillStands_of_idle job (by rw [dose]; rfl) (by rw [dose]; rfl)
    | false =>
      have dose : t.doses[r] = s.doses[r] := (kept (.inl is)).1
      obtain ⟨production, group, opened, close, valve, window⟩ := own.busy held
      obtain ⟨mode, closed⟩ := stands is group
      rw [is, if_neg Bool.false_ne_true, held] at job
      refine fillStands_of_busy job (mode.trans production) ?_ opened close (by rw [dose]; exact valve) (by rw [dose]; exact window)
      exact (congrArg (fun z : GroupId => t.groups[z].state) zone).trans closed

section
variable {g : GroupId} {s u t : State} (robots : u.robots = s.robots) (doses : u.doses = s.doses)
include robots doses

/-- A group that leaves CLOSED takes the jobs of its zone with it. -/
theorem guarded_of_left (aborts : Aborts (fun r => [g].contains u.robots[r].zone) u t)
    (modes : ∀ r : RobotId, t.robots[r].mode = u.robots[r].mode) (mainSwitch : t.mainSwitch = s.mainSwitch)
    (access : t.access = s.access) (others : ∀ k : GroupId, k ≠ g → t.groups[k].state = s.groups[k].state)
    (off : coil t g = false) : Guarded s t := by
  have lowered (k : GroupId) (on : coil t k = true) : coil s k = true := by
    by_cases same : k = g
    · rw [same, off] at on
      cases on
    · unfold coil at on ⊢
      rwa [others k same] at on
  refine ⟨fun powered => ⟨coilsSwitched_of_lowered lowered (by rw [mainSwitch]; exact id) powered.coils, fun r => ?_⟩,
    isolated_of_lowered lowered (grantsGoOn_of_same (by rw [access]))⟩
  refine fillStands_of_aborts aborts robots doses (powered.fills r) fun stays closed => ⟨by rw [modes, robots], ?_⟩
  rw [robots] at stays
  rw [others _ (by simpa using stays)]
  exact closed

/-- With every coil off and every fill of a CLOSED zone aborted, power and isolation are kept. -/
theorem guarded_of_cut (aborts : Aborts (fun r => decide (u.groups[u.robots[r].zone].state = .closed)) u t)
    (groups : u.groups = s.groups) (off : ∀ k : GroupId, coil t k = false) : Guarded s t := by
  have dark (k : GroupId) (on : coil t k = true) : False := by
    rw [off k] at on
    cases on
  refine ⟨fun powered => ⟨fun k on => (dark k on).elim, fun r => ?_⟩, fun _ _ _ _ _ _ z _ => off z⟩
  refine fillStands_of_aborts aborts robots doses (powered.fills r) fun stays closed => ?_
  simp only [robots, groups, closed, decide_true] at stays
  cases stays

end

theorem leaveClosed_mode (zones : List GroupId) (u : State) (r : RobotId) :
    (leaveClosed zones u).robots[r].mode = u.robots[r].mode := by
  rw [leaveClosed_robot]
  split
  · rfl
  · rfl

theorem leaveClosed_guarded {g : GroupId} {gr : Group} {s u : State} (robots : u.robots = s.robots) (doses : u.doses = s.doses)
    (mainSwitch : u.mainSwitch = s.mainSwitch) (access : u.access = s.access) (groups : u.groups = s.groups.set g gr)
    (off : gr.state.coil = false) : Guarded s (leaveClosed [g] u) := by
  have left : (leaveClosed [g] u).groups = s.groups.set g gr := ((leaveClosed_keepsBut [g] u) .groups (by decide)).trans groups
  refine guarded_of_left (g := g) robots doses (leaveClosed_aborts [g] u) (leaveClosed_mode [g] u)
    (((leaveClosed_keepsBut [g] u) .mainSwitch (by decide)).trans mainSwitch)
    (((leaveClosed_keepsBut [g] u) .access (by decide)).trans access) (fun k other => ?_) ?_
  · rw [left, set_get, if_neg other]
  · unfold coil
    rw [left, set_get, if_pos rfl]
    exact off

theorem fallOutExpiry_guarded (g : GroupId) : Guarding (fallOutExpiry g) := by
  intro s₀ s h
  unfold fallOutExpiry
  split
  · refine h.trans (leaveClosed_guarded (gr := { state := .faultPullin, timer := entryTimer .faultPullin s.pins.mirror[g] })
      ?_ ?_ ?_ ?_ ?_ rfl)
    · simp [enterGroup_frame]
    · simp [enterGroup_frame]
    · simp [enterGroup_frame]
    · simp [enterGroup_frame]
    · rw [enterGroup_groups]
      simp
  · exact h

theorem openGroup_guarded (g : GroupId) : Guarding (openGroup g) := by
  intro s₀ s h
  by_cases closed : s.groups[g].state = .closed
  · rw [openGroup_of_closed closed]
    refine h.trans (leaveClosed_guarded ?_ ?_ ?_ ?_ (dropCoil_groups g s) (openedGroup_coil _ _))
    · simp only [dropCoil_frame]
    · simp only [dropCoil_frame]
    · simp only [dropCoil_frame]
    · simp only [dropCoil_frame]
  · rw [openGroup_of_other closed]
    unfold dropCoil
    split
    · split
      · exact enterGroup_guarded h (by simp [GroupState.coil]) closed
      · exact enterGroup_guarded h (by simp [GroupState.coil]) closed
    · exact h

/-! ## The main switch (R108 to R111) -/

/-- The switch that leaves ON cuts the power. -/
theorem cutPower_guarded {s u : State} (robots : u.robots = s.robots) (doses : u.doses = s.doses) (groups : u.groups = s.groups) :
    Guarded s (cutPower u) :=
  guarded_of_cut robots doses (cutPower_aborts u) groups fun g => by
    unfold coil
    rw [cutPower_groups]
    exact openedGroup_coil _ _

theorem coilsSwitched_of_off {s : State} (off : s.mainSwitch.state ≠ .on) (switched : coilsSwitched s) (g : GroupId) :
    coil s g = false := Bool.eq_false_iff.2 fun on => off (switched g on)

/-- A change of the switch that does not leave ON. -/
theorem switched_guarded (m : MainSwitch) ⦃s₀ s : State⦄ (h : Guarded s₀ s)
    (stays : s.mainSwitch.state = .on → m.state = .on) : Guarded s₀ { s with mainSwitch := m } :=
  h.trans (guarded_of_same (fun _ => {}) (switch := stays))

theorem switchToOn_guarded : Guarding switchToOn := by
  intro s₀ s h
  have on : Guarded s₀ (setSwitch .on none s) := switched_guarded _ h fun _ => rfl
  unfold switchToOn
  dsimp only
  split
  · exact on
  · exact raiseEvent_guarded _ _ _ _ on

theorem switchToOff_guarded : Guarding switchToOff := by
  intro s₀ s h
  unfold switchToOff
  dsimp only
  split
  case h_1 off => exact switched_guarded _ h fun on => by rw [off] at on; cases on
  case h_2 => exact h.trans (cutPower_guarded (by simp [setSwitch]) (by simp [setSwitch]) (by simp [setSwitch]))
  case h_3 off => exact raiseEvent_guarded _ _ _ _ (switched_guarded _ h fun on => by rw [off] at on; cases on)

theorem contactChange_guarded (msaClosed msbClosed : Bool) : Guarding (contactChange msaClosed msbClosed) := by
  intro s₀ s h
  have read : Guarded s₀ { s with pins := { s.pins with msa := msaClosed, msb := msbClosed } } := h.trans (guarded_of_core rfl)
  unfold contactChange
  split
  · exact h
  · dsimp only
    split
    · exact switchToOn_guarded read
    · exact switchToOff_guarded read
    · split
      · exact read
      · exact switched_guarded _ read id

theorem discrepancyExpiry_guarded : Guarding discrepancyExpiry := by
  intro s₀ s h
  unfold discrepancyExpiry
  split
  · split
    · dsimp only
      split
      · exact h.trans (cutPower_guarded (by simp) (by simp) (by simp))
      · next off =>
        refine raiseEvent_guarded _ _ _ _ ?_
        have latched := switched_guarded { state := .discrepant, alike := none, latch := true } h fun on => absurd on off
        exact latched.trans (guarded_of_core (by simp [State.core]))
    · exact h
  · exact h

end Sys2Proof.Machine
end


section
/-! What the operations of service access and the tick keep of power and access. -/

set_option Elab.async false

namespace Sys2Proof.Machine

/-! ## Grants (7.2, 7.3) -/

/-- A grant goes on to this record in its place. -/
def Grant.goesOn (old : Option Grant) (g : Grant) : Prop :=
  g.kind = .jog ∨ g.state = .draining
    ∨ ∃ h : Grant, old = some h ∧ h.kind = g.kind ∧ h.state ≠ .draining ∧ h.zones = g.zones

theorem Grant.goesOn_of_same {old : Option Grant} {g h : Grant} (held : old = some h) (ended : h.state ≠ .draining)
    (kind : h.kind = g.kind := by rfl) (zones : h.zones = g.zones := by rfl) : Grant.goesOn old g :=
  .inr (.inr ⟨h, held, kind, ended, zones⟩)

theorem grants_guarded {grants : Vector (Option Grant) 8} ⦃s₀ s : State⦄ (h : Guarded s₀ s)
    (goOn : ∀ (i : PlaceId) (g : Grant), grants[i] = some g → Grant.goesOn s.access.grants[i] g) :
    Guarded s₀ { s with access := { s.access with grants := grants } } :=
  h.trans <| guarded_of_same (fun _ => {}) (goOn := fun i g held notJog ended => by
    obtain jog | drains | before := goOn i g held
    · exact absurd jog notJog
    · exact absurd drains ended
    · exact .inl before)

theorem putGrant_guarded {i : PlaceId} {new : Option Grant} ⦃s₀ s : State⦄ (h : Guarded s₀ s)
    (goOn : ∀ g : Grant, new = some g → Grant.goesOn s.access.grants[i] g) : Guarded s₀ (s.putGrant i new) :=
  grants_guarded h fun k g held => by
    rw [set_get] at held
    split at held
    · next same => rw [same]; exact goOn g held
    · by_cases drains : g.state = .draining
      · exact .inr (.inl drains)
      · exact Grant.goesOn_of_same held drains

theorem raiseGrantState_guarded (i : PlaceId) (badge : Long) (code : Nat) : Guarding (raiseGrantState i badge code) :=
  raiseEvent_guarded _ _ _ _

theorem enterGrant_guarded {i : PlaceId} {g : Grant} {st : GrantState} ⦃s₀ s : State⦄ (h : Guarded s₀ s)
    (goOn : Grant.goesOn s.access.grants[i] { g with state := st }) : Guarded s₀ (enterGrant i g st s) :=
  raiseGrantState_guarded _ _ _ (putGrant_guarded h fun k holds => by
    cases holds
    exact goOn)

/-! ## Drain and isolation (R133 to R136, R145) -/

/-- With no job in the covered zones their robots enter SERVICE. -/
theorem serveRobots_guarded {g : Grant} {s : State} (empty : drained s g = true) : Guarded s (serveRobots g s) := by
  have robot := serveRobots_robot g s
  have judged := serveRobots_judged g s
  obtain ⟨doses, groups, mainSwitch, access⟩ : (serveRobots g s).doses = s.doses ∧ (serveRobots g s).groups = s.groups
      ∧ (serveRobots g s).mainSwitch = s.mainSwitch ∧ (serveRobots g s).access = s.access := by
    simp [serveRobots_frame]
  have still (r : RobotId) (busy : s.robots[r].job ≠ none) : (serveRobots g s).robots[r] = s.robots[r] := by
    rw [robot, if_neg]
    intro covered
    rw [Bool.and_eq_true] at covered
    exact busy ((drained_iff s g).1 empty _ covered.1 r rfl)
  refine guarded_of_same
    (fun _ => { jobs := fun r => by rw [judged.jobs], modes := fun r busy => by rw [still r busy]
                zones := fun r busy => by rw [still r busy], valves := fun r => by rw [doses], windows := fun r => by rw [doses]
                closed := fun k => by rw [groups]; exact id })
    (fun k on => by rwa [coil_congr groups] at on) (by rw [mainSwitch]; exact id) (grantsGoOn_of_same (by rw [access]))

theorem endDrain_guarded {i : PlaceId} {g : Grant} {s : State} (empty : drained s g = true) ⦃s₀ : State⦄ (h : Guarded s₀ s) :
    Guarded s₀ (endDrain i g s) := by
  have served := serveRobots_guarded empty
  by_cases jog : g.kind = .jog
  · rw [endDrain_of_jog jog]
    exact h.trans (enterGrant_guarded served (.inl jog))
  refine h.trans ⟨fun powered => ?_, fun isolated => ?_⟩
  · rw [endDrain_of_entry jog]
    have entered : Powered (enterGrant i g .isolating (serveRobots g s)) := by
      obtain ⟨coils, fills⟩ := served.power powered
      unfold enterGrant raiseGrantState
      refine (raiseEvent_guarded _ _ _ _ (.refl _)).power ⟨coils, fills⟩
    exact (forEach_guarded (coveredZones g) openGroup_guarded (.refl _)).power entered
  · refine isolated_of_lowered (s := s) (fun z on => ?_) (fun k held here notJog ended => ?_) isolated
    · unfold coil at on ⊢
      rw [endDrain_group jog] at on
      split at on
      · rw [openedGroup_coil] at on
        cases on
      · exact on
    · rw [endDrain_access] at here
      dsimp only at here
      rw [set_get] at here
      split at here
      · refine .inr fun z covers => ?_
        cases here
        have covered : g.covers z = true := covers
        unfold coil
        rw [endDrain_group jog, if_pos covered]
        exact openedGroup_coil _ _
      · exact .inl ⟨held, here, rfl, ended, rfl⟩

theorem judgeDrain_guarded (i : PlaceId) : Guarding (judgeDrain i) := by
  grind [judgeDrain, endDrain_guarded]

theorem judgeIsolation_guarded (i : PlaceId) : Guarding (judgeIsolation i) := by
  intro s₀ s h
  unfold judgeIsolation
  split
  case h_2 => exact h
  case h_1 g held =>
    split
    case isFalse => exact h
    case isTrue phase =>
      have ended : g.state ≠ .draining := by
        intro drains
        simp [Grant.releasing, drains] at phase
      split
      · refine enterGrant_guarded (raiseEvent_guarded _ _ _ _ h) (Grant.goesOn_of_same ?_ ended)
        simp only [raiseEvent_frame]
        exact held
      · split
        · exact enterGrant_guarded h (Grant.goesOn_of_same held ended)
        · exact h

theorem judgeGrants_guarded : Guarding judgeGrants :=
  forEach_guarded _ fun i _ _ h => judgeIsolation_guarded i (judgeDrain_guarded i h)

theorem settle_guarded : Guarding settle := fun _ _ h => judgeReleases_guarded (judgeGrants_guarded h)

theorem drainExpiry_guarded (i : PlaceId) : Guarding (drainExpiry i) := by
  intro s₀ s h
  unfold drainExpiry
  split
  · split
    · refine forEach_guarded _ (fun r _ _ k => ?_) h
      split
      · exact abortJob_guarded r k
      · exact k
    · exact h
  · exact h

/-! ## The end of a grant (R138, R143) -/

theorem endGrant_guarded (i : PlaceId) (g : Grant) : Guarding (endGrant i g) := by
  intro s₀ s h
  dsimp only [endGrant]
  have removed : Guarded s₀ (s.putGrant i none) := putGrant_guarded h fun _ impossible => by cases impossible
  refine raiseGrantState_guarded _ _ _ (forEach_guarded _ (fun r _ _ k => ?_) removed)
  split
  · exact leaveService_guarded r k
  · exact k

theorem atExpiry_guarded {i : PlaceId} {g : Grant} ⦃s₀ s : State⦄ (h : Guarded s₀ s) (held : s.access.grants[i] = some g) :
    Guarded s₀ (atExpiry i g s) := by
  unfold atExpiry
  split
  case h_1 => exact endGrant_guarded i g h
  case h_2 => exact endGrant_guarded i g h
  case h_3 opened =>
    split
    · exact endGrant_guarded i g h
    · refine enterGrant_guarded (raiseEvent_guarded _ _ _ _ h) (Grant.goesOn_of_same ?_ (by rw [opened]; decide))
      simp only [raiseEvent_frame]
      exact held
  case h_4 => exact h
  case h_5 => exact h
  case h_6 => exact h

theorem expireGrant_guarded (i : PlaceId) (uptime : Long) : Guarding (expireGrant i uptime) := by
  grind [expireGrant, atExpiry_guarded]

/-! ## Intrusions and doors (7.1, 7.5) -/

theorem setZoneLatch_guarded (z : GroupId) (on : Bool) : Guarding (setZoneLatch z on) := fun _ _ h =>
  h.trans (guarded_of_same fun _ => {})

theorem zoneIntrusion_guarded (z : GroupId) (how : Half) : Guarding (zoneIntrusion z how) := by
  intro s₀ s h
  unfold zoneIntrusion
  split
  · exact h
  · refine openGroup_guarded z
      (forEach_guarded _ (fun r _ _ k => ?_) (raiseEvent_guarded _ _ _ _ (setZoneLatch_guarded z true h)))
    split
    · exact intrudeRobot_guarded r k
    · exact k

theorem cabinetIntrusion_guarded (how zoneHow : Half) : Guarding (cabinetIntrusion how zoneHow) := by
  intro s₀ s h
  unfold cabinetIntrusion
  split
  · exact h
  · have latched : Guarded s₀ (addCabinetIntrusion { s with access := { s.access with cabinetLatch := true } }) :=
      h.trans (guarded_of_same fun _ => {})
    exact raiseBroadcast_guarded
      (forEach_guarded _ (fun z => zoneIntrusion_guarded z zoneHow) (raiseEvent_guarded _ _ _ _ latched))

theorem flagOpened_guarded (d : DoorId) : Guarding (flagOpened d) := forEach_guarded _ fun i s₀ s h => by
  unfold flagGrant
  split
  case h_2 => exact h
  case h_1 g held =>
    split
    case isFalse => exact h
    case isTrue flags =>
      refine putGrant_guarded h fun k holds => ?_
      cases holds
      refine Grant.goesOn_of_same held fun drains => ?_
      simp [Grant.releasing, drains] at flags

theorem endClosedGrants_guarded (d : DoorId) : Guarding (endClosedGrants d) := forEach_guarded _ fun i _ _ h => by
  unfold endClosedGrant
  split
  · split
    · exact endGrant_guarded i _ h
    · exact h
  · exact h

theorem judgeOpening_guarded (d : DoorId) : Guarding (judgeOpening d) := by
  grind [judgeOpening, zoneIntrusion_guarded, cabinetIntrusion_guarded]

theorem doorChange_guarded (d : DoorId) (isOpen : Bool) : Guarding (doorChange d isOpen) := by
  intro s₀ s h
  have read : Guarded s₀ { s with pins := { s.pins with doors := s.pins.doors.set d isOpen } } := h.trans (guarded_of_core rfl)
  grind [doorChange, judgeOpening_guarded, flagOpened_guarded, endClosedGrants_guarded]

end Sys2Proof.Machine
end


section
/-! What the tick, the pitch and the requests keep of power and access. -/

set_option Elab.async false

namespace Sys2Proof.Machine

/-! ## The pitch and the track (chapter 1) -/

theorem fillerAtBoundary_guarded : Guarding fillerAtBoundary := by
  intro s₀ s h
  unfold fillerAtBoundary
  have left := judgeGrants_guarded (forEach_guarded (allUnits 8) exitLimit_guarded h)
  have late := judgeGrants_guarded (forEach_guarded (allUnits 8) approachLimit_guarded left)
  exact assignEntry_guarded (judgeReleases_guarded (forEach_guarded (allUnits 8) armRobot_guarded late))

/-- The boundary reaches robots, doses and grants through the filler alone. -/
theorem boundary_guarded : Guarding boundary := fun _ s h => by
  refine fillerAtBoundary_guarded (h.trans (guarded_of_core ?_))
  simp [State.core, gatesAtBoundary_frame, camerasAtBoundary_frame, advance_frame, activateStaged_frame]

theorem reachPhase_guarded (infActive : Bool) : Guarding (reachPhase infActive) := fun _ _ h =>
  h.trans (guarded_of_core (by simp [State.core, reachPhase_frame]))

theorem setPitchCounter_guarded (n : Nat) : Guarding (setPitchCounter n) := fun _ _ h => h.trans (guarded_of_core rfl)

theorem countedEdge_guarded (infActive : Bool) : Guarding (countedEdge infActive) := by
  grind [countedEdge, reachPhase_guarded, setPitchCounter_guarded, boundary_guarded]

/-! ## One timer's share of the tick (8.1) -/

theorem shareOfTick_guarded {due : State → Bool} {advanceOne act : State → State}
    (acts : ∀ ⦃s₀ s⦄, Guarded s₀ s → Guarded s₀ (act (advanceOne s))) : Guarding (shareOfTick due advanceOne act) := by
  intro s₀ s h
  dsimp only [shareOfTick]
  split
  · exact settle_guarded (acts h)
  · exact h

theorem takeValveTime_guarded (r : RobotId) : Guarding (takeValveTime r) := fun _ _ h =>
  h.trans (guarded_of_core (by simp [State.core, takeValveTime_frame]))

theorem countClosed_guarded (before : State) : Guarding (countClosed before) := fun _ _ h =>
  forEach_guarded _ (fun r s₀ s k => by
    split
    · exact settle_guarded (takeValveTime_guarded r k)
    · exact k) h

theorem Job.tick_stage (j : Job) : j.tick.stage = j.stage := by
  unfold Job.tick
  split
  · rfl
  · rfl
  · rfl

theorem tickJob_stage (rb : Robot) : rb.tickJob.job.map Job.stage = rb.job.map Job.stage := by
  unfold Robot.tickJob
  cases rb.job with
  | none => rfl
  | some j => exact congrArg some j.tick_stage

theorem tickJob_guarded (r : RobotId) ⦃s₀ s : State⦄ (h : Guarded s₀ s) : Guarded s₀ (s.mapRobot r Robot.tickJob) :=
  h.trans (mapRobot_guarded (tickJob_stage _) fun _ _ => ⟨rfl, rfl⟩)

theorem tickPoll_same (rb : Robot) : rb.tickPoll.mode = rb.mode ∧ rb.tickPoll.zone = rb.zone ∧ rb.tickPoll.job = rb.job := by
  unfold Robot.tickPoll
  split
  · exact ⟨rfl, rfl, rfl⟩
  · exact ⟨rfl, rfl, rfl⟩

theorem Grant.tick_goesOn (g : Grant) : Grant.goesOn (some g) g.tick := by
  unfold Grant.tick
  split
  · next drains => exact .inr (.inl drains)
  · next ended => exact Grant.goesOn_of_same rfl ended

theorem shareSilence_guarded (n : CameraId) : Guarding (shareSilence n) :=
  shareOfTick_guarded fun _ _ h => h.trans (guarded_of_core (by simp [State.core, silenceExpiry_frame]))

theorem sharePulse_guarded (g : GateId) : Guarding (sharePulse g) :=
  shareOfTick_guarded fun _ _ h => h.trans (guarded_of_core (by simp [State.core, pulseExpiry_frame]))

theorem shareSettle_guarded (r : RobotId) : Guarding (shareSettle r) :=
  shareOfTick_guarded fun _ _ h => settleExpiry_guarded r (tickJob_guarded r h)

theorem shareNoFlow_guarded (r : RobotId) : Guarding (shareNoFlow r) := fun _ s h =>
  countClosed_guarded s (shareOfTick_guarded (fun _ _ k => noFlowExpiry_guarded r (tickJob_guarded r k)) h)

theorem shareCheck_guarded (r : RobotId) : Guarding (shareCheck r) := fun _ s h =>
  countClosed_guarded s (shareOfTick_guarded (fun _ _ k => checkExpiry_guarded r (mapDose_guarded r k)) h)

theorem shareValveTime_guarded (r : RobotId) : Guarding (shareValveTime r) := by
  intro s₀ s h
  unfold shareValveTime
  split
  · refine shareOfTick_guarded (fun _ _ k => valveSecond_guarded r ?_) h
    exact k.trans (guarded_of_core rfl)
  · exact h

theorem sharePoll_guarded (r : RobotId) : Guarding (sharePoll r) := by
  intro s₀ s h
  unfold sharePoll
  split
  · exact h
  · refine shareOfTick_guarded (fun _ t k => pollExpiry_guarded r ?_) h
    have ticked : Guarded t (t.mapRobot r Robot.tickPoll) :=
      markRobot_guarded (.refl t) (fun rb => (tickPoll_same rb).1) (fun rb => (tickPoll_same rb).2.1) fun rb => (tickPoll_same rb).2.2
    exact k.trans (ticked.trans (guarded_of_core rfl))

theorem shareAlike_guarded : Guarding shareAlike := fun _ s h => by
  refine countClosed_guarded s (shareOfTick_guarded (fun _ _ k => discrepancyExpiry_guarded ?_) h)
  exact switched_guarded _ k id

theorem shareGroup_guarded (g : GroupId) {due : State → Bool} {act : State → State} (acts : Guarding act) :
    Guarding (shareGroup g due act) :=
  shareOfTick_guarded fun _ _ h => acts (mapGroup_guarded h id id)

theorem shareFallOut_guarded (g : GroupId) : Guarding (shareFallOut g) := fun _ s h =>
  countClosed_guarded s (shareGroup_guarded g (fallOutExpiry_guarded g) h)

theorem shareDrain_guarded (i : PlaceId) : Guarding (shareDrain i) := fun _ s h =>
  countClosed_guarded s (shareOfTick_guarded (fun _ _ k => drainExpiry_guarded i
    (putGrant_guarded k fun g ticked => by
      obtain ⟨old, held, rfl⟩ := Option.map_eq_some_iff.1 ticked
      rw [held]
      exact old.tick_goesOn)) h)

theorem shareExpiry_guarded (i : PlaceId) : Guarding (shareExpiry i) := fun _ _ h => settle_guarded (expireGrant_guarded i _ h)

theorem shareGap_guarded : Guarding shareGap :=
  shareOfTick_guarded fun _ _ h => h.trans (guarded_of_core (by simp [State.core, gapExpiry_frame]))

/-! ## The tick (R151) -/

theorem rollover_guarded : Guarding rollover := fun _ _ h =>
  forEach_guarded _ (fun i _ _ k => settle_guarded (expireGrant_guarded i _ k))
    (h.trans (guarded_of_core (by simp [State.core, rolloverTime_frame])))

theorem groupExpiries_guarded (g : GroupId) : Guarding (groupExpiries g) := fun _ _ h =>
  weldExpiry_guarded g (dropoutExpiry_guarded g (fallOutExpiry_guarded g (pullinExpiry_guarded g h)))

theorem robotExpiries_guarded (r : RobotId) : Guarding (robotExpiries r) := fun _ _ h =>
  settle_guarded (settleExpiry_guarded r (settle_guarded (noFlowExpiry_guarded r (settle_guarded (stuckValve_guarded r
    (settle_guarded (checkExpiry_guarded r h)))))))

theorem silenceExpiry_guarded (n : CameraId) : Guarding (silenceExpiry n) := fun _ _ h =>
  h.trans (guarded_of_core (by simp [State.core, silenceExpiry_frame]))

theorem pulseExpiry_guarded (g : GateId) : Guarding (pulseExpiry g) := fun _ _ h =>
  h.trans (guarded_of_core (by simp [State.core, pulseExpiry_frame]))

theorem gapExpiry_guarded : Guarding gapExpiry := fun _ _ h => h.trans (guarded_of_core (by simp [State.core, gapExpiry_frame]))

theorem secondExpiries_guarded : Guarding (forEach (allUnits 8) fun r t => settle (valveSecond r t)) := fun _ _ h =>
  forEach_guarded _ (fun r _ _ k => settle_guarded (valveSecond_guarded r k)) h

theorem supervisions_guarded : Guarding (forEach (allUnits 4) fun g t => settle (groupExpiries g t)) := fun _ _ h =>
  forEach_guarded _ (fun g _ _ k => settle_guarded (groupExpiries_guarded g k)) h

theorem drainExpiries_guarded : Guarding (forEach (allUnits 8) fun i t => settle (drainExpiry i t)) := fun _ _ h =>
  forEach_guarded _ (fun i _ _ k => settle_guarded (drainExpiry_guarded i k)) h

theorem expireTimers_guarded : Guarding expireTimers := by
  intro s₀ s h
  have switched := settle_guarded (discrepancyExpiry_guarded h)
  have drained := drainExpiries_guarded (supervisions_guarded switched)
  have fired := forEach_guarded (allUnits 2) pulseExpiry_guarded (forEach_guarded (allUnits 6) silenceExpiry_guarded drained)
  have timed := secondExpiries_guarded (forEach_guarded (allUnits 8) robotExpiries_guarded fired)
  unfold expireTimers
  exact gapExpiry_guarded (forEach_guarded (allUnits 8) pollExpiry_guarded timed)

theorem tickRobot_same (s : State) (r : RobotId) :
    (tickRobot s r).mode = s.robots[r].mode ∧ (tickRobot s r).zone = s.robots[r].zone
      ∧ (tickRobot s r).job.map Job.stage = s.robots[r].job.map Job.stage := by
  unfold tickRobot
  split
  · exact ⟨rfl, rfl, tickJob_stage _⟩
  · obtain ⟨mode, zone, job⟩ := tickPoll_same s.robots[r].tickJob
    exact ⟨mode, zone, (congrArg (Option.map Job.stage) job).trans (tickJob_stage _)⟩

theorem advanceTimers_guarded (s : State) : Guarded s (advanceTimers s) := by
  have robot (r : RobotId) : (advanceTimers s).robots[r] = tickRobot s r := by simp [advanceTimers]
  refine guarded_of_same
    (fun _ => { jobs := fun r => by rw [robot]; exact (tickRobot_same s r).2.2
                modes := fun r _ => by rw [robot]; exact (tickRobot_same s r).1
                zones := fun r _ => by rw [robot]; exact (tickRobot_same s r).2.1
                valves := fun r => by simp [advanceTimers, Dose.tick]
                windows := fun r => by simp [advanceTimers, Dose.tick]
                closed := fun g closed => by simpa [advanceTimers, Group.tick] using closed })
    (fun g on => by simpa [advanceTimers, coil, Group.tick] using on) (fun on => on) fun i g held notJog ended => ?_
  have ticked : s.access.grants[i].map Grant.tick = some g := by simpa [advanceTimers] using held
  obtain ⟨old, stood, rfl⟩ := Option.map_eq_some_iff.1 ticked
  obtain jog | drains | ⟨h, same, rest⟩ := old.tick_goesOn
  · exact absurd jog notJog
  · exact absurd drains ended
  · exact .inl ⟨h, stood.trans same, rest⟩

theorem tick_guarded : Guarding tick := fun _ s h => by
  have advanced := h.trans (advanceTimers_guarded s)
  unfold tick
  dsimp only
  split
  · exact expireTimers_guarded (rollover_guarded advanced)
  · exact expireTimers_guarded advanced

theorem secondsRollover_guarded : Guarding secondsRollover := by
  grind [secondsRollover, tick_guarded]

end Sys2Proof.Machine
end


section
/-! What every command keeps of power and access, and the two safety properties that follow (O7, O8). -/

set_option Elab.async false

namespace Sys2Proof.Machine

/-! ## The requests of robots, groups, grants and counters -/

theorem modeChange_guarded {s : State} {r : RobotId} {new : RobotMode} {change : State → State}
    (allowed : modeChange s r new = .ok change) ⦃s₀ : State⦄ (h : Guarded s₀ s) : Guarded s₀ (change s) := by
  unfold modeChange at allowed
  split at allowed
  · cases allowed
  have idle {u : State} (robots : u.robots = s.robots) (mode : s.robots[r].mode ≠ .production) (powered : Powered u) :
      u.robots[r].job = none := powered.no_job (by rw [robots]; exact mode)
  split at allowed
  case h_1 _ stopped =>
    cases allowed
    have begun : Guarded s₀ { s with time := { s.time with ahead := s.time.ahead.filter fun share => share != .poll r } } :=
      h.trans (guarded_of_core rfl)
    exact changeRobot_guarded_of_idle begun (idle rfl (by rw [stopped]; decide))
  case h_2 _ halted =>
    cases allowed
    have dropped : Guarded s₀ (s.mapQueue r fun q => q.keep fun e => !e.command.isPoll) := h.trans (guarded_of_core rfl)
    exact changeRobot_guarded_of_idle dropped (idle rfl (by rw [halted]; decide))
  case h_3 _ halted =>
    split_ifs at allowed
    cases allowed
    exact changeRobot_guarded_of_idle h (idle rfl (by rw [halted]; decide))
  case h_4 =>
    cases allowed
    exact changeRobot_guarded_of_idle (abortJob_guarded r h) fun _ => abortJob_job r s
  case h_5 => cases allowed

theorem robotMode_guarded (tag : Half) (robot mode : Byte) : Guarding (robotMode tag robot mode) := by
  intro s₀ s h
  unfold robotMode
  split
  · split
    · exact accept_guarded _ _ _ h
    · split
      · next allowed => exact accept_guarded _ _ _ (settle_guarded (modeChange_guarded allowed h))
      · exact refuse_guarded _ _ _ h
  · exact refuse_guarded _ _ _ h

/-- ROBOT_CONFIG moves robots that are OFF alone, and these hold no job (R62). -/
theorem robotConfig_guarded (tag : Half) (robot zone address : Byte) : Guarding (robotConfig tag robot zone address) := by
  intro s₀ s h
  unfold robotConfig
  split
  case h_2 => exact refuse_guarded _ _ _ h
  case h_1 r z _ _ =>
    dsimp only
    split
    · exact refuse_guarded _ _ _ h
    · split
      · exact refuse_guarded _ _ _ h
      · next free =>
        obtain ⟨off, -⟩ := not_or.1 free
        have idle (powered : Powered s) : s.robots[r].job = none := powered.no_job (by rw [not_not.1 off]; decide)
        exact accept_guarded _ _ _ (h.trans (mapRobot_guarded rfl fun powered busy => absurd (idle powered) busy))

theorem recipeLoad_guarded (tag : Half) (robot : Byte) (new : Recipe) : Guarding (recipeLoad tag robot new) := by
  intro s₀ s h
  have taken (r : RobotId) (atOnce : Bool) : Guarded s₀ (takeRecipe r atOnce new s) :=
    mapDose_guarded r h (fun d => by cases atOnce <;> rfl) fun d => by cases atOnce <;> rfl
  unfold recipeLoad
  split
  · split
    · exact accept_guarded _ _ _ (taken _ _)
    · exact refuse_guarded _ _ _ h
  · exact refuse_guarded _ _ _ h

theorem clearRobotFault_guarded (tag : Half) (number : Byte) : Guarding (clearRobotFault tag number) := by
  intro s₀ s h
  unfold clearRobotFault
  split
  case h_2 => exact refuse_guarded _ _ _ h
  case h_1 r _ =>
    split
    · next faulted =>
      exact accept_guarded _ _ _ (settle_guarded
        (changeRobot_guarded_of_idle h fun powered => powered.no_job (by rw [faulted.1]; decide)))
    · exact refuse_guarded _ _ _ h

theorem groupOpen_guarded (tag : Half) (group : Byte) : Guarding (groupOpen tag group) := by
  grind [groupOpen, accept_guarded, refuse_guarded, settle_guarded, openGroup_guarded]

theorem clearGroupFault_guarded (tag : Half) (number : Byte) : Guarding (clearGroupFault tag number) := by
  intro s₀ s h
  unfold clearGroupFault
  split
  case h_2 => exact refuse_guarded _ _ _ h
  case h_1 g _ =>
    split
    case isFalse => exact refuse_guarded _ _ _ h
    case isTrue fault =>
      refine accept_guarded _ _ _ (settle_guarded (enterGroup_guarded h (by simp [GroupState.coil]) fun closed => ?_))
      obtain pullin | ⟨weld, -⟩ := fault
      · rw [closed] at pullin
        cases pullin
      · rw [closed] at weld
        cases weld

theorem clearSwitchFault_guarded (tag : Half) (number : Byte) : Guarding (clearSwitchFault tag number) := by
  intro s₀ s h
  unfold clearSwitchFault
  split
  · exact refuse_guarded _ _ _ h
  · split
    · exact refuse_guarded _ _ _ h
    · exact accept_guarded _ _ _ (switched_guarded _ h id)

/-- A close of a zone without a grant, with the switch ON, energises its coil (R116). -/
theorem closeGroup_guarded {g : GroupId} {s : State} (switch : s.mainSwitch.state = .on) (free : locked s g = false)
    (isOpen : s.groups[g].state = .isOpen) : Guarded s (closeGroup g s) := by
  have others (k : GroupId) : k ≠ g → coil (s.energised g) k = coil s k := fun other => by
    unfold coil State.energised
    rw [mapGroup_get, if_neg other]
  have energised : Guarded s (s.energised g) := by
    refine ⟨fun powered => ⟨fun _ _ => switch, fun r => ?_⟩, fun isolated i held stood notJog ended z covers => ?_⟩
    · refine SameFills.fillStands { closed := fun k closed => ?_ } (powered.fills r)
      unfold State.energised
      rw [mapGroup_get]
      split
      · next same => rw [same, isOpen] at closed; cases closed
      · exact closed
    · have other : z ≠ g := fun same => by
        have uncovered := ((locked_eq_false_iff s g).1 free).2 i held stood
        rw [same, uncovered] at covers
        cases covers
      rw [others z other]
      exact isolated i held stood notJog ended z covers
  have counted := countOn_guarded (contactorCounter g) (raiseEvent_guarded .groupState g.val (detail GroupState.closing.code)
    (detail s.groups[g].state.code) energised)
  unfold closeGroup
  dsimp only
  split
  · have closing : (countOn (contactorCounter g) (enterGroup g .closing s)).groups[g].state = .closing := by
      have groups : (countOn (contactorCounter g) (enterGroup g .closing s)).groups = _ :=
        (by simp only [countOn_frame] : _ = (enterGroup g .closing s).groups).trans (enterGroup_groups g .closing s)
      rw [groups, set_get, if_pos rfl]
    exact enterGroup_guarded counted (fun _ => by rw [closing]; rfl) (by rw [closing]; decide)
  · exact counted

theorem groupClose_guarded (tag : Half) (group : Byte) : Guarding (groupClose tag group) := by
  intro s₀ s h
  unfold groupClose
  split
  case h_2 => exact refuse_guarded _ _ _ h
  case h_1 g _ =>
    split
    case h_1 => exact refuse_guarded _ _ _ h
    case h_2 passed =>
      refine accept_guarded _ _ _ ?_
      split
      · next isOpen =>
        obtain ⟨switch, -, -, free, -⟩ := closeRefusal_none passed
        exact settle_guarded (h.trans (closeGroup_guarded switch free isOpen))
      · exact h

theorem endByRequest_guarded {i : PlaceId} {g : Grant} ⦃s₀ s : State⦄ (h : Guarded s₀ s) (held : s.access.grants[i] = some g) :
    Guarded s₀ (endByRequest i g s) := by
  have waits (ended : g.state ≠ .draining) :
      Guarded s₀ (if openDoors s g = 0 then endGrant i g s else enterGrant i g .awaitingClose s) := by
    split
    · exact endGrant_guarded i g h
    · exact enterGrant_guarded h (Grant.goesOn_of_same held ended)
  unfold endByRequest
  split
  case h_1 => exact endGrant_guarded i g h
  case h_2 => exact endGrant_guarded i g h
  case h_3 state => exact waits (by rw [state]; decide)
  case h_4 state => exact waits (by rw [state]; decide)
  case h_5 state => exact waits (by rw [state]; decide)
  case h_6 => exact h

theorem grantEnd_guarded (tag number : Half) : Guarding (grantEnd tag number) := by
  intro s₀ s h
  unfold grantEnd
  split
  · exact refuse_guarded _ _ _ h
  · split
    · exact refuse_guarded _ _ _ h
    · next held => exact accept_guarded _ _ _ (settle_guarded (endByRequest_guarded h held))

theorem extendGrant_guarded {i : PlaceId} {g : Grant} ⦃s₀ s : State⦄ (h : Guarded s₀ s) (held : s.access.grants[i] = some g)
    (minutes : Nat) : Guarded s₀ (extendGrant i g minutes s) := by
  unfold extendGrant
  dsimp only
  split
  · next overdue => exact enterGrant_guarded h (Grant.goesOn_of_same held (by rw [overdue]; decide))
  · refine putGrant_guarded h fun k longer => ?_
    cases longer
    by_cases drains : g.state = .draining
    · exact .inr (.inl drains)
    · exact Grant.goesOn_of_same held drains

theorem grantExtend_guarded (tag number minutes : Half) : Guarding (grantExtend tag number minutes) := by
  intro s₀ s h
  unfold grantExtend
  dsimp only
  split
  · exact refuse_guarded _ _ _ h
  split
  · exact refuse_guarded _ _ _ h
  split
  · exact refuse_guarded _ _ _ h
  split
  · exact refuse_guarded _ _ _ h
  · next held _ => exact accept_guarded _ _ _ (settle_guarded (extendGrant_guarded h held _))

theorem placeGrant_guarded {i : PlaceId} {g : Grant} (draining : g.state = .draining) : Guarding (placeGrant i g) := fun s₀ s h => by
  have placed : Guarded s₀ (s.putGrant i (some g)) := putGrant_guarded h fun k new => by
    cases new
    exact .inr (.inl draining)
  exact raiseGrantState_guarded _ _ _ (placed.trans (guarded_of_same fun _ => {}))

theorem grantRequest_guarded (tag : Half) (kind zones : Byte) (badge : Long) (duration : Half) :
    Guarding (grantRequest tag kind zones badge duration) := by
  intro s₀ s h
  unfold grantRequest
  split
  · exact refuse_guarded _ _ _ h
  · split
    · exact refuse_guarded _ _ _ h
    · exact refuse_guarded _ _ _ h
    · exact accept_guarded _ _ _ (settle_guarded (placeGrant_guarded rfl h))

theorem clearZoneLatch_guarded (tag : Half) (number : Byte) : Guarding (clearZoneLatch tag number) := by
  grind [clearZoneLatch, accept_guarded, refuse_guarded, settle_guarded, setZoneLatch_guarded]

theorem clearCabinetLatch_guarded (tag : Half) (number : Byte) : Guarding (clearCabinetLatch tag number) := by
  intro s₀ s h
  unfold clearCabinetLatch
  split
  · exact refuse_guarded _ _ _ h
  · split
    · exact refuse_guarded _ _ _ h
    · exact accept_guarded _ _ _ (h.trans (guarded_of_same fun _ => {}))

theorem acceptCounter_guarded (kind : Byte) (tag : Half) (i : CounterId) (c : Counter) : Guarding (acceptCounter kind tag i c) :=
  fun _ _ h => accept_guarded _ _ _ (settle_guarded (h.trans (guarded_of_core (by simp [State.core, storeCounter_frame]))))

theorem counterLoad_guarded (tag : Half) (counter : Byte) (total : Long) : Guarding (counterLoad tag counter total) := by
  grind [counterLoad, acceptCounter_guarded, refuse_guarded]

theorem counterLimits_guarded (tag : Half) (counter : Byte) (warn due : Long) (margin zone : Byte) :
    Guarding (counterLimits tag counter warn due margin zone) := by
  grind [counterLimits, acceptCounter_guarded, refuse_guarded]

theorem counterReset_guarded (tag : Half) (counter : Byte) : Guarding (counterReset tag counter) := by
  grind [counterReset, acceptCounter_guarded, refuse_guarded]

/-! ## The other requests -/

theorem trackFlush_guarded (tag : Half) : Guarding (trackFlush tag) := by
  intro s₀ s h
  unfold trackFlush
  dsimp only
  split
  · exact refuse_guarded _ _ _ h
  · refine accept_guarded _ _ _ (settle_guarded ?_)
    exact (forEach_guarded (allUnits 8) abortJob_guarded h).trans
      (guarded_of_core (by simp [State.core, emptyUnitLists_frame, emptySlots_frame]))

theorem removeRecords_core (n : Nat) (s : State) : (removeRecords n s).core = s.core := by
  induction n generalizing s with
  | zero => rfl
  | succ n ih =>
    unfold removeRecords
    rw [ih]
    simp [State.core, removeOldest_frame]

theorem eventRead_guarded (tag : Half) (count : Byte) : Guarding (eventRead tag count) := by
  intro s₀ s h
  unfold eventRead
  dsimp only
  split
  · exact refuse_guarded _ _ _ h
  · exact accept_guarded _ _ _ (h.trans (guarded_of_core (removeRecords_core _ s)))

theorem faultClear_guarded (tag : Half) (target number : Byte) : Guarding (faultClear tag target number) := by
  intro s₀ s h
  unfold faultClear
  split_ifs
  · exact h.trans (guarded_of_core (by simp [State.core, clearGateFault_frame]))
  · exact clearRobotFault_guarded _ _ h
  · exact clearSwitchFault_guarded _ _ h
  · exact clearGroupFault_guarded _ _ h
  · exact clearZoneLatch_guarded _ _ h
  · exact clearCabinetLatch_guarded _ _ h
  · exact refuse_guarded _ _ _ h

/-! ## The resets (R149, R174, R185) -/

theorem bootDoors_guarded : Guarding bootDoors := by
  intro s₀ s h
  unfold bootDoors
  dsimp only
  have zones := forEach_guarded (allUnits 4)
    (act := fun z t => if t.pins.doors[zoneDoor z] then zoneIntrusion z 2 t else t) (fun z s₀ s k => by
      dsimp only
      split
      · exact zoneIntrusion_guarded z 2 k
      · exact k) h
  split
  · exact cabinetIntrusion_guarded 2 2 zones
  · exact zones

/-- Robots, doses and grants in their reset state keep power and isolation as the inputs are read. -/
theorem bootInputs_safe {s : State} (robots : s.robots = State.reset.robots) (doses : s.doses = State.reset.doses)
    (access : s.access = State.reset.access) : Powered (bootInputs s) ∧ grantedZonesUnpowered (bootInputs s) := by
  have boots := bootDoors_guarded (.refl
    { s with
      mainSwitch := bootSwitch s.pair
      groups := Vector.ofFn fun g : GroupId => { state := .isOpen, timer := entryTimer .isOpen s.pins.mirror[g] } })
  refine ⟨boots.power ⟨fun g on => ?_, fun r => ?_⟩, boots.zones fun i g held => ?_⟩
  · simp [coil, GroupState.coil] at on
  · refine fillStands_of_idle ?_ ?_ ?_
    · simp only [robots]
      exact reset_job r
    · simp only [doses]
      rw [reset_dose]
      rfl
    · simp only [doses]
      rw [reset_dose]
      rfl
  · simp only [access] at held
    rw [reset_grant] at held
    cases held

theorem restart_guarded (tag : Half) : Guarding (restart tag) := fun s₀ s _ => by
  obtain ⟨powered, isolated⟩ := bootInputs_safe
    (s := enterRecord .restarted 0 (detail s.events.queue.length) (detail s.events.lost) (restartState s))
    (by simp [restartState]) (by simp [restartState]) (by simp [restartState])
  exact accept_guarded kindRestart tag [] ⟨fun _ => powered, fun _ => isolated⟩

theorem powerOnReset_guarded (powerUp baudHigh : Bool) : Guarding (powerOnReset powerUp baudHigh) := fun s₀ s _ => by
  obtain ⟨powered, isolated⟩ := bootInputs_safe
    (s := { State.reset with
      pins := s.pins
      time := { State.reset.time with ms := if powerUp then 0 else s.time.ms }
      link := Link.reset baudHigh
      pending := s.pending }) rfl rfl rfl
  exact ⟨fun _ => powered, fun _ => isolated⟩

end Sys2Proof.Machine
end


section
/-! Every command keeps power and isolation: the two safety properties (O7, O8). -/

set_option Elab.async false

namespace Sys2Proof.Machine

/-! ## The requests that reach neither fills, nor power, nor grants -/

theorem guarding_of_core {op : State → State} (same : ∀ s : State, (op s).core = s.core) : Guarding op := fun _ s h =>
  h.trans (guarded_of_core (same s))

theorem ident_guarded (tag : Half) :
    Guarding (ident tag) := guarding_of_core fun _ => by simp [State.core, ident_frame]

theorem status_guarded (tag : Half) :
    Guarding (status tag) := guarding_of_core fun _ => by simp [State.core, status_frame]

theorem trackConfig_guarded (tag pitch : Half) (length : Byte) (infeedStart infeedEnd : Half) :
    Guarding (trackConfig tag pitch length infeedStart infeedEnd) := guarding_of_core fun _ => by simp [State.core, trackConfig_frame]

theorem cameraConfig_guarded (tag : Half) (camera enabled position : Byte) (phase classMask : Half) (required deadline : Byte) :
    Guarding (cameraConfig tag camera enabled position phase classMask required deadline) := guarding_of_core fun _ => by simp [State.core, cameraConfig_frame]

theorem gateConfig_guarded (tag : Half) (gate enabled position : Byte) (phase : Half) (width : Byte) (classMask : Half) (window : Byte) :
    Guarding (gateConfig tag gate enabled position phase width classMask window) := guarding_of_core fun _ => by simp [State.core, gateConfig_frame]

theorem fillerConfig_guarded (tag : Half) (entry exit approach : Byte) :
    Guarding (fillerConfig tag entry exit approach) := guarding_of_core fun _ => by simp [State.core, fillerConfig_frame]

theorem trackRead_guarded (tag : Half) (position : Byte) :
    Guarding (trackRead tag position) := guarding_of_core fun _ => by simp [State.core, trackRead_frame]

theorem trackTally_guarded (tag : Half) (clear : Byte) :
    Guarding (trackTally tag clear) := guarding_of_core fun _ => by simp [State.core, trackTally_frame]

theorem robotRead_guarded (tag : Half) (robot : Byte) :
    Guarding (robotRead tag robot) := guarding_of_core fun _ => by simp [State.core, robotRead_frame]

theorem powerRead_guarded (tag : Half) :
    Guarding (powerRead tag) := guarding_of_core fun _ => by simp [State.core, powerRead_frame]

theorem clearGateFault_guarded (tag : Half) (number : Byte) :
    Guarding (clearGateFault tag number) := guarding_of_core fun _ => by simp [State.core, clearGateFault_frame]

theorem lineRelease_guarded (tag : Half) :
    Guarding (lineRelease tag) := guarding_of_core fun _ => by simp [State.core, lineRelease_frame]

theorem grantRead_guarded (tag : Half) (place : Byte) :
    Guarding (grantRead tag place) := guarding_of_core fun _ => by simp [State.core, grantRead_frame]

theorem timeSet_guarded (tag : Half) (seconds : Long) :
    Guarding (timeSet tag seconds) := guarding_of_core fun _ => by simp [State.core, timeSet_frame]

theorem timeRead_guarded (tag : Half) :
    Guarding (timeRead tag) := guarding_of_core fun _ => by simp [State.core, timeRead_frame]

theorem counterRead_guarded (tag : Half) (counter : Byte) :
    Guarding (counterRead tag counter) := guarding_of_core fun _ => by simp [State.core, counterRead_frame]

/-! ## The requests by their rules -/

theorem requestRules_guarded :
    ∀ owned ∈ requestRules, ∀ tag fields, Guarding (owned.2 tag fields) := by
  simp only [requestRules, List.forall_mem_cons]
  exact ⟨fun _ _ => ident_guarded _,
    fun _ _ => status_guarded _,
    fun tag _ => restart_guarded tag,
    fun _ _ => trackConfig_guarded _ _ _ _ _,
    fun _ _ => cameraConfig_guarded _ _ _ _ _ _ _ _,
    fun _ _ => gateConfig_guarded _ _ _ _ _ _ _ _,
    fun _ _ => fillerConfig_guarded _ _ _ _,
    fun _ _ => trackRead_guarded _ _,
    fun _ _ => trackTally_guarded _ _,
    fun _ _ => trackFlush_guarded _,
    fun _ _ => robotConfig_guarded _ _ _ _,
    fun _ _ => recipeLoad_guarded _ _ _,
    fun _ _ => robotMode_guarded _ _ _,
    fun _ _ => robotRead_guarded _ _,
    fun _ _ => groupClose_guarded _ _,
    fun _ _ => groupOpen_guarded _ _,
    fun _ _ => powerRead_guarded _,
    fun _ _ => faultClear_guarded _ _ _,
    fun _ _ => lineRelease_guarded _,
    fun _ _ => grantRequest_guarded _ _ _ _ _,
    fun _ _ => grantEnd_guarded _ _,
    fun _ _ => grantExtend_guarded _ _ _,
    fun _ _ => grantRead_guarded _ _,
    fun _ _ => timeSet_guarded _ _,
    fun _ _ => timeRead_guarded _,
    fun _ _ => counterLoad_guarded _ _ _,
    fun _ _ => counterLimits_guarded _ _ _ _ _ _,
    fun _ _ => counterReset_guarded _ _,
    fun _ _ => counterRead_guarded _ _,
    fun _ _ => eventRead_guarded _ _,
    fun _ impossible => absurd impossible List.not_mem_nil⟩

theorem serve_guarded (f : Frame) : Guarding (serve f) := by
  intro s₀ s h
  unfold serve
  split
  case h_1 size rule sized owned =>
    split
    case isTrue => exact requestRules_guarded _ (rule_mem_of_lookup owned) _ _ h
    case isFalse => exact refuse_guarded _ _ _ h
  case h_2 => exact refuse_guarded _ _ _ h

theorem requestTaken_guarded : Guarding requestTaken := fun _ s h => by
  unfold requestTaken
  split
  · exact serve_guarded _ (h.trans (guarded_of_core rfl))
  · exact h

/-! ## Every command -/

theorem next_guarded {op : State → State} (keeps : Guarding op) {s t : State}
    (step : (.next (op s) : Result) = .next t) : Guarded s t := by
  cases step
  exact keeps (.refl s)

/-- A request acts by its rule, or waits as a change of the link alone. -/
theorem request_guarded {rule : State → State} (keeps : Guarding rule) {row : Instr} {s t : State}
    (step : hostRequest row rule s = .next t) : Guarded s t := by
  obtain ⟨-, rfl⟩ | ⟨-, link, rfl⟩ := hostRequest_cases step
  · exact keeps (.refl s)
  · exact guarded_of_core rfl

theorem settled_guarded {op : State → State} (keeps : Guarding op) : Guarding fun s => settle (op s) :=
  fun _ _ h => settle_guarded (keeps h)

theorem unknownStatus_guarded (n : CameraId) (value : Byte) :
    Guarding fun s => if value = 1 ∨ value = 2 then s else sendRecord n .status [value] s :=
  guarding_of_core fun _ => by split <;> simp [State.core, sendRecord_frame]

theorem strayParameter_guarded (n : CameraId) (value : Byte) :
    Guarding fun s => if s.cameras[n].receiver = .idle then takeByte n false value s else s :=
  guarding_of_core fun _ => by split <;> simp [State.core, takeByte_frame]

theorem mapLink_guarded (f : Link → Link) : Guarding (State.mapLink · f) := guarding_of_core fun _ => rfl

theorem exec_guarded {c : Instr} {s t : State} (step : exec c s = .next t) : Guarded s t := by
  cases c <;> dsimp only [exec] at step
  case powerOnReset => exact next_guarded (powerOnReset_guarded _ _) step
  case msTick => exact next_guarded tick_guarded step
  case secondsRollover => exact next_guarded secondsRollover_guarded step
  case encCountedEdge infActive => exact next_guarded (countedEdge_guarded infActive) step
  case verdictDeadline => exact next_guarded (guarding_of_core fun _ => by simp [State.core, deadlineCheck_frame]) step
  case confirmExpiry => exact next_guarded (guarding_of_core fun _ => by simp [State.core, expireConfirm_frame]) step
  case fillExitLimit => exact next_guarded (settled_guarded (exitLimit_guarded _)) step
  case fillApproachLimit => exact next_guarded (settled_guarded (approachLimit_guarded _)) step
  case triggerPulseEnd => cases step; exact guarded_of_core rfl
  case gatePulseEnd => exact next_guarded (sharePulse_guarded _) step
  case strayEdge => exact next_guarded (guarding_of_core fun _ => by simp [State.core, strayEdge_frame]) step
  case runRise => exact next_guarded (guarding_of_core fun _ => by simp [State.core, runRise_frame]) step
  case runFall => cases step; exact guarded_of_core rfl
  case verdict => exact next_guarded (guarding_of_core fun _ => by simp [State.core, sendRecord_frame]) step
  case statusReady => exact next_guarded (guarding_of_core fun _ => by simp [State.core, sendRecord_frame]) step
  case statusNotReady => exact next_guarded (guarding_of_core fun _ => by simp [State.core, sendRecord_frame]) step
  case statusUnknownValue => exact next_guarded (unknownStatus_guarded _ _) step
  case cameraKindByte => exact next_guarded (guarding_of_core fun _ => by simp [State.core, takeByte_frame]) step
  case strayParameter => exact next_guarded (strayParameter_guarded _ _) step
  case cameraLost => exact next_guarded (shareSilence_guarded _) step
  case gateConfirm => exact next_guarded (guarding_of_core fun _ => by simp [State.core, confirmEdge_frame]) step
  case busTransactionStart => exact next_guarded startTransaction_guarded step
  case broadcastHoldSent => exact next_guarded (settled_guarded broadcastSent_guarded) step
  case commandTransactionDone => exact next_guarded (settled_guarded (commandDone_guarded _)) step
  case pollDone => exact next_guarded (settled_guarded (pollDone_guarded _ _ _)) step
  case pollTimer => exact next_guarded (sharePoll_guarded _) step
  case clockHoldTimeout => exact next_guarded (settled_guarded (clockHold_guarded _)) step
  case flowPulse => exact next_guarded (flowPulse_guarded _) step
  case settleEnd => exact next_guarded (shareSettle_guarded _) step
  case noFlow => exact next_guarded (shareNoFlow_guarded _) step
  case valveCheckExpiry => exact next_guarded (shareCheck_guarded _) step
  case valveFeedbackChange => exact next_guarded (settled_guarded (feedbackChange_guarded _ _)) step
  case valveTimeSecond => exact next_guarded (shareValveTime_guarded _) step
  case mainSwitchContactChange => exact next_guarded (settled_guarded (contactChange_guarded _ _)) step
  case switchDiscrepancy => exact next_guarded shareAlike_guarded step
  case mirrorContactChange => exact next_guarded (settled_guarded (mirrorChange_guarded _ _)) step
  case pullinTimeout => exact next_guarded (shareGroup_guarded _ (pullinExpiry_guarded _)) step
  case fallOut => exact next_guarded (shareFallOut_guarded _) step
  case dropoutTimeout => exact next_guarded (shareGroup_guarded _ (dropoutExpiry_guarded _)) step
  case weldDetected => exact next_guarded (shareGroup_guarded _ (weldExpiry_guarded _)) step
  case doorChange => exact next_guarded (settled_guarded (doorChange_guarded _ _)) step
  case drainEnd => exact next_guarded (settled_guarded (judgeDrain_guarded _)) step
  case drainLimit => exact next_guarded (shareDrain_guarded _) step
  case isolationComplete => exact next_guarded (settled_guarded (judgeIsolation_guarded _)) step
  case grantExpiry => exact next_guarded (shareExpiry_guarded _) step
  case frameChecked => exact next_guarded (guarding_of_core fun _ => by simp [State.core, frameChecked_frame]) step
  case lengthAbandon => exact next_guarded (guarding_of_core fun _ => by simp [State.core, lengthAbandon_frame]) step
  case gapTimeout => exact next_guarded shareGap_guarded step
  case requestTaken => exact next_guarded requestTaken_guarded step
  case ident => exact request_guarded (ident_guarded _) step
  case status => exact request_guarded (status_guarded _) step
  case restart => exact request_guarded (restart_guarded _) step
  case trackConfig => exact request_guarded (trackConfig_guarded _ _ _ _ _) step
  case cameraConfig => exact request_guarded (cameraConfig_guarded _ _ _ _ _ _ _ _) step
  case gateConfig => exact request_guarded (gateConfig_guarded _ _ _ _ _ _ _ _) step
  case fillerConfig => exact request_guarded (fillerConfig_guarded _ _ _ _) step
  case trackRead => exact request_guarded (trackRead_guarded _ _) step
  case trackTally => exact request_guarded (trackTally_guarded _ _) step
  case trackFlush => exact request_guarded (trackFlush_guarded _) step
  case robotConfig => exact request_guarded (robotConfig_guarded _ _ _ _) step
  case recipeLoad => exact request_guarded (recipeLoad_guarded _ _ _) step
  case robotMode => exact request_guarded (robotMode_guarded _ _ _) step
  case robotRead => exact request_guarded (robotRead_guarded _ _) step
  case groupClose => exact request_guarded (groupClose_guarded _ _) step
  case groupOpen => exact request_guarded (groupOpen_guarded _ _) step
  case powerRead => exact request_guarded (powerRead_guarded _) step
  case faultClearGate => exact request_guarded (clearGateFault_guarded _ _) step
  case faultClearRobot => exact request_guarded (clearRobotFault_guarded _ _) step
  case faultClearSwitch => exact request_guarded (clearSwitchFault_guarded _ _) step
  case faultClearGroup => exact request_guarded (clearGroupFault_guarded _ _) step
  case faultClearZone => exact request_guarded (clearZoneLatch_guarded _ _) step
  case faultClearCabinet => exact request_guarded (clearCabinetLatch_guarded _ _) step
  case lineRelease => exact request_guarded (lineRelease_guarded _) step
  case grantRequest => exact request_guarded (grantRequest_guarded _ _ _ _ _) step
  case grantEnd => exact request_guarded (grantEnd_guarded _ _) step
  case grantExtend => exact request_guarded (grantExtend_guarded _ _ _) step
  case grantRead => exact request_guarded (grantRead_guarded _ _) step
  case timeSet => exact request_guarded (timeSet_guarded _ _) step
  case timeRead => exact request_guarded (timeRead_guarded _) step
  case counterLoad => exact request_guarded (counterLoad_guarded _ _ _) step
  case counterLimits => exact request_guarded (counterLimits_guarded _ _ _ _ _ _) step
  case counterReset => exact request_guarded (counterReset_guarded _ _) step
  case counterRead => exact request_guarded (counterRead_guarded _ _) step
  case eventRead => exact request_guarded (eventRead_guarded _ _) step
  case cameraClockEdge => exact next_guarded (guarding_of_core fun _ => by simp [State.core, clockBit_frame]) step
  case cameraSelectRise => exact next_guarded (guarding_of_core fun _ => by simp [State.core, selectRise_frame]) step
  case cameraParameterByte => exact next_guarded (guarding_of_core fun _ => by simp [State.core, takeByte_frame]) step
  case rxdByteTaken => exact next_guarded (mapLink_guarded _) step
  case replySent => exact next_guarded (mapLink_guarded _) step
  case robotClockRelease => exact next_guarded (clockRelease_guarded _) step

/-! ## The two safety properties -/

/-- Settles O7: what every command keeps, for the first waiting one. -/
theorem fillsStayPowered : Obligations.FillsStayPowered := by
  intro s t coils fills run
  obtain rfl | ⟨c, rest, -, ran⟩ := step_cases run
  · exact ⟨coils, fills⟩
  · obtain ⟨coils, fills⟩ := (exec_guarded ran).power ⟨coils, (fillsPowered_iff s).1 fills⟩
    exact ⟨coils, (fillsPowered_iff t).2 fills⟩

theorem hasDoor_zoneDoor (g : Grant) (z : GroupId) :
    g.hasDoor (zoneDoor z) = true ↔ g.kind = .cabinet ∨ (g.kind = .zoneEntry ∧ g.zones.getLsbD z.val = true) := by
  unfold Grant.hasDoor Grant.covers
  rw [doorZone_zoneDoor]
  cases g.kind with
  | zoneEntry => simp
  | cabinet => simp
  | jog => simp

theorem hasDoor_cabinetDoor (g : Grant) : g.hasDoor cabinetDoor = true ↔ g.kind = .cabinet := by
  unfold Grant.hasDoor
  rw [show doorZone cabinetDoor = none by decide]
  cases g.kind with
  | zoneEntry => simp
  | cabinet => simp
  | jog => simp

/-- Settles O8: the isolation by what every command keeps, the releases by the grants in OPEN or OVERDUE. -/
theorem grantedZonesStayUnpowered : Obligations.GrantedZonesStayUnpowered := by
  refine ⟨fun s t isolated run => ?_, fun s z => ?_, fun s => ?_⟩
  · obtain rfl | ⟨c, rest, -, ran⟩ := step_cases run
    · exact isolated
    · exact (exec_guarded ran).zones isolated
  · unfold release
    rw [doorZone_zoneDoor, Bool.and_eq_true, doorReleased_iff, and_comm]
    simp only [Bool.and_eq_true, hasDoor_zoneDoor, releasing_iff, Bool.not_eq_true']
  · unfold release
    rw [show doorZone cabinetDoor = none by decide, Bool.and_eq_true, doorReleased_iff, and_comm]
    simp only [Bool.and_eq_true, hasDoor_cabinetDoor, releasing_iff, List.all_eq_true, Bool.not_eq_true', mem_allUnits,
      forall_const]

end Sys2Proof.Machine
end


section
/-! What a request does, it does whatever requests wait behind it (O14): no operation it reaches looks at the receive buffer
or changes it. -/

set_option Elab.async false

namespace Sys2Proof.Machine

/-! ## The relation -/

/-- The operation neither looks at the requests that wait nor changes them. -/
abbrev Passing (op : State → State) : Prop := ∀ (s : State) (rest : List Frame), op (s.withBuffer rest) = (op s).withBuffer rest

theorem forEach_passing {α : Type} (us : List α) {act : α → State → State} (each : ∀ u, Passing (act u)) :
    Passing (forEach us act) := by
  induction us with
  | nil => exact fun _ _ => rfl
  | cons u us ih => exact fun s rest => by rw [forEach_cons, forEach_cons, each, ih]

/-- Beside the link every part is as it was. -/
@[simp] theorem withBuffer_frame (s : State) (rest : List Frame) :
    (s.withBuffer rest).pins = s.pins ∧ (s.withBuffer rest).pitch = s.pitch ∧ (s.withBuffer rest).track = s.track
      ∧ (s.withBuffer rest).cameras = s.cameras ∧ (s.withBuffer rest).gates = s.gates ∧ (s.withBuffer rest).stops = s.stops
      ∧ (s.withBuffer rest).fill = s.fill ∧ (s.withBuffer rest).robots = s.robots ∧ (s.withBuffer rest).doses = s.doses
      ∧ (s.withBuffer rest).bus = s.bus ∧ (s.withBuffer rest).mainSwitch = s.mainSwitch
      ∧ (s.withBuffer rest).groups = s.groups ∧ (s.withBuffer rest).access = s.access ∧ (s.withBuffer rest).time = s.time
      ∧ (s.withBuffer rest).counters = s.counters ∧ (s.withBuffer rest).events = s.events
      ∧ (s.withBuffer rest).pending = s.pending :=
  ⟨rfl, rfl, rfl, rfl, rfl, rfl, rfl, rfl, rfl, rfl, rfl, rfl, rfl, rfl, rfl, rfl, rfl⟩

theorem withBuffer_ite (c : Prop) [Decidable c] (s t : State) (rest : List Frame) :
    (if c then s else t).withBuffer rest = if c then s.withBuffer rest else t.withBuffer rest :=
  apply_ite (fun u : State => u.withBuffer rest) c s t

/-! ## The basic updates -/

theorem mapCamera_passing (n : CameraId) (f : Camera → Camera) : Passing (State.mapCamera · n f) := fun _ _ => rfl

theorem mapGate_passing (g : GateId) (f : Gate → Gate) : Passing (State.mapGate · g f) := fun _ _ => rfl

theorem mapRobot_passing (r : RobotId) (f : Robot → Robot) : Passing (State.mapRobot · r f) := fun _ _ => rfl

theorem mapDose_passing (r : RobotId) (f : Dose → Dose) : Passing (State.mapDose · r f) := fun _ _ => rfl

theorem mapQueue_passing (r : RobotId) (f : RobotQueue → RobotQueue) : Passing (State.mapQueue · r f) := fun _ _ => rfl

theorem putGrant_passing (i : PlaceId) (g : Option Grant) : Passing (State.putGrant · i g) := fun _ _ => rfl

theorem accept_passing (kind : Byte) (tag : Half) (fields : List Byte) : Passing (accept kind tag fields) := fun _ _ => rfl

theorem refuse_passing (kind : Byte) (tag : Half) (code : ReplyCode) : Passing (refuse kind tag code) := fun _ _ => rfl

theorem raiseEvent_passing (kind : EventKind) (unit : Nat) (detail1 detail2 : Half) :
    Passing (raiseEvent kind unit detail1 detail2) := fun s rest => by
  unfold raiseEvent
  simp only [withBuffer_frame, withBuffer_ite]
  rfl

theorem raiseCommand_passing (r : RobotId) (c : BusCommand) : Passing (raiseCommand r c) := fun s rest => by
  unfold raiseCommand
  simp only [withBuffer_frame, withBuffer_ite]
  rfl

theorem storeCounter_passing (i : CounterId) (c : Counter) : Passing (storeCounter i c) := fun s rest => by
  unfold storeCounter
  simp only [withBuffer_frame, withBuffer_ite, ← raiseEvent_passing]
  rfl

theorem countOn_passing (i : CounterId) : Passing (countOn i) := fun s rest => storeCounter_passing _ _ s rest

theorem editSlotAt_passing (p : Nat) (f : Slot → Slot) : Passing (editSlotAt p f) := fun _ _ => rfl

theorem editSlot_passing (t : Half) (f : Slot → Slot) : Passing (editSlot t f) := fun s rest => by
  unfold editSlot
  rw [show (s.withBuffer rest).positionOf t = s.positionOf t from rfl]
  cases s.positionOf t with
  | some p => rfl
  | none => rfl

/-! ## Robots and their fills -/

theorem failJob_passing (r : RobotId) (outcome : FillOutcome) (ending : Ending) : Passing (failJob r outcome ending) := fun s rest => by
  unfold failJob dropJob recordFill
  simp only [withBuffer_frame]
  cases s.robots[r].job with
  | none => rfl
  | some j =>
    simp only [mapDose_passing, editSlot_passing, ← withBuffer_ite, countOn_passing, raiseCommand_passing, mapRobot_passing]

theorem abortJob_passing (r : RobotId) : Passing (abortJob r) := failJob_passing r .aborted .aborted

theorem changeRobot_passing (r : RobotId) (f : Robot → Robot) : Passing (changeRobot r f) := fun s rest => by
  unfold changeRobot
  simp only [withBuffer_frame, mapRobot_passing, raiseEvent_passing, ← withBuffer_ite]

theorem enterService_passing (jog : Bool) (r : RobotId) : Passing (enterService jog r) := fun s rest => by
  unfold enterService
  simp only [withBuffer_frame, changeRobot_passing, raiseCommand_passing, ← withBuffer_ite]

theorem leaveService_passing (r : RobotId) : Passing (leaveService r) := fun s rest => by
  unfold leaveService
  simp only [withBuffer_frame, changeRobot_passing, raiseCommand_passing, ← withBuffer_ite]

theorem judgeReleases_passing : Passing judgeReleases := forEach_passing _ fun r s rest => by
  unfold judgeRelease
  simp only [withBuffer_frame, show available (s.withBuffer rest) r = available s r from rfl,
    show releaseQueued (s.withBuffer rest) r = releaseQueued s r from rfl, raiseCommand_passing, ← withBuffer_ite]

/-! ## Power (6.2) -/

theorem enterGroup_passing (g : GroupId) (st : GroupState) : Passing (enterGroup g st) := fun s rest =>
  raiseEvent_passing _ _ _ _ (s.mapGroup g fun _ => { state := st, timer := entryTimer st s.pins.mirror[g] }) rest

theorem leaveClosed_passing (zones : List GroupId) : Passing (leaveClosed zones) := forEach_passing _ fun r s rest => by
  simp only [withBuffer_frame, abortJob_passing, mapRobot_passing, ← withBuffer_ite]

theorem dropCoil_passing (g : GroupId) : Passing (dropCoil g) := fun s rest => by
  unfold dropCoil
  simp only [withBuffer_frame, enterGroup_passing, ← withBuffer_ite]

theorem openGroup_passing (g : GroupId) : Passing (openGroup g) := fun s rest => by
  unfold openGroup
  simp only [withBuffer_frame, dropCoil_passing, leaveClosed_passing, ← withBuffer_ite]

theorem closeGroup_passing (g : GroupId) : Passing (closeGroup g) := fun s rest => by
  unfold closeGroup
  simp only [withBuffer_frame, enterGroup_passing, countOn_passing, ← withBuffer_ite]

/-! ## Grants (7.2, 7.3) -/

theorem enterGrant_passing (i : PlaceId) (g : Grant) (st : GrantState) : Passing (enterGrant i g st) := fun s rest =>
  raiseEvent_passing _ _ _ _ (s.putGrant i (some { g with state := st })) rest

theorem serveRobots_passing (g : Grant) : Passing (serveRobots g) := forEach_passing _ fun r s rest => by
  simp only [withBuffer_frame, enterService_passing, ← withBuffer_ite]

theorem endDrain_passing (i : PlaceId) (g : Grant) : Passing (endDrain i g) := fun s rest => by
  have opens := forEach_passing (coveredZones g) openGroup_passing
  unfold endDrain
  simp only [serveRobots_passing, enterGrant_passing, opens, ← withBuffer_ite]

theorem judgeDrain_passing (i : PlaceId) : Passing (judgeDrain i) := fun s rest => by
  unfold judgeDrain
  simp only [withBuffer_frame]
  cases s.access.grants[i] with
  | none => rfl
  | some g =>
    simp only [show drained (s.withBuffer rest) g = drained s g from rfl, endDrain_passing, ← withBuffer_ite]

theorem judgeIsolation_passing (i : PlaceId) : Passing (judgeIsolation i) := fun s rest => by
  unfold judgeIsolation
  simp only [withBuffer_frame]
  cases s.access.grants[i] with
  | none => rfl
  | some g =>
    simp only [show weldedGroup (s.withBuffer rest) g = weldedGroup s g from rfl,
      show isolated (s.withBuffer rest) = isolated s from rfl]
    cases weldedGroup s g with
    | some z => simp only [raiseEvent_passing, enterGrant_passing, ← withBuffer_ite]
    | none => simp only [enterGrant_passing, ← withBuffer_ite]

theorem judgeGrants_passing : Passing judgeGrants := forEach_passing _ fun i s rest => by
  simp only [judgeDrain_passing, judgeIsolation_passing]

theorem settle_passing : Passing settle := fun s rest => by
  unfold settle
  rw [judgeGrants_passing, judgeReleases_passing]

theorem endGrant_passing (i : PlaceId) (g : Grant) : Passing (endGrant i g) := fun s rest => by
  have left := forEach_passing (allUnits 8)
    (act := fun r t => if g.covers t.robots[r].zone && !locked (s.putGrant i none) t.robots[r].zone then leaveService r t else t)
    fun r t rest => by simp only [withBuffer_frame, leaveService_passing, ← withBuffer_ite]
  unfold endGrant raiseGrantState
  simp only [putGrant_passing, show ∀ t : State, locked (t.withBuffer rest) = locked t from fun _ => rfl]
  rw [left, raiseEvent_passing]

theorem endByRequest_passing (i : PlaceId) (g : Grant) : Passing (endByRequest i g) := fun s rest => by
  unfold endByRequest
  simp only [show openDoors (s.withBuffer rest) g = openDoors s g from rfl, endGrant_passing, enterGrant_passing, ← withBuffer_ite]
  cases g.state <;> rfl

theorem extendGrant_passing (i : PlaceId) (g : Grant) (minutes : Nat) : Passing (extendGrant i g minutes) := fun s rest => by
  unfold extendGrant
  simp only [withBuffer_frame, enterGrant_passing, putGrant_passing, ← withBuffer_ite]

theorem placeGrant_passing (i : PlaceId) (g : Grant) : Passing (placeGrant i g) := fun s rest =>
  raiseEvent_passing _ _ _ _
    { s.putGrant i (some g) with access :=
        { (s.putGrant i (some g)).access with nextNumber := freeNumber (s.putGrant i (some g)) 9 (numberAfter g.number) } } rest

/-! ## Cameras, gates and the discharge of a slot -/

theorem missAll_passing (n : CameraId) (required : Bool) : Passing (missAll n required) := fun s rest =>
  forEach_passing (List.range s.track.length) (fun p => editSlotAt_passing p fun sl => sl.miss n required) s rest

theorem deadlineAt_passing (n : CameraId) (p : Nat) : Passing (deadlineAt n p) := fun s rest => by
  have missed : missAt n p (s.withBuffer rest) = (missAt n p s).withBuffer rest := rfl
  unfold deadlineAt
  simp only [show (s.withBuffer rest).slotAt = s.slotAt from rfl, missed, mapCamera_passing, ← withBuffer_ite]

theorem deadlineCheck_passing (n : CameraId) : Passing (deadlineCheck n) := fun s rest => by
  unfold deadlineCheck
  simp only [withBuffer_frame, forEach_passing _ (deadlineAt_passing n) s, ← withBuffer_ite]

theorem countUnconfirmed_passing (g : GateId) (t : Half) : Passing (countUnconfirmed g t) := fun s rest => by
  have added (u : State) : addGateFault (u.withBuffer rest) = (addGateFault u).withBuffer rest := rfl
  unfold countUnconfirmed
  simp only [withBuffer_frame, mapGate_passing, raiseEvent_passing, added, ← withBuffer_ite]

theorem unconfirm_passing (g : GateId) (why : UnconfirmedReason) (t : Half) : Passing (unconfirm g why t) := fun s rest => by
  unfold unconfirm
  simp only [editSlot_passing, raiseEvent_passing, countUnconfirmed_passing, ← withBuffer_ite]

theorem expireConfirm_passing (g : GateId) : Passing (expireConfirm g) := fun s rest => by
  unfold expireConfirm
  simp only [withBuffer_frame, mapGate_passing, forEach_passing _ fun e : ConfirmEntry => unconfirm_passing g .window e.ticket]

theorem checkLimits_passing : Passing checkLimits := fun s rest => by
  unfold checkLimits
  rw [forEach_passing _ deadlineCheck_passing, forEach_passing _ expireConfirm_passing]

theorem expireDischarged_passing (t : Half) (g : GateId) : Passing (expireDischarged t g) := fun s rest => by
  unfold expireDischarged
  simp only [withBuffer_frame, mapGate_passing, unconfirm_passing, ← withBuffer_ite]

theorem judgeLeaving_passing (sl : Slot) : Passing (judgeLeaving sl) := fun s rest => by
  have told (g : GateId) := raiseEvent_passing .escape g.val sl.ticket sl.defects s rest
  unfold judgeLeaving
  split
  · next g _ _ =>
    rw [told]
    rfl
  · rfl
  · rfl
  · rfl

theorem discharge_passing (p : Nat) : Passing (discharge p) := fun s rest => by
  have retired (t : Half) := forEach_passing (allUnits 6) (act := fun n u => u.mapCamera n fun c => c.retire t) (fun _ _ _ => rfl) s rest
  unfold discharge retireAll
  simp only [show (s.withBuffer rest).slotAt = s.slotAt from rfl, retired, forEach_passing _ (expireDischarged_passing _),
    judgeLeaving_passing]
  rfl

/-! ## The settings (R6 to R11, R24, R45, R71) -/

theorem raiseClamped_passing (unit phase : Nat) : Passing (raiseClamped unit phase) := fun s rest =>
  raiseEvent_passing _ _ _ _ s rest

theorem clampCamera_passing (n : CameraId) : Passing (clampCamera n) := fun s rest => by
  unfold clampCamera
  simp only [withBuffer_frame, mapCamera_passing, raiseClamped_passing, ← withBuffer_ite]

theorem clampGate_passing (g : GateId) : Passing (clampGate g) := fun s rest => by
  unfold clampGate
  simp only [withBuffer_frame, mapGate_passing, raiseClamped_passing, ← withBuffer_ite]

theorem clampWindowStart_passing : Passing clampWindowStart := fun s rest => by
  have clamped := raiseClamped_passing 8 s.pitch.windowStart
    { s with pitch := { s.pitch with windowStart := s.pitch.length - 1 } } rest
  unfold clampWindowStart
  simp only [withBuffer_ite, ← clamped]
  rfl

theorem clampWindowEnd_passing : Passing clampWindowEnd := fun s rest => by
  have clamped := raiseClamped_passing 9 s.pitch.windowEnd
    { s with pitch := { s.pitch with windowEnd := s.pitch.length - 1 } } rest
  unfold clampWindowEnd
  simp only [withBuffer_ite, ← clamped]
  rfl

theorem clampCounter_passing : Passing clampCounter := fun _ _ => rfl

theorem clampAll_passing : Passing clampAll := fun s rest => by
  unfold clampAll
  rw [forEach_passing _ clampCamera_passing, forEach_passing _ clampGate_passing, clampWindowStart_passing,
    clampWindowEnd_passing, clampCounter_passing]

theorem activateStaged_passing : Passing activateStaged := fun s rest => by
  unfold activateStaged
  rw [forEach_passing _ fun n => mapCamera_passing n _, forEach_passing _ fun g => mapGate_passing g _]

theorem layoutBase_passing (layout : Bool) : Passing (layoutBase layout) := fun s rest => by
  unfold layoutBase
  simp only [activateStaged_passing, ← withBuffer_ite]

theorem changeLength_passing (l : Nat) : Passing (changeLength l) := fun s rest => by
  have added := forEach_passing ((List.range l).filter fun p => decide (s.track.length ≤ p)) (act := addSlot) (fun _ _ _ => rfl) s rest
  have left := forEach_passing ((List.range s.track.length).filter fun p => decide (l ≤ p)).reverse discharge_passing s rest
  unfold changeLength
  simp only [withBuffer_frame, added, left, ← withBuffer_ite]
  rfl

theorem writeTrack_passing (pitch start stop : Nat) : Passing (writeTrack pitch start stop) := fun _ _ => rfl

/-- The checks of R9 look at no request. -/
theorem settingsOk_withBuffer (s : State) (rest : List Frame) : settingsOk (s.withBuffer rest) = settingsOk s := rfl

theorem trackConfig_passing (tag pitch : Half) (length : Byte) (infeedStart infeedEnd : Half) :
    Passing (trackConfig tag pitch length infeedStart infeedEnd) := fun s rest => by
  unfold trackConfig
  simp only [withBuffer_frame, layoutBase_passing, writeTrack_passing, clampAll_passing, checkLimits_passing,
    changeLength_passing, ← withBuffer_ite, accept_passing, refuse_passing]
  rfl

theorem reconfigureCamera_passing (n : CameraId) (old new : CameraSettings) : Passing (reconfigureCamera n old new) := fun s rest => by
  unfold reconfigureCamera
  simp only [missAll_passing, mapCamera_passing, ← withBuffer_ite]

theorem stageCamera_passing (n : CameraId) (new : CameraSettings) : Passing (stageCamera n new) := fun s rest => by
  unfold stageCamera
  simp only [withBuffer_frame, mapCamera_passing, raiseClamped_passing, ← withBuffer_ite]

theorem writeCamera_passing (n : CameraId) (new : CameraSettings) : Passing (writeCamera n new) := fun _ _ => rfl

theorem configureCamera_passing (tag : Half) (n : CameraId) (new : CameraSettings) : Passing (configureCamera tag n new) := fun s rest => by
  unfold configureCamera
  simp only [withBuffer_frame, layoutBase_passing, writeCamera_passing, settingsOk_withBuffer, stageCamera_passing,
    clampAll_passing, reconfigureCamera_passing, checkLimits_passing, ← withBuffer_ite, accept_passing, refuse_passing]

theorem cameraConfig_passing (tag : Half) (camera enabled position : Byte) (phase classMask : Half) (required deadline : Byte) :
    Passing (cameraConfig tag camera enabled position phase classMask required deadline) := fun s rest => by
  unfold cameraConfig
  split
  · simp only [configureCamera_passing, refuse_passing, ← withBuffer_ite]
  · rfl

theorem dropRejects_passing (g : GateId) : Passing (dropRejects g) := fun s rest => by
  unfold dropRejects
  simp only [withBuffer_frame, mapGate_passing, forEach_passing _ (unconfirm_passing g .reconfigured)]

theorem reconfigureGate_passing (g : GateId) (old new : GateSettings) : Passing (reconfigureGate g old new) := fun s rest => by
  unfold reconfigureGate
  simp only [dropRejects_passing, mapGate_passing, ← withBuffer_ite]

theorem stageGate_passing (g : GateId) (new : GateSettings) : Passing (stageGate g new) := fun s rest => by
  unfold stageGate
  simp only [withBuffer_frame, mapGate_passing, raiseClamped_passing, ← withBuffer_ite]

theorem writeGate_passing (g : GateId) (new : GateSettings) : Passing (writeGate g new) := fun _ _ => rfl

theorem configureGate_passing (tag : Half) (g : GateId) (new : GateSettings) : Passing (configureGate tag g new) := fun s rest => by
  unfold configureGate
  simp only [withBuffer_frame, layoutBase_passing, writeGate_passing, settingsOk_withBuffer, stageGate_passing,
    show ∀ u : State, gateWindowOk (u.withBuffer rest) = gateWindowOk u from fun _ => rfl, clampAll_passing,
    reconfigureGate_passing, checkLimits_passing, ← withBuffer_ite, accept_passing, refuse_passing]

theorem gateConfig_passing (tag : Half) (gate enabled position : Byte) (phase : Half) (width : Byte) (classMask : Half)
    (window : Byte) : Passing (gateConfig tag gate enabled position phase width classMask window) := fun s rest => by
  unfold gateConfig
  split
  · simp only [configureGate_passing, refuse_passing, ← withBuffer_ite]
  · rfl

theorem fillerConfig_passing (tag : Half) (entry exit approach : Byte) : Passing (fillerConfig tag entry exit approach) := fun s rest => by
  have written (f : FillSection) (u : State) :
      ({ u.withBuffer rest with fill := f } : State) = State.withBuffer { u with fill := f } rest := rfl
  have busy : anyJob (s.withBuffer rest) = anyJob s := rfl
  have layout : (s.withBuffer rest).fill = s.fill ∧ (s.withBuffer rest).pins = s.pins := ⟨rfl, rfl⟩
  unfold fillerConfig
  simp only [layout, busy, layoutBase_passing, written, settingsOk_withBuffer, clampAll_passing, checkLimits_passing,
    ← withBuffer_ite, accept_passing, refuse_passing]

end Sys2Proof.Machine
end


section
/-! Every request but RESTART does what it does with the same requests waiting behind it, and its frame reaches it (O14). -/

set_option Elab.async false

namespace Sys2Proof.Machine

/-! ## Reading and flushing the track, robots and power -/

theorem emptySlots_passing : Passing emptySlots := fun s rest =>
  forEach_passing (List.range s.track.length) (act := fun p t => putSlot p (Slot.fresh (t.slotAt p).ticket) t) (fun _ _ _ => rfl) s rest

theorem emptyUnitLists_passing : Passing emptyUnitLists := fun s rest => by
  unfold emptyUnitLists
  rw [forEach_passing _ fun n => mapCamera_passing n _, forEach_passing _ fun g => mapGate_passing g _]

theorem trackRead_passing (tag : Half) (position : Byte) : Passing (trackRead tag position) := fun s rest => by
  unfold trackRead
  simp only [withBuffer_frame, withBuffer_ite]
  rfl

theorem trackTally_passing (tag : Half) (clear : Byte) : Passing (trackTally tag clear) := fun s rest => by
  have cleared : ((s.withBuffer rest).mapTallies fun _ => Tallies.zero) = (s.mapTallies fun _ => Tallies.zero).withBuffer rest := rfl
  unfold trackTally
  split
  · simp only [withBuffer_frame, cleared, ← withBuffer_ite, accept_passing]
  · rfl

theorem trackFlush_passing (tag : Half) : Passing (trackFlush tag) := fun s rest => by
  unfold trackFlush
  simp only [withBuffer_frame, show heldSlots (s.withBuffer rest) = heldSlots s from rfl, forEach_passing _ abortJob_passing,
    emptySlots_passing, emptyUnitLists_passing, settle_passing, accept_passing, refuse_passing, ← withBuffer_ite]

theorem robotConfig_passing (tag : Half) (robot zone address : Byte) : Passing (robotConfig tag robot zone address) := fun s rest => by
  unfold robotConfig
  split
  · simp only [withBuffer_frame, show addressTaken (s.withBuffer rest) = addressTaken s from rfl, mapRobot_passing, accept_passing,
      refuse_passing, ← withBuffer_ite]
  · rfl

theorem recipeLoad_passing (tag : Half) (robot : Byte) (new : Recipe) : Passing (recipeLoad tag robot new) := fun s rest => by
  unfold recipeLoad
  split
  · simp only [withBuffer_frame, withBuffer_ite]
    rfl
  · rfl

theorem leaveOff_passing (r : RobotId) : Passing (leaveOff r) := fun s rest =>
  changeRobot_passing r _ { s with time := { s.time with ahead := s.time.ahead.filter fun share => share != .poll r } } rest

theorem enterOff_passing (r : RobotId) : Passing (enterOff r) := fun s rest =>
  changeRobot_passing r _ (s.mapQueue r fun q => q.keep fun e => !e.command.isPoll) rest

theorem modeChange_passing {s : State} {r : RobotId} {new : RobotMode} {change : State → State}
    (allowed : modeChange s r new = .ok change) : Passing change := by
  unfold modeChange at allowed
  split at allowed
  · cases allowed
  split at allowed
  · cases allowed
    exact leaveOff_passing r
  · cases allowed
    exact enterOff_passing r
  · split_ifs at allowed
    cases allowed
    exact changeRobot_passing r _
  · cases allowed
    exact fun s rest => by
      dsimp only
      rw [abortJob_passing, changeRobot_passing]
  · cases allowed

theorem robotMode_passing (tag : Half) (robot mode : Byte) : Passing (robotMode tag robot mode) := fun s rest => by
  unfold robotMode
  split
  · next r new _ _ =>
    simp only [withBuffer_frame, show modeChange (s.withBuffer rest) r new = modeChange s r new from rfl, withBuffer_ite]
    cases allowed : modeChange s r new with
    | ok change => simp only [modeChange_passing allowed, settle_passing, accept_passing]
    | error code => rfl
  · rfl

theorem clearRobotFault_passing (tag : Half) (number : Byte) : Passing (clearRobotFault tag number) := fun s rest => by
  unfold clearRobotFault
  split
  · simp only [withBuffer_frame, show reportsFault (s.withBuffer rest) = reportsFault s from rfl, changeRobot_passing,
      settle_passing, accept_passing, refuse_passing, ← withBuffer_ite]
  · rfl

theorem groupClose_passing (tag : Half) (group : Byte) : Passing (groupClose tag group) := fun s rest => by
  unfold groupClose
  split
  · next g _ =>
    rw [show closeRefusal (s.withBuffer rest) g = closeRefusal s g from rfl]
    split
    · rfl
    · simp only [withBuffer_frame, closeGroup_passing, settle_passing, ← withBuffer_ite, accept_passing]
  · rfl

theorem groupOpen_passing (tag : Half) (group : Byte) : Passing (groupOpen tag group) := fun s rest => by
  unfold groupOpen
  split
  · simp only [openGroup_passing, settle_passing, withBuffer_frame, accept_passing]
  · rfl

theorem clearSwitchFault_passing (tag : Half) (number : Byte) : Passing (clearSwitchFault tag number) := fun s rest => by
  unfold clearSwitchFault
  simp only [show State.pair (s.withBuffer rest) = s.pair from rfl, withBuffer_ite]
  rfl

theorem clearGroupFault_passing (tag : Half) (number : Byte) : Passing (clearGroupFault tag number) := fun s rest => by
  unfold clearGroupFault
  split
  · simp only [withBuffer_frame, enterGroup_passing, settle_passing, accept_passing, refuse_passing, ← withBuffer_ite]
  · rfl

theorem clearGateFault_passing (tag : Half) (number : Byte) : Passing (clearGateFault tag number) := fun s rest => by
  unfold clearGateFault
  split
  · rfl
  · rfl

theorem clearZoneLatch_passing (tag : Half) (number : Byte) : Passing (clearZoneLatch tag number) := fun s rest => by
  have set (z : GroupId) : setZoneLatch z false (s.withBuffer rest) = (setZoneLatch z false s).withBuffer rest := rfl
  unfold clearZoneLatch
  split
  · simp only [withBuffer_frame, set, settle_passing, accept_passing, refuse_passing, ← withBuffer_ite]
  · rfl

theorem clearCabinetLatch_passing (tag : Half) (number : Byte) : Passing (clearCabinetLatch tag number) := fun s rest => by
  unfold clearCabinetLatch
  simp only [withBuffer_frame, withBuffer_ite]
  rfl

theorem faultClear_passing (tag : Half) (target number : Byte) : Passing (faultClear tag target number) := fun s rest => by
  unfold faultClear
  simp only [clearGateFault_passing, clearRobotFault_passing, clearSwitchFault_passing, clearGroupFault_passing,
    clearZoneLatch_passing, clearCabinetLatch_passing, refuse_passing, ← withBuffer_ite]

/-! ## Grants, counters, time and events -/

theorem grantRequest_passing (tag : Half) (kind zones : Byte) (badge : Long) (duration : Half) :
    Passing (grantRequest tag kind zones badge duration) := fun s rest => by
  unfold grantRequest
  split
  · rfl
  · next k _ =>
    rw [show grantRefusal (s.withBuffer rest) k zones duration.toNat = grantRefusal s k zones duration.toNat from rfl,
      show freePlace (s.withBuffer rest) = freePlace s from rfl]
    split
    · rfl
    · rfl
    · simp only [show newGrant (s.withBuffer rest) = newGrant s from rfl, placeGrant_passing, settle_passing,
        show ∀ u : State, stateAfter (u.withBuffer rest) = stateAfter u from fun _ => rfl, accept_passing]

theorem grantEnd_passing (tag number : Half) : Passing (grantEnd tag number) := fun s rest => by
  unfold grantEnd
  rw [show placeOf (s.withBuffer rest) number = placeOf s number from rfl]
  cases placeOf s number with
  | none => rfl
  | some i =>
    simp only [withBuffer_frame]
    cases s.access.grants[i] with
    | none => rfl
    | some g =>
      simp only [endByRequest_passing, settle_passing, accept_passing,
        show ∀ u : State, stateAfter (u.withBuffer rest) = stateAfter u from fun _ => rfl]

theorem grantExtend_passing (tag number minutes : Half) : Passing (grantExtend tag number minutes) := fun s rest => by
  unfold grantExtend
  simp only [show placeOf (s.withBuffer rest) number = placeOf s number from rfl, withBuffer_ite, refuse_passing]
  cases placeOf s number with
  | none => rfl
  | some i =>
    simp only [withBuffer_frame]
    cases s.access.grants[i] with
    | none => rfl
    | some g =>
      simp only [extendGrant_passing, settle_passing, accept_passing, withBuffer_ite,
        show ∀ u : State, stateAfter (u.withBuffer rest) = stateAfter u from fun _ => rfl]

theorem grantRead_passing (tag : Half) (place : Byte) : Passing (grantRead tag place) := fun s rest => by
  unfold grantRead
  split
  · rfl
  · rfl

theorem robotRead_passing (tag : Half) (robot : Byte) : Passing (robotRead tag robot) := fun s rest => by
  unfold robotRead
  split
  · rfl
  · rfl

theorem acceptCounter_passing (kind : Byte) (tag : Half) (i : CounterId) (c : Counter) : Passing (acceptCounter kind tag i c) :=
  fun s rest => by
    unfold acceptCounter
    simp only [storeCounter_passing, settle_passing,
      show ∀ u : State, counterRecord (u.withBuffer rest) = counterRecord u from fun _ => rfl, accept_passing]

theorem counterLoad_passing (tag : Half) (counter : Byte) (total : Long) : Passing (counterLoad tag counter total) := fun s rest => by
  unfold counterLoad
  split
  · simp only [withBuffer_frame, acceptCounter_passing, refuse_passing, ← withBuffer_ite]
  · rfl

theorem counterLimits_passing (tag : Half) (counter : Byte) (warn due : Long) (margin zone : Byte) :
    Passing (counterLimits tag counter warn due margin zone) := fun s rest => by
  unfold counterLimits
  split
  · next i _ =>
    simp only [withBuffer_frame, withBuffer_ite, refuse_passing]
    cases limitsZone i s.counters[i] zone with
    | none => rfl
    | some z => simp only [acceptCounter_passing]
  · rfl

theorem counterReset_passing (tag : Half) (counter : Byte) : Passing (counterReset tag counter) := fun s rest => by
  unfold counterReset
  split
  · simp only [withBuffer_frame, show qualifyingPlace (s.withBuffer rest) = qualifyingPlace s from rfl, acceptCounter_passing,
      refuse_passing, ← withBuffer_ite]
  · rfl

theorem counterRead_passing (tag : Half) (counter : Byte) : Passing (counterRead tag counter) := fun s rest => by
  unfold counterRead
  split
  · rfl
  · rfl

theorem removeOldest_passing : Passing removeOldest := fun s rest => by
  unfold removeOldest
  simp only [withBuffer_frame]
  cases s.events.queue with
  | nil => rfl
  | cons e events =>
    simp only [withBuffer_ite]
    rfl

theorem removeRecords_passing (n : Nat) : Passing (removeRecords n) := by
  induction n with
  | zero => exact fun _ _ => rfl
  | succ n ih => exact fun s rest => by rw [removeRecords, removeRecords, removeOldest_passing, ih]

theorem deliver_withBuffer (n : Nat) (s : State) (rest : List Frame) : deliver n (s.withBuffer rest) = deliver n s := by
  induction n generalizing s with
  | zero => rfl
  | succ n ih => simp only [deliver, withBuffer_frame, removeOldest_passing, ih]

theorem eventRead_passing (tag : Half) (count : Byte) : Passing (eventRead tag count) := fun s rest => by
  unfold eventRead
  simp only [deliver_withBuffer, removeRecords_passing, accept_passing, refuse_passing, ← withBuffer_ite]

/-! ## The requests by their frames -/

theorem requestRules_passing : ∀ owned ∈ requestRules, owned.1 ≠ kindRestart → ∀ tag fields, Passing (owned.2 tag fields) := by
  simp only [requestRules, List.forall_mem_cons]
  exact ⟨fun _ _ _ _ _ => rfl,
    fun _ _ _ _ _ => rfl,
    fun other => absurd rfl other,
    fun _ _ _ => trackConfig_passing _ _ _ _ _,
    fun _ _ _ => cameraConfig_passing _ _ _ _ _ _ _ _,
    fun _ _ _ => gateConfig_passing _ _ _ _ _ _ _ _,
    fun _ _ _ => fillerConfig_passing _ _ _ _,
    fun _ _ _ => trackRead_passing _ _,
    fun _ _ _ => trackTally_passing _ _,
    fun _ _ _ => trackFlush_passing _,
    fun _ _ _ => robotConfig_passing _ _ _ _,
    fun _ _ _ => recipeLoad_passing _ _ _,
    fun _ _ _ => robotMode_passing _ _ _,
    fun _ _ _ => robotRead_passing _ _,
    fun _ _ _ => groupClose_passing _ _,
    fun _ _ _ => groupOpen_passing _ _,
    fun _ _ _ _ _ => rfl,
    fun _ _ _ => faultClear_passing _ _ _,
    fun _ _ _ _ _ => rfl,
    fun _ _ _ => grantRequest_passing _ _ _ _ _,
    fun _ _ _ => grantEnd_passing _ _,
    fun _ _ _ => grantExtend_passing _ _ _,
    fun _ _ _ => grantRead_passing _ _,
    fun _ _ _ _ _ => rfl,
    fun _ _ _ _ _ => rfl,
    fun _ _ _ => counterLoad_passing _ _ _,
    fun _ _ _ => counterLimits_passing _ _ _ _ _ _,
    fun _ _ _ => counterReset_passing _ _,
    fun _ _ _ => counterRead_passing _ _,
    fun _ _ _ => eventRead_passing _ _,
    fun _ impossible => absurd impossible List.not_mem_nil⟩

theorem serve_passing {f : Frame} (other : f.kind ≠ kindRestart) : Passing (serve f) := fun s rest => by
  unfold serve
  split
  case h_1 size rule sized owned =>
    split
    case isTrue => exact requestRules_passing _ (rule_mem_of_lookup owned) other _ _ s rest
    case isFalse => rfl
  case h_2 => rfl

/-- RESTART empties the buffer, whatever waits in it (R174, R185). -/
theorem serve_restart (tag : Half) (s : State) (rest : List Frame) :
    serve ⟨kindRestart, tag, []⟩ (s.withBuffer rest) = serve ⟨kindRestart, tag, []⟩ s := by
  rw [serve_eq_rule (f := ⟨kindRestart, tag, []⟩) (size := 0) (rule := fun t _ => restart t) rfl rfl rfl]
  rfl

/-- The frame of a request of the kind of RESTART is that of a RESTART. -/
theorem frame_of_restart {c : Instr} {f : Frame} (spelt : requestFrame c = some f) (kind : f.kind = kindRestart) :
    ∃ tag : Half, f = ⟨kindRestart, tag, []⟩ := by
  cases c <;> simp only [requestFrame, Option.some.injEq, reduceCtorEq] at spelt
  all_goals subst spelt
  case restart tag => exact ⟨tag, rfl⟩
  all_goals
    dsimp only at kind
    exact absurd kind (by decide)

/-- Settles O14: a frame is served as its request, and all but RESTART leave the frames behind it. -/
theorem requestFramesReachTheirRule : Obligations.RequestFramesReachTheirRule := by
  intro c f rest s spelt quiet waiting
  have idle : (s.withBuffer []).linkIdle = true := (linkIdle_iff _).2 ⟨quiet, rfl⟩
  refine ⟨serve f (s.withBuffer []), (exec_of_frame spelt _).trans (hostRequest_of_idle idle c (serve f)), ?_⟩
  have taken : requestTaken s = serve f (s.withBuffer rest) := requestTaken_of_waiting quiet waiting
  refine congrArg _ (taken.trans ?_)
  split
  · next restarts =>
    obtain ⟨tag, rfl⟩ := frame_of_restart spelt restarts
    rw [serve_restart tag s rest, serve_restart tag s []]
  · next other => exact serve_passing other (s.withBuffer []) rest

end Sys2Proof.Machine
end
